-- ==== Sys2Proof/Word.lean ====
section
/-!
DEFINITION. The words of the E410: bytes, the ride clock, details and samples.
-/
namespace Sys2Proof

/-- A byte on a link (R15). -/
abbrev Byte := BitVec 8

/-- A value of the ride clock: a free-running 32-bit count of milliseconds that wraps (R174). -/
abbrev Clock := BitVec 32

/-- A detail: a signed 16-bit value (R40, R51, R58). -/
abbrev Detail := BitVec 16

/-- A sample of the 12-bit sampler, in counts (R148). -/
abbrev Counts := BitVec 12

/-- A timer: stopped, or running with the milliseconds it has left. -/
abbrev Timer := Option Nat

end Sys2Proof
end

