-- ==== Sys2Proof/Config.lean ====
section
/-!
DEFINITION. What CONFIG writes: the configurable records of the E410 (R179) and the fixed sets of names they use.
The topology defaults are in Machine/Defaults.lean.
No free value is needed: the spec leaves no result of a command undefined (log 33).
-/
namespace Sys2Proof

/-- The four stations, one per port; the index is the port number (R1). -/
inductive Station where
  | ride | front | rear | pack
  deriving DecidableEq, Repr

/-- The five sources of reports (R2). -/
inductive Source where
  | ride | front | rear | pack | self
  deriving DecidableEq, Repr

/-- A source set: each of the five at most once (R2). -/
structure SourceSet where
  ride  : Bool
  front : Bool
  rear  : Bool
  pack  : Bool
  self  : Bool
  deriving DecidableEq, Repr

/-- One thing of a kind for each station. -/
structure PerStation (α : Type) where
  ride  : α
  front : α
  rear  : α
  pack  : α
  deriving DecidableEq, Repr

/-- One thing of a kind for each source. -/
structure PerSource (α : Type) where
  ride  : α
  front : α
  rear  : α
  pack  : α
  self  : α
  deriving DecidableEq, Repr

/-- The latched topology (R3). -/
inductive Topology where
  | rearOnly | frontOnly | dual | dualUnsupervised
  deriving DecidableEq, Repr

/-- A limp level, L0 NORMAL to L5 STOP (R106). -/
abbrev Level := Fin 6

/-- The axle or axles a zone's axle action applies to (R5). -/
inductive AxleField where
  | front | rear | both | none
  deriving DecidableEq, Repr

/-- What a response asks of an axle (R10, R108). -/
inductive AxleAction where
  | none | regenOnly | cut
  deriving DecidableEq, Repr

/-- What a response asks of the pack contactor (R10, R108). -/
inductive PackAction where
  | none | openWhenParked | openNow
  deriving DecidableEq, Repr

/-- A zone record (R5). The role name is a constant of the part and no field. -/
structure Zone where
  valid      : Bool
  parent     : Option (Fin 16)
  reporters  : SourceSet
  owner      : Station
  axle       : AxleField
  lossLevel  : Level
  lossAction : AxleAction
  deriving DecidableEq, Repr

/-- An own response record (R10, R108). -/
structure OwnResponse where
  level        : Level
  action       : AxleAction
  regenInhibit : Bool
  packCeiling  : Nat
  packAction   : PackAction
  deriving DecidableEq, Repr

/-- A class's response: the zone's loss response, or its own record (R10). -/
inductive Response where
  | zoneLoss
  | own (r : OwnResponse)
  deriving DecidableEq, Repr

/-- A class slot (R10). -/
structure FaultClass where
  assigned      : Bool
  confirmCount  : Nat
  confirmWindow : Nat
  latching      : Bool
  propagating   : Bool
  healHold      : Nat
  response      : Response
  deriving DecidableEq, Repr

/-- A record of the level table: torque ceiling in %, speed ceiling in km/h with 0 for none (R106). -/
structure LevelRec where
  torque : Nat
  speed  : Nat
  deriving DecidableEq, Repr

/-- A slot of the scan list (R150). -/
structure ScanRec where
  used         : Bool
  channel      : Fin 7
  low          : Nat
  high         : Nat
  zone         : Fin 16
  cls          : Fin 32
  assertCount  : Nat
  releaseCount : Nat
  deriving DecidableEq, Repr

/-- The timing quantities, in ms but for the silence limit (a count) and the mismatch limit (0.1 km/h) (R179). -/
structure Timing where
  heartbeat      : Nat
  turnWindow     : Nat
  relaxHold      : Nat
  adoptionWindow : Nat
  scanPeriod     : Nat
  parkedHold     : Nat
  silenceLimit   : Nat
  mismatchLimit  : Nat
  deriving DecidableEq, Repr

/-- Every configurable record (R175). -/
structure Tables where
  zones         : Vector Zone 16
  classes       : Vector FaultClass 32
  levels        : Vector LevelRec 6
  overflowLevel : Level
  scan          : Vector ScanRec 8
  enable        : Vector Bool 7
  threshold     : Fin 8
  timing        : Timing
  weights       : PerSource Nat
  deriving DecidableEq, Repr

end Sys2Proof
end

