-- ==== Sys2Proof/Syntax.lean ====
section
/-!
DEFINITION. The commands of the block: one constructor for each row of spec/opcode_table.json, in the table's order.

A command is one whole, indivisible step (95). Inbound frames of a known kind whose CRC check passes carry the port they
arrive on, their TURN flag and their payload bytes (2.7); their length and range faults are judged by the meaning.
`dcLink` is the DC link voltage at the input of CH0 at the moment of the command, in mV (log 6).
-/
namespace Sys2Proof

/-- The kinds whose payload length the port itself checks (R18). -/
inductive FixedKind where
  | hello | status | adopt
  deriving DecidableEq, Repr

/-- Why a complete frame is discarded (R18). A frame whose CRC fails says nothing of its kind or TURN flag. -/
inductive DiscardCause where
  | badCrc
  | unknownKind (turn : Bool)
  | badLength (kind : FixedKind) (turn : Bool)
  deriving DecidableEq, Repr

inductive Instr where
  | powerOn
  | resetNLow
  | resetEnd (topo1 topo0 key : Bool) (dcLink : Nat)
  | keyPinChange (level : Bool)
  | keyDebounceExpiry (dcLink : Nat)
  | configureWindowExpiry (dcLink : Nat)
  | reqChange (p : Station) (level : Bool)
  | hello (p : Station) (turn : Bool) (payload : List Byte)
  | status (p : Station) (turn : Bool) (payload : List Byte)
  | report (p : Station) (turn : Bool) (payload : List Byte)
  | snapshot (p : Station) (turn : Bool) (payload : List Byte)
  | adopt (p : Station) (turn : Bool) (payload : List Byte)
  | clear (p : Station) (turn : Bool) (payload : List Byte)
  | discardEntry (p : Station) (turn : Bool) (payload : List Byte)
  | discardAllRetired (p : Station) (turn : Bool) (payload : List Byte)
  | clearOverflow (p : Station) (turn : Bool) (payload : List Byte)
  | readTable (p : Station) (turn : Bool) (payload : List Byte)
  | readEntry (p : Station) (turn : Bool) (payload : List Byte)
  | readSnapshot (p : Station) (turn : Bool) (payload : List Byte)
  | readEnvelope (p : Station) (turn : Bool) (payload : List Byte)
  | readMonitor (p : Station) (turn : Bool) (payload : List Byte)
  | readOverflow (p : Station) (turn : Bool) (payload : List Byte)
  | readIdent (p : Station) (turn : Bool) (payload : List Byte)
  | zoneRecord (p : Station) (turn : Bool) (payload : List Byte)
  | classRecord (p : Station) (turn : Bool) (payload : List Byte)
  | levelRecord (p : Station) (turn : Bool) (payload : List Byte)
  | responseRecord (p : Station) (turn : Bool) (payload : List Byte)
  | scanRecord (p : Station) (turn : Bool) (payload : List Byte)
  | channelsRecord (p : Station) (turn : Bool) (payload : List Byte)
  | comparatorRecord (p : Station) (turn : Bool) (payload : List Byte) (dcLink : Nat)
  | timingRecord (p : Station) (turn : Bool) (payload : List Byte)
  | weightRecord (p : Station) (turn : Bool) (payload : List Byte)
  | commit (p : Station) (turn : Bool) (payload : List Byte)
  | discardedFrame (p : Station) (cause : DiscardCause)
  | outOfTurnFrame (p : Station)
  | brokenFrame (p : Station)
  | contention (p : Station)
  | outboundArbiterChoice (p : Station)
  | syncDue (p : Station)
  | syncSent (p : Station)
  | grantSent (p : Station)
  | envelopeSent (p : Station)
  | receiptSent (p : Station)
  | readReplySent (p : Station)
  | noticeSent
  | heartbeatExpiry (p : Station)
  | turnWindowExpiry (p : Station) (receiving : Bool)
  | expiredTurnLineIdle (p : Station)
  | syncTurnExpiry (p : Station)
  | recoverQuietExpiry (p : Station)
  | snapshotWindowExpiry (p : Station)
  | selfReportFormed
  | arbiterHandOff
  | reportApplied
  | confirmWindowExpiry (e : Fin 48)
  | healHoldExpiry (e : Fin 48)
  | noticeDelayExpiry
  | absoluteDelayExpiry
  | relaxHoldExpiry
  | adoptionWindowExpiry (p : Station)
  | scanDue
  | sampleComplete (value : Counts)
  /-- The DC link falls to a voltage; with none written, as the row has no field, to 0 (log 6). -/
  | falling (dcLink : Nat := 0)
  /-- The DC link rises to a voltage; with none written, to one above every threshold (log 6). -/
  | rising (dcLink : Nat := 65535)
  | parkedHoldExpiry
  | mismatchTimerExpiry
  | stationDrivesLine (p : Station)
  deriving DecidableEq, Repr

end Sys2Proof
end

