-- ==== Sys2Proof/Machine/Basics.lean ====
section
/-!
DEFINITION. Accessors of the small types: fixed-size tables, records per station and per source, source sets, timers.
-/
namespace Sys2Proof

/-- A table given by its entries. -/
def tabulate {α : Type} {n : Nat} (f : Fin n → α) : Vector α n :=
  ⟨(List.ofFn f).toArray, by simp⟩

/-- A table with every entry changed by `f`. -/
def mapTable {α β : Type} {n : Nat} (f : α → β) (v : Vector α n) : Vector β n :=
  ⟨(v.toList.map f).toArray, by simp⟩

/-- A table with entry `i` replaced. -/
def putAt {α : Type} {n : Nat} (v : Vector α n) (i : Fin n) (x : α) : Vector α n :=
  v.set i.val x i.isLt

/-- The lowest index whose entry satisfies `f`. -/
def firstAt {α : Type} {n : Nat} (f : α → Bool) (v : Vector α n) : Option (Fin n) :=
  (List.finRange n).find? fun i => f v[i]

/-- How many entries satisfy `f`. -/
def countAt {α : Type} {n : Nat} (f : α → Bool) (v : Vector α n) : Nat :=
  (v.toList.filter f).length

namespace PerStation

def get {α : Type} (t : PerStation α) : Station → α
  | .ride => t.ride
  | .front => t.front
  | .rear => t.rear
  | .pack => t.pack

def put {α : Type} (t : PerStation α) (p : Station) (x : α) : PerStation α :=
  match p with
  | .ride => { t with ride := x }
  | .front => { t with front := x }
  | .rear => { t with rear := x }
  | .pack => { t with pack := x }

def map {α β : Type} (f : α → β) (t : PerStation α) : PerStation β :=
  ⟨f t.ride, f t.front, f t.rear, f t.pack⟩

def tabulate {α : Type} (f : Station → α) : PerStation α :=
  ⟨f .ride, f .front, f .rear, f .pack⟩

/-- Whether `f` holds of some station's. -/
def any {α : Type} (f : α → Bool) (t : PerStation α) : Bool :=
  f t.ride || f t.front || f t.rear || f t.pack

end PerStation

namespace PerSource

def get {α : Type} (t : PerSource α) : Source → α
  | .ride => t.ride
  | .front => t.front
  | .rear => t.rear
  | .pack => t.pack
  | .self => t.self

def put {α : Type} (t : PerSource α) (q : Source) (x : α) : PerSource α :=
  match q with
  | .ride => { t with ride := x }
  | .front => { t with front := x }
  | .rear => { t with rear := x }
  | .pack => { t with pack := x }
  | .self => { t with self := x }

def map {α β : Type} (f : α → β) (t : PerSource α) : PerSource β :=
  ⟨f t.ride, f t.front, f t.rear, f t.pack, f t.self⟩

end PerSource

namespace Station

/-- A station is a source of reports (R2). -/
def source : Station → Source
  | .ride => .ride
  | .front => .front
  | .rear => .rear
  | .pack => .pack

/-- The station index, which is the port number (R1). -/
def index : Station → Fin 4
  | .ride => 0
  | .front => 1
  | .rear => 2
  | .pack => 3

/-- The station of an index (R1). -/
def ofIndex (n : Nat) : Option Station :=
  match n with
  | 0 => some .ride
  | 1 => some .front
  | 2 => some .rear
  | 3 => some .pack
  | _ => none

/-- The control zone of a station, 11 to 14 (R1). -/
def controlZone : Station → Fin 16
  | .ride => 11
  | .front => 12
  | .rear => 13
  | .pack => 14

/-- FRONT and REAR are the inverter stations (R164). -/
def inverter : Station → Bool
  | .front | .rear => true
  | .ride | .pack => false

end Station

namespace SourceSet

def empty : SourceSet := ⟨false, false, false, false, false⟩

def has (t : SourceSet) : Source → Bool
  | .ride => t.ride
  | .front => t.front
  | .rear => t.rear
  | .pack => t.pack
  | .self => t.self

def insert (t : SourceSet) : Source → SourceSet
  | .ride => { t with ride := true }
  | .front => { t with front := true }
  | .rear => { t with rear := true }
  | .pack => { t with pack := true }
  | .self => { t with self := true }

def remove (t : SourceSet) : Source → SourceSet
  | .ride => { t with ride := false }
  | .front => { t with front := false }
  | .rear => { t with rear := false }
  | .pack => { t with pack := false }
  | .self => { t with self := false }

/-- The set holding one source alone. -/
def single (q : Source) : SourceSet := empty.insert q

/-- How many sources the set holds. -/
def size (t : SourceSet) : Nat :=
  t.ride.toNat + t.front.toNat + t.rear.toNat + t.pack.toNat + t.self.toNat

/-- Every member of `t` is a member of `u`. -/
def subset (t u : SourceSet) : Bool :=
  (!t.ride || u.ride) && (!t.front || u.front) && (!t.rear || u.rear) && (!t.pack || u.pack) &&
    (!t.self || u.self)

end SourceSet

/-- A count that stays at its maximum (00, saturating counts). -/
def satSucc (top n : Nat) : Nat :=
  if n < top then n + 1 else top

/-- A running timer loses `d` ms, not below 0; a stopped one stays stopped. -/
def Timer.pass (d : Nat) (t : Timer) : Timer :=
  t.map (· - d)

end Sys2Proof
end

