-- ==== Sys2Proof/Machine/Defaults.lean ====
section
/-!
DEFINITION. The topologies (R3, R4), the topology defaults (R7, R13, R106, R111, R151, R149, R159, R179, R55) and the fixed
durations of the part.
-/
namespace Sys2Proof

namespace Topology

/-- TOPO1 is the high bit (R3). -/
def ofStraps (topo1 topo0 : Bool) : Topology :=
  match topo1, topo0 with
  | false, false => .rearOnly
  | false, true => .frontOnly
  | true, false => .dual
  | true, true => .dualUnsupervised

/-- The number of a topology in the IDENT reply (R185). -/
def number : Topology → Nat
  | .rearOnly => 0
  | .frontOnly => 1
  | .dual => 2
  | .dualUnsupervised => 3

/-- Stations present in a topology (R3). -/
def present (t : Topology) (p : Station) : Bool :=
  match t, p with
  | .rearOnly, .front => false
  | .frontOnly, .rear => false
  | .dualUnsupervised, .pack => false
  | _, _ => true

/-- Axles present in a topology (R3). -/
def hasFront (t : Topology) : Bool := t.present .front

def hasRear (t : Topology) : Bool := t.present .rear

/-- The topologies with two axles, in which mismatch is evaluated (R4, R170). -/
def dualAxle (t : Topology) : Bool := t.hasFront && t.hasRear

end Topology

/-- A set without the stations absent in a topology. -/
def SourceSet.presentOnly (t : Topology) (u : SourceSet) : SourceSet :=
  { u with front := u.front && t.present .front,
           rear := u.rear && t.present .rear,
           pack := u.pack && t.present .pack }

/-- The zone table of R7 for DUAL. -/
def zoneTable : Vector Zone 16 :=
  let pk : SourceSet := ⟨false, false, false, true, true⟩
  let fr : SourceSet := ⟨false, true, false, false, true⟩
  let re : SourceSet := ⟨false, false, true, false, true⟩
  let se : SourceSet := ⟨false, false, false, false, true⟩
  #v[⟨true, none, pk, .pack, .none, 0, .none⟩,
     ⟨true, some 0, pk, .pack, .none, 0, .none⟩,
     ⟨true, some 1, ⟨false, true, true, true, true⟩, .pack, .both, 0, .none⟩,
     ⟨true, some 2, fr, .front, .front, 0, .none⟩,
     ⟨true, some 3, fr, .front, .front, 0, .none⟩,
     ⟨true, some 3, ⟨false, true, false, false, false⟩, .front, .front, 0, .none⟩,
     ⟨true, some 2, re, .rear, .rear, 0, .none⟩,
     ⟨true, some 6, re, .rear, .rear, 0, .none⟩,
     ⟨true, some 6, ⟨false, false, true, false, false⟩, .rear, .rear, 0, .none⟩,
     ⟨true, none, ⟨true, false, false, false, false⟩, .ride, .none, 0, .none⟩,
     ⟨true, none, ⟨true, false, false, false, true⟩, .ride, .none, 0, .none⟩,
     ⟨true, some 10, se, .ride, .none, 4, .none⟩,
     ⟨true, some 10, se, .front, .front, 2, .cut⟩,
     ⟨true, some 10, se, .rear, .rear, 2, .cut⟩,
     ⟨true, some 10, se, .pack, .none, 3, .none⟩,
     ⟨true, none, se, .ride, .none, 3, .none⟩]

/-- The zones that belong to one station, with its axle or as its control zone; invalid where the station is absent (R4). -/
def zoneStation (z : Fin 16) : Option Station :=
  match z.val with
  | 3 | 4 | 5 | 12 => some .front
  | 6 | 7 | 8 | 13 => some .rear
  | 14 => some .pack
  | _ => none

/-- The default axle of DC_BUS (R4). -/
def busAxle (t : Topology) : AxleField :=
  match t with
  | .rearOnly => .rear
  | .frontOnly => .front
  | .dual | .dualUnsupervised => .both

/-- The default zone table of a topology (R7 as R4 alters it; log 24 on the reporters of invalid zones). -/
def zoneDefaults (t : Topology) : Vector Zone 16 :=
  tabulate fun i =>
    let z := zoneTable[i]
    { z with
      valid := match zoneStation i with
        | some p => t.present p
        | none => true
      reporters := z.reporters.presentOnly t
      axle := if i = 2 then busAxle t else z.axle }

/-- The fields an unassigned slot is held with (R10). -/
def unassignedClass : FaultClass := ⟨false, 1, 0, false, false, 0, .zoneLoss⟩

/-- The class table of R13. -/
def classDefaults : Vector FaultClass 32 :=
  let own (l : Level) (a : AxleAction) (r : Bool) (c : Nat) (k : PackAction) : Response := .own ⟨l, a, r, c, k⟩
  let u := unassignedClass
  #v[⟨true, 1, 0, true, false, 0, own 2 .cut false 100 .none⟩,
     ⟨true, 3, 50, false, false, 2000, own 1 .none false 100 .none⟩,
     ⟨true, 2, 100, true, false, 0, own 2 .cut false 100 .none⟩,
     ⟨true, 2, 50, false, false, 3000, own 2 .cut false 100 .none⟩,
     ⟨true, 1, 1000, false, false, 5000, own 1 .none false 100 .none⟩,
     ⟨true, 1, 1000, false, false, 5000, own 1 .none false 100 .none⟩,
     ⟨true, 2, 20, false, true, 1000, own 1 .none false 70 .none⟩,
     ⟨true, 2, 10, false, true, 1000, own 1 .none true 100 .none⟩,
     ⟨true, 2, 200, false, true, 5000, own 3 .none false 50 .none⟩,
     ⟨true, 2, 200, false, false, 5000, own 1 .none true 100 .none⟩,
     ⟨true, 1, 1000, false, false, 30000, own 3 .none false 100 .none⟩,
     ⟨true, 1, 0, true, true, 0, own 5 .none false 100 .openNow⟩,
     ⟨true, 2, 500, true, false, 0, own 3 .none false 100 .openWhenParked⟩,
     ⟨true, 3, 1000, true, false, 0, own 3 .none false 100 .none⟩,
     ⟨true, 3, 30, false, false, 1000, own 4 .none false 100 .none⟩,
     ⟨true, 3, 30, false, false, 1000, own 3 .none false 100 .none⟩,
     ⟨true, 2, 20, false, true, 1000, own 3 .none false 100 .none⟩,
     ⟨true, 1, 0, false, false, 500, .zoneLoss⟩,
     ⟨true, 1, 0, false, false, 500, .zoneLoss⟩,
     ⟨true, 1, 0, false, false, 500, .zoneLoss⟩,
     ⟨true, 1, 300, false, false, 2000, own 2 .regenOnly false 100 .none⟩,
     ⟨true, 1, 0, true, false, 0, own 0 .none false 100 .none⟩,
     ⟨true, 2, 50, false, false, 1000, own 3 .none false 100 .none⟩,
     u, u, u, u, u, u, u, u, u]

/-- The level table of R106. -/
def levelDefaults : Vector LevelRec 6 :=
  #v[⟨100, 0⟩, ⟨70, 25⟩, ⟨50, 18⟩, ⟨30, 8⟩, ⟨0, 0⟩, ⟨0, 0⟩]

/-- The fields an unused scan slot is held with (R151). -/
def unusedScan : ScanRec := ⟨false, 0, 0, 4095, 0, 0, 1, 1⟩

/-- The scan list of R151. -/
def scanDefaults (t : Topology) : Vector ScanRec 8 :=
  #v[⟨true, 4, 2600, 3700, 10, 16, 3, 4⟩,
     ⟨true, 1, 200, 3895, 0, 11, 2, 4⟩,
     if t.hasFront then ⟨true, 2, 300, 3795, 3, 1, 2, 4⟩ else unusedScan,
     if t.hasRear then ⟨true, 3, 300, 3795, 6, 1, 2, 4⟩ else unusedScan,
     ⟨true, 6, 1988, 2108, 15, 22, 4, 4⟩,
     ⟨true, 5, 0, 3500, 15, 22, 4, 8⟩,
     unusedScan, unusedScan]

/-- The default timing quantities (R179). -/
def timingDefaults : Timing := ⟨10, 2, 3000, 20, 5, 1000, 3, 50⟩

/-- The topology defaults: every configurable record at once (R175). -/
def topologyDefaults (t : Topology) : Tables where
  zones := zoneDefaults t
  classes := classDefaults
  levels := levelDefaults
  overflowLevel := 1
  scan := scanDefaults t
  enable := Vector.replicate 7 true
  threshold := 3
  timing := timingDefaults
  weights := ⟨1, 2, 2, 2, 4⟩

/-- The comparator's thresholds in V (R159). -/
def thresholdVolts (i : Fin 8) : Nat :=
  (#v[30, 33, 36, 38, 40, 42, 44, 46] : Vector Nat 8)[i]

/-- The fixed durations, in ms. -/
def debounceMs : Nat := 50            -- R176
def configureWindowMs : Nat := 2000   -- R177
def syncQuietMs : Nat := 2            -- R20, to the first SYNC
def syncPeriodMs : Nat := 50          -- R20
def recoverQuietMs : Nat := 2         -- R31
def snapshotWindowMs : Nat := 50      -- R39
def noticeDelayMs : Nat := 20         -- R78
def absoluteDelayMs : Nat := 100      -- R78
def mismatchMs : Nat := 300           -- R170

/-- The fixed capacities. -/
def shortQueueMax : Nat := 8          -- R41
def receiptMax : Nat := 4             -- R33
def replyMax : Nat := 16              -- R33, R37
def turnFrameMax : Nat := 16          -- R26
def bufferBytes : Nat := 240          -- R42
def countMax : Nat := 255             -- R18, R27
def reportCountMax : Nat := 65535     -- R58
def episodeMax : Nat := 255           -- R58
def generationMax : Nat := 4294967295 -- R130

end Sys2Proof
end

