-- ==== Sys2Proof/Machine/Blocks.lean ====
section
/-!
DEFINITION. The state of each block of the E410 as plain data (INVENTORY.md, State). Machine/State.lean puts them together.
-/
namespace Sys2Proof.Machine

open Sys2Proof

/-- R174. -/
inductive DeviceState where
  | reset | configure | run | standby
  deriving DecidableEq, Repr

/-- The result of the last consistency check (R185): none, the first check that failed (1 to 7), or passed. -/
inductive CheckResult where
  | none
  | failed (n : Nat)
  | passed
  deriving DecidableEq, Repr

/-- How RUN was last entered in this key cycle (R185). -/
inductive RunEntry where
  | notYet | commit | expiryPassed | expiryDefaults
  deriving DecidableEq, Repr

/-- Configuration's own state and the pins it watches (R174 to R177, R185). -/
structure Device where
  state           : DeviceState
  clock           : Clock
  topology        : Topology
  resetN          : Bool
  settled         : Bool
  keyPin          : Bool
  keyLevel        : Bool
  debounce        : Timer
  configureWindow : Timer
  check           : CheckResult
  way             : RunEntry
  deriving DecidableEq, Repr

/-- The port states of R18 to R19. -/
inductive PortState where
  | offline | sync | hold | turn | recover
  deriving DecidableEq, Repr

/-- The verdicts a RECEIPT may carry (2.7). -/
inductive Verdict where
  | taken | takenNoBuffer | queueFull | malformed | unknownZone | unknownClass | notPermitted
  | wrongState | notParked | stillPresent | notFound | notLatched | snapshotDropped | inconsistent
  deriving DecidableEq, Repr

/-- How the last assembly of a port ended (R44). -/
inductive SlotOutcome where
  | none | complete | truncated | dropped
  deriving DecidableEq, Repr

/-- The content of a RECEIPT (R28). -/
structure Receipt where
  verdicts : List Verdict
  discards : Nat
  free     : Nat
  filling  : Bool
  outcome  : SlotOutcome
  deriving DecidableEq, Repr

/-- The target of a READ with its parameters (R37). -/
inductive ReadTarget where
  | table (first : Fin 48) (count : Nat)
  | entry (e : Fin 48)
  | snapshot (b : Fin 8) (offset : Nat)
  | envelope
  | monitor
  | overflow
  | ident
  deriving DecidableEq, Repr

/-- The state an envelope gives an axle (2.7, R112). -/
inductive AxleState where
  | drive | regenOnly | cut | absent
  deriving DecidableEq, Repr

/-- The six compared fields of an envelope (R112). -/
structure Limits where
  level          : Level
  front          : AxleState
  rear           : AxleState
  regenPermitted : Bool
  packCeiling    : Nat
  packOpen       : Bool
  deriving DecidableEq, Repr

/-- An envelope (R116, R118). -/
structure Envelope where
  generation : Nat
  limits     : Limits
  torque     : Nat
  speed      : Nat
  cause      : Option (Fin 48)
  overflow   : Bool
  deriving DecidableEq, Repr

/-- An outbound frame (2.6). A NOTICE remembers whether it carries the high-water flag set (R77). -/
inductive OutFrame where
  | sync
  | grant
  | envelope (e : Envelope)
  | receipt (r : Receipt)
  | readReply (t : ReadTarget)
  | notice (highWater : Bool)
  deriving DecidableEq, Repr

/-- A frame being transmitted: what it is, its TURN flag, and its payload as formed when its first byte was sent (R34, R35). -/
structure Sending where
  frame   : OutFrame
  turn    : Bool
  payload : List Byte
  deriving DecidableEq, Repr

/-- A valid STATUS, in the form of its port's station (R36). -/
inductive StatusRec where
  | ride (throttle : Nat) (brake : Bool)
  | inverter (speed : Nat) (temperature : BitVec 8)
  | pack (voltage : Nat) (current : BitVec 16) (charge : Nat)
  deriving DecidableEq, Repr

/-- A station port (R15, R19, R20, R23, R25 to R28, R30, R31, R33, R36). -/
structure Port where
  state        : PortState
  silent       : Nat
  contentions  : Nat
  discards     : Nat
  maxFrame     : Option Nat
  reqPin       : Bool
  reqSample    : Bool
  grantDue     : Bool
  heartbeat    : Timer
  turnWindow   : Timer
  recoverQuiet : Timer
  syncTimer    : Timer
  syncBegun    : Bool
  syncTurn     : Bool
  turnExpired  : Bool
  frames       : Nat
  verdicts     : List Verdict
  gotStatus    : Bool
  envelope     : Option Envelope
  receipts     : List Receipt
  replies      : List ReadTarget
  notice       : Bool
  sending      : Option Sending
  status       : Option StatusRec
  deriving DecidableEq, Repr

/-- A queued report record (R40). `present` is the polarity: true for PRESENT. -/
structure QReport where
  source  : Source
  zone    : Fin 16
  cls     : Fin 32
  present : Bool
  detail  : Option Detail
  arrival : Clock
  buffer  : Option (Fin 8)
  deriving DecidableEq, Repr

/-- A snapshot under assembly (R44). `window` is what is left of the snapshot window. -/
structure Assembly where
  expected : Nat
  next     : Nat
  received : Nat
  buffer   : Option (Fin 8)
  window   : Nat
  deriving DecidableEq, Repr

/-- A long slot: FILLING while it holds an assembly, FREE otherwise (R44). -/
structure LongSlot where
  assembly : Option Assembly
  outcome  : SlotOutcome
  deriving DecidableEq, Repr

/-- A condition record; its zone and class are fixed or the scan slot's (R51). -/
structure Cond where
  asserted : Bool
  detail   : Option Detail
  unsent   : Bool
  deriving DecidableEq, Repr

/-- Intake (R40, R41, R44, R51, R55). -/
structure Intake where
  queues    : PerSource (List QReport)
  slots     : PerStation LongSlot
  conds     : Vector Cond 24
  current   : Option Source
  allowance : Nat
  rotation  : Source
  deriving DecidableEq, Repr

/-- Who holds a buffer (R42). -/
inductive BufferOwner where
  | free
  | pending (p : Station)
  | entry (e : Fin 48)
  deriving DecidableEq, Repr

/-- A snapshot buffer; the bytes held are the length of `data` (R42). -/
structure Buffer where
  owner    : BufferOwner
  writer   : Option Station
  expected : Nat
  data     : List Byte
  complete : Bool
  deriving DecidableEq, Repr

/-- R58. -/
inductive EntryState where
  | free | suspect | confirmed | healing | latched | retired
  deriving DecidableEq, Repr

/-- The demand record (R58, R109). -/
structure Demand where
  level        : Level
  action       : AxleAction
  axles        : AxleField
  regenInhibit : Bool
  packCeiling  : Nat
  packAction   : PackAction
  deriving DecidableEq, Repr

/-- How an episode ended (R58). -/
inductive EpisodeEnd where
  | dismissed | healed | cleared
  deriving DecidableEq, Repr

/-- Which of an entry's timers runs, with the milliseconds it has left (R58, R83, R84). -/
inductive EntryTimer where
  | none
  | confirm (left : Nat)
  | heal (left : Nat)
  deriving DecidableEq, Repr

/-- A fault-table entry (R58). -/
structure Entry where
  state        : EntryState
  zone         : Fin 16
  cls          : Fin 32
  episode      : Nat
  openedAt     : Clock
  stateSince   : Clock
  lastReportAt : Clock
  reportCount  : Nat
  witness      : SourceSet
  present      : SourceSet
  recurrence   : Nat
  root         : Option (Fin 48)
  demand       : Option Demand
  outcome      : Option EpisodeEnd
  detail       : Option Detail
  snapshot     : Option (Fin 8)
  snapshotLost : Bool
  timer        : EntryTimer
  deriving DecidableEq, Repr

/-- The Fault Table (R58, R60, R67, R77, R78, R99). `applying` is the report handed over and not yet applied. -/
structure FaultTable where
  entries       : Vector Entry 48
  overflow      : Vector Bool 64
  noticeDelay   : Timer
  absoluteDelay : Timer
  highWater     : Bool
  parked        : Bool
  applying      : Option QReport
  deriving DecidableEq, Repr

/-- R121. -/
inductive RelaxState where
  | idle | holding | due
  deriving DecidableEq, Repr

/-- The Ladder (R118, R121). -/
structure Ladder where
  target    : Envelope
  published : Envelope
  adopted   : Envelope
  inForce   : Envelope
  relax     : RelaxState
  hold      : Timer
  parked    : Bool
  deriving DecidableEq, Repr

/-- The hard lines; true is asserted, and `limp` is the value of LIMP2 to LIMP0 (R127, R128). -/
structure Lines where
  cutFront   : Bool
  cutRear    : Bool
  cutPack    : Bool
  regenBlock : Bool
  limp       : Fin 8
  deriving DecidableEq, Repr

/-- R133. -/
inductive WindowState where
  | idle | waiting | resent
  deriving DecidableEq, Repr

/-- A port's adoption record (R133). `lapsed`: the second window of the current generation has
expired, and the port has not adopted it since (R136, log 21). -/
structure Adoption where
  adopted      : Nat
  owing        : Bool
  window       : WindowState
  timer        : Timer
  unresponsive : Bool
  lapsed       : Bool
  deriving DecidableEq, Repr

/-- Publication (R130, R131, R133). -/
structure Publication where
  counter  : Nat
  members  : PerStation Bool
  complete : Bool
  records  : PerStation Adoption
  deriving DecidableEq, Repr

/-- R153. -/
inductive ScanState where
  | unused | idle | clear | asserted
  deriving DecidableEq, Repr

/-- A slot's filter (R153). -/
structure Filter where
  state    : ScanState
  outCount : Nat
  inCount  : Nat
  deriving DecidableEq, Repr

/-- A sample of a scan: for a slot on the channel it named, of a channel on its own (R152), or one being taken of a channel that
has left the enable set since it began, which gives no value (R149). -/
inductive ScanItem where
  | slot (k : Fin 8) (c : Fin 7)
  | alone (c : Fin 7)
  | lost (c : Fin 7)
  deriving DecidableEq, Repr

/-- The Self Monitor (R148, R152, R153, R159). `scan` lists the samples of the scan in progress, the one being taken first;
the samples of channels on their own stand in it for as long as the channel has not been sampled in this scan. -/
structure Monitor where
  latest     : Vector (Option Counts) 7
  filters    : Vector Filter 8
  comparator : Bool
  scan       : List ScanItem
  scanTimer  : Timer
  deriving DecidableEq, Repr

/-- R170. -/
inductive MismatchState where
  | quiet | arming | asserted | settling
  deriving DecidableEq, Repr

/-- One of the two axles (R170). -/
inductive Axle where
  | front | rear
  deriving DecidableEq, Repr

/-- Motion (the table at the head of chapter 9). -/
structure Motion where
  speedFront    : Option Nat
  speedRear     : Option Nat
  liveFront     : Bool
  liveRear      : Bool
  vehicleSpeed  : Nat
  still         : Bool
  parked        : Bool
  parkedHold    : Timer
  mismatch      : MismatchState
  mismatchAxle  : Option Axle
  mismatchTimer : Timer
  deriving DecidableEq, Repr

end Sys2Proof.Machine
end

