-- ==== Sys2Proof/Machine/Resets.lean ====
section
/-!
DEFINITION. The values each block takes at power-on or external reset.
-/
namespace Sys2Proof.Machine

open Sys2Proof

/-- A port after power-on or external reset, and in OFFLINE (R19, R36). -/
def Port.reset : Port where
  state := .offline
  silent := 0
  contentions := 0
  discards := 0
  maxFrame := none
  reqPin := false
  reqSample := false
  grantDue := false
  heartbeat := none
  turnWindow := none
  recoverQuiet := none
  syncTimer := none
  syncBegun := false
  syncTurn := false
  turnExpired := false
  frames := 0
  verdicts := []
  gotStatus := false
  envelope := none
  receipts := []
  replies := []
  notice := false
  sending := none
  status := none

/-- A FREE entry's values (R59). -/
def Entry.free : Entry where
  state := .free
  zone := 0
  cls := 0
  episode := 0
  openedAt := 0
  stateSince := 0
  lastReportAt := 0
  reportCount := 0
  witness := SourceSet.empty
  present := SourceSet.empty
  recurrence := 0
  root := none
  demand := none
  outcome := none
  detail := none
  snapshot := none
  snapshotLost := false
  timer := .none

/-- A FREE buffer (R42, R43; log 23 on the expected length). -/
def Buffer.free : Buffer := ⟨.free, none, 0, [], false⟩

/-- A deasserted condition record as after reset (R51). -/
def Cond.reset : Cond := ⟨false, none, false⟩

/-- An adoption record after reset (R133). -/
def Adoption.reset : Adoption := ⟨0, false, .idle, none, false, false⟩

/-- Intake after reset (R41, R44, R51, R55). -/
def Intake.reset : Intake where
  queues := ⟨[], [], [], [], []⟩
  slots := ⟨⟨none, .none⟩, ⟨none, .none⟩, ⟨none, .none⟩, ⟨none, .none⟩⟩
  conds := Vector.replicate 24 Cond.reset
  current := none
  allowance := 0
  rotation := .ride

/-- The Fault Table after reset (R59, R99). -/
def FaultTable.reset : FaultTable where
  entries := Vector.replicate 48 Entry.free
  overflow := Vector.replicate 64 false
  noticeDelay := none
  absoluteDelay := none
  highWater := false
  parked := false
  applying := none

/-- An axle that is CUT when present (R118, R125). -/
def AxleState.cutIf (present : Bool) : AxleState :=
  if present then .cut else .absent

/-- The closed envelope's six fields (R118). -/
def Limits.closed (t : Topology) : Limits where
  level := 5
  front := AxleState.cutIf t.hasFront
  rear := AxleState.cutIf t.hasRear
  regenPermitted := false
  packCeiling := 0
  packOpen := true

/-- An envelope of generation 0 with given limits, the ceilings of its level, no cause and overflow no. -/
def Envelope.plain (levels : Vector LevelRec 6) (l : Limits) : Envelope :=
  ⟨0, l, levels[l.level].torque, levels[l.level].speed, none, false⟩

/-- The Ladder after reset, for a topology (R118). -/
def Ladder.reset (t : Topology) : Ladder :=
  let e := Envelope.plain levelDefaults (Limits.closed t)
  ⟨e, e, e, e, .idle, none, false⟩

/-- Publication after reset (R131, R133). -/
def Publication.reset : Publication where
  counter := 0
  members := ⟨false, false, false, false⟩
  complete := true
  records := ⟨Adoption.reset, Adoption.reset, Adoption.reset, Adoption.reset⟩

/-- A slot's filter before any sample, by its configuration and the enable set (R153). -/
def Filter.initial (r : ScanRec) (enable : Vector Bool 7) : Filter :=
  ⟨if r.used then (if enable[r.channel] then .clear else .idle) else .unused, 0, 0⟩

/-- The Self Monitor after reset (R148, R153, R163). -/
def Monitor.reset (c : Tables) : Monitor where
  latest := Vector.replicate 7 none
  filters := tabulate fun k => Filter.initial c.scan[k] c.enable
  comparator := false
  scan := []
  scanTimer := none

/-- Motion after reset or key-off (the head of chapter 9). -/
def Motion.reset : Motion where
  speedFront := none
  speedRear := none
  liveFront := false
  liveRear := false
  vehicleSpeed := 0
  still := false
  parked := false
  parkedHold := none
  mismatch := .quiet
  mismatchAxle := none
  mismatchTimer := none

/-- The hard lines in RESET and STANDBY (R127, R128). -/
def Lines.closed : Lines := ⟨true, true, true, true, 7⟩

/-- Configuration right after power-on (R174; log 7 and 8 for the topology, the key level and the pins). -/
def Device.reset : Device where
  state := .reset
  clock := 0
  topology := .rearOnly
  resetN := true
  settled := false
  keyPin := false
  keyLevel := false
  debounce := none
  configureWindow := none
  check := .none
  way := .notYet

end Sys2Proof.Machine
end

