-- ==== Sys2Proof/Machine/State.lean ====
section
/-!
DEFINITION. The whole state of the E410, the reasons a step can stop, and State.reset.
The blocks are in Machine/Blocks.lean, their reset values in Machine/Resets.lean.
-/
namespace Sys2Proof.Machine

open Sys2Proof

/-- No command stops the block, so no fault has a name: every check of the spec answers with a verdict or a discard. -/
inductive Fault where
  deriving DecidableEq, Repr

/-- Why a command has no meaning. -/
inductive Refusal where
  /-- Raised by an arm of exec whose row has no meaning yet; safe, and no arm raises it now. -/
  | notModelled (mnemonic : String)
  deriving DecidableEq, Repr

/-- The whole block, and the commands that wait. -/
structure State where
  device      : Device
  config      : Tables
  ports       : PerStation Port
  intake      : Intake
  pool        : Vector Buffer 8
  faults      : FaultTable
  ladder      : Ladder
  lines       : Lines
  publication : Publication
  monitor     : Monitor
  motion      : Motion
  pending     : List Instr
  deriving DecidableEq, Repr

/-- The machine right after power-on: in RESET with every block at its power-on values (R174).
The topology, the debounced key level and the input pins have no reset value in the spec (log 7, 8). -/
def State.reset : State where
  device := Device.reset
  config := topologyDefaults .rearOnly
  ports := ⟨Port.reset, Port.reset, Port.reset, Port.reset⟩
  intake := Intake.reset
  pool := Vector.replicate 8 Buffer.free
  faults := FaultTable.reset
  ladder := Ladder.reset .rearOnly
  lines := Lines.closed
  publication := Publication.reset
  monitor := Monitor.reset (topologyDefaults .rearOnly)
  motion := Motion.reset
  pending := []

end Sys2Proof.Machine
end

