-- ==== Sys2Proof/Machine/Flags.lean ====
section
/-!
DEFINITION. The conditions the blocks compute from their state: what an entry is (R58, R102), how envelopes compare (R112),
the zones above a zone (R6), liveness, still and mismatch (R165, R167, R170), the consistency checks (R180), the hard lines.
-/
namespace Sys2Proof.Machine

open Sys2Proof

/-! ### Entries (R58, R102) -/

/-- SUSPECT, CONFIRMED, HEALING or LATCHED (R58). -/
def Entry.active (e : Entry) : Bool :=
  match e.state with
  | .suspect | .confirmed | .healing | .latched => true
  | .free | .retired => false

/-- CONFIRMED, HEALING or LATCHED (R82, R102). -/
def Entry.concluded (e : Entry) : Bool :=
  match e.state with
  | .confirmed | .healing | .latched => true
  | .free | .suspect | .retired => false

/-- The entry is not FREE. -/
def Entry.used (e : Entry) : Bool :=
  e.state != .free

/-- The entry holds the pair (R61). -/
def Entry.holds (e : Entry) (zone : Fin 16) (cls : Fin 32) : Bool :=
  e.used && e.zone = zone && e.cls = cls

/-- Contributing: concluded, without a root, with a demand (R58). -/
def Entry.contributing (e : Entry) : Bool :=
  e.concluded && e.root.isNone && e.demand.isSome

/-- An immediate class (R10). -/
def immediate (k : FaultClass) : Bool :=
  k.confirmCount = 1 && k.confirmWindow = 0

/-- How many entries are active (R79). -/
def FaultTable.activeCount (t : FaultTable) : Nat :=
  countAt Entry.active t.entries

/-- The overflow cell count (R67). -/
def FaultTable.cellCount (t : FaultTable) : Nat :=
  countAt id t.overflow

/-- Whether any overflow cell is set (R68). -/
def FaultTable.anyCell (t : FaultTable) : Bool :=
  t.overflow.toList.any id

/-- The overflow cell of a pair (R67). -/
def cellOf (zone : Fin 16) (cls : Fin 32) : Fin 64 :=
  ⟨(7 * zone.val + cls.val) % 64, Nat.mod_lt _ (by decide)⟩

/-- The contributing entries, as a list of flags in index order. -/
def FaultTable.contributors (t : FaultTable) : List Bool :=
  t.entries.toList.map Entry.contributing

/-- The entries' states in index order, for notice changes (R78). -/
def FaultTable.states (t : FaultTable) : List EntryState :=
  t.entries.toList.map Entry.state

/-! ### The supply tree and roots (R6, R102) -/

/-- The strict ancestors of a zone, nearest first, through valid zones only (R6); at most `fuel` of them. -/
def ancestors (zones : Vector Zone 16) : Nat → Fin 16 → List (Fin 16)
  | 0, _ => []
  | fuel + 1, z =>
    if zones[z].valid then
      match zones[z].parent with
      | none => []
      | some p => if zones[p].valid then p :: ancestors zones fuel p else []
    else []

/-- An entry in zone `z` that can be a root: concluded, of a propagating class (R102). -/
def rootIn (classes : Vector FaultClass 32) (z : Fin 16) (e : Entry) : Bool :=
  e.concluded && classes[e.cls].propagating && e.zone = z

/-- The root R102 gives an active entry in zone `z`: the lowest-indexed eligible entry of the nearest strict ancestor zone. -/
def rootOf (c : Tables) (entries : Vector Entry 48) (z : Fin 16) : Option (Fin 48) :=
  (ancestors c.zones 16 z).findSome? fun a => firstAt (rootIn c.classes a) entries

/-! ### Envelopes (R112 to R115) -/

/-- CUT is stricter than REGEN_ONLY, and that than DRIVE; ABSENT meets only ABSENT (R112). -/
def AxleState.rank : AxleState → Nat
  | .drive => 0
  | .regenOnly => 1
  | .cut => 2
  | .absent => 3

/-- The stricter of two axle states. -/
def AxleState.stricter (a b : AxleState) : AxleState :=
  if a.rank < b.rank then b else a

/-- The higher of two levels. -/
def levelStricter (a b : Level) : Level :=
  if a.val < b.val then b else a

/-- The stricter of two envelopes, field by field (R112). -/
def Limits.stricter (a b : Limits) : Limits where
  level := levelStricter a.level b.level
  front := a.front.stricter b.front
  rear := a.rear.stricter b.rear
  regenPermitted := a.regenPermitted && b.regenPermitted
  packCeiling := min a.packCeiling b.packCeiling
  packOpen := a.packOpen || b.packOpen

/-- `a` is stricter than `b` in at least one field (R112). -/
def Limits.someStricter (a b : Limits) : Bool :=
  b.level.val < a.level.val || b.front.rank < a.front.rank || b.rear.rank < a.rear.rank ||
    (!a.regenPermitted && b.regenPermitted) || a.packCeiling < b.packCeiling ||
    (a.packOpen && !b.packOpen)

/-- `a` is at least as strict as `b` in every field. -/
def Limits.atLeast (a b : Limits) : Bool :=
  !b.someStricter a

/-- Every present axle is REGEN_ONLY or CUT (R114). -/
def Limits.noDrive (l : Limits) : Bool :=
  l.front != .drive && l.rear != .drive

/-- The axle-loss escalation (R114). -/
def Limits.escalate (l : Limits) : Limits :=
  if l.noDrive && l.level.val < 4 then { l with level := 4 } else l

/-- A present axle becomes CUT. -/
def AxleState.cutPresent : AxleState → AxleState
  | .absent => .absent
  | .drive | .regenOnly | .cut => .cut

/-- The L5 parked rule (R115). -/
def Limits.parkedRule (parked : Bool) (l : Limits) : Limits :=
  if l.level = 5 && parked then
    { l with front := l.front.cutPresent, rear := l.rear.cutPresent, packOpen := true }
  else l

/-- What no demand asks (R113). -/
def Limits.open (t : Topology) : Limits where
  level := 0
  front := if t.hasFront then .drive else .absent
  rear := if t.hasRear then .drive else .absent
  regenPermitted := true
  packCeiling := 100
  packOpen := false

/-- The configure envelope's six fields (R125). -/
def Limits.configure (t : Topology) : Limits where
  level := 5
  front := AxleState.cutIf t.hasFront
  rear := AxleState.cutIf t.hasRear
  regenPermitted := true
  packCeiling := 100
  packOpen := false

/-- The axle state an action asks (R110). -/
def axleAsked : AxleAction → AxleState
  | .none => .drive
  | .regenOnly => .regenOnly
  | .cut => .cut

/-- Whether a demand names the front axle, and the rear. -/
def namesFront : AxleField → Bool
  | .front | .both => true
  | .rear | .none => false

def namesRear : AxleField → Bool
  | .rear | .both => true
  | .front | .none => false

/-- What one demand asks of each field (R110). -/
def Demand.asks (t : Topology) (parked : Bool) (d : Demand) : Limits where
  level := d.level
  front := if t.hasFront then (if namesFront d.axles then axleAsked d.action else .drive) else .absent
  rear := if t.hasRear then (if namesRear d.axles then axleAsked d.action else .drive) else .absent
  regenPermitted := !d.regenInhibit
  packCeiling := d.packCeiling
  packOpen := match d.packAction with
    | .openNow => true
    | .openWhenParked => parked
    | .none => false

/-- The demands of the contributing entries, with their indexes, in index order. -/
def FaultTable.demands (t : FaultTable) : List (Fin 48 × Demand) :=
  (List.finRange 48).filterMap fun i =>
    if t.entries[i].contributing then t.entries[i].demand.map fun d => (i, d) else none

/-- The combination of every demand in force (R111, R113). -/
def combine (topo : Topology) (overflowLevel : Level) (t : FaultTable) (parked : Bool) : Limits :=
  let base := Limits.open topo
  let start := if t.anyCell then { base with level := overflowLevel } else base
  t.demands.foldl (fun l d => l.stricter (d.2.asks topo parked)) start

/-- The target's six fields: combination, escalation, L5 parked rule (R113 to R115). -/
def targetLimits (topo : Topology) (overflowLevel : Level) (t : FaultTable) (parked : Bool) : Limits :=
  (combine topo overflowLevel t parked).escalate.parkedRule parked

/-- The target's cause: the contributing entry that asks the highest level, the lowest-indexed among equals (R116). -/
def causeOf (t : FaultTable) : Option (Fin 48) :=
  (t.demands.foldl (fun (best : Option (Fin 48 × Level)) d =>
    match best with
    | none => some (d.1, d.2.level)
    | some b => if b.2.val < d.2.level.val then some (d.1, d.2.level) else best) none).map (·.1)

/-- The highest demanded level carried in a NOTICE (R77): contributing demands and the overflow demand. -/
def highestDemanded (overflowLevel : Level) (t : FaultTable) : Level :=
  t.demands.foldl (fun l d => levelStricter l d.2.level) (if t.anyCell then overflowLevel else 0)

/-! ### Relaxation (R122, R123) -/

/-- One axle of a step: from the published state towards the target's (R123). -/
def AxleState.step (parked : Bool) (published target : AxleState) : AxleState :=
  if target.rank < published.rank then
    match published with
    | .cut => if parked then .regenOnly else .cut
    | .regenOnly => .drive
    | .drive => .drive
    | .absent => .absent
  else published

/-- A relaxation step's six fields, escalated (R123). -/
def Limits.step (parked : Bool) (published target : Limits) : Limits :=
  Limits.escalate
    { level := if target.level.val < published.level.val then ⟨published.level.val - 1, by omega⟩ else published.level
      front := published.front.step parked target.front
      rear := published.rear.step parked target.rear
      regenPermitted := published.regenPermitted || target.regenPermitted
      packCeiling := max published.packCeiling target.packCeiling
      packOpen := published.packOpen && (target.packOpen || !parked) }

/-! ### The hard lines (R127, R128) -/

/-- CUT or ABSENT (R127). -/
def AxleState.cutLine : AxleState → Bool
  | .cut | .absent => true
  | .drive | .regenOnly => false

/-- The hard lines a device state and an in-force envelope give (R127, R128). -/
def linesOf (d : DeviceState) (inForce : Limits) : Lines :=
  match d with
  | .reset | .standby => Lines.closed
  | .configure => ⟨inForce.front.cutLine, inForce.rear.cutLine, inForce.packOpen, !inForce.regenPermitted, 6⟩
  | .run => ⟨inForce.front.cutLine, inForce.rear.cutLine, inForce.packOpen, !inForce.regenPermitted,
      ⟨inForce.level.val, by omega⟩⟩

/-! ### Ports (R15, 7.2, R165) -/

/-- In the exchange: HOLD, TURN or RECOVER (7.2). -/
def Port.inExchange (p : Port) : Bool :=
  match p.state with
  | .hold | .turn | .recover => true
  | .offline | .sync => false

/-- Where REQ is sampled: HOLD, TURN and RECOVER (R15). -/
def Port.samplesReq (p : Port) : Bool :=
  p.inExchange

/-- Live, as Motion judges an inverter station's port: HOLD or TURN with a silent count of 0 (R165). -/
def Port.live (p : Port) : Bool :=
  (p.state == .hold || p.state == .turn) && p.silent = 0

/-- Whether a frame waits in the outbound list (R34). -/
def Port.frameWaits (p : Port) : Bool :=
  p.envelope.isSome || !p.receipts.isEmpty || !p.replies.isEmpty || p.notice

/-! ### Motion (R166, R167, R170) -/

/-- A live station holds still: its speed is held and below 10; a station not live holds nothing false (R167). -/
def stillAxle (live : Bool) (speed : Option Nat) : Bool :=
  match live, speed with
  | false, _ => true
  | true, none => false
  | true, some v => v < 10

/-- The still condition (R167). -/
def Motion.stillNow (m : Motion) : Bool :=
  (m.liveFront || m.liveRear) && stillAxle m.liveFront m.speedFront && stillAxle m.liveRear m.speedRear

/-- The speed of an axle that counts: held by a live station (R166). -/
def liveSpeed (live : Bool) (speed : Option Nat) : Option Nat :=
  if live then speed else none

/-- The vehicle speed (R166). -/
def Motion.vehicle (m : Motion) : Nat :=
  max ((liveSpeed m.liveFront m.speedFront).getD 0) ((liveSpeed m.liveRear m.speedRear).getD 0)

/-- How the mismatch detector classes a moment (R170). -/
inductive Moment where
  | notEvaluable
  | out (slower : Axle)
  | inside
  deriving DecidableEq, Repr

/-- The difference of the two held speeds. -/
def speedGap (f r : Nat) : Nat := max f r - min f r

/-- The class of the moment (R170). -/
def Motion.moment (limit : Nat) (m : Motion) : Moment :=
  match liveSpeed m.liveFront m.speedFront, liveSpeed m.liveRear m.speedRear with
  | some f, some r =>
    if limit < speedGap f r && 50 ≤ m.vehicleSpeed then .out (if f < r then .front else .rear) else .inside
  | _, _ => .notEvaluable

/-! ### Condition records (R51) -/

/-- The zone and class of condition record `k` (R51). -/
def condPair (c : Tables) (k : Fin 24) : Fin 16 × Fin 32 :=
  match k with
  | ⟨0, _⟩ => (c.scan[0].zone, c.scan[0].cls)
  | ⟨1, _⟩ => (c.scan[1].zone, c.scan[1].cls)
  | ⟨2, _⟩ => (c.scan[2].zone, c.scan[2].cls)
  | ⟨3, _⟩ => (c.scan[3].zone, c.scan[3].cls)
  | ⟨4, _⟩ => (c.scan[4].zone, c.scan[4].cls)
  | ⟨5, _⟩ => (c.scan[5].zone, c.scan[5].cls)
  | ⟨6, _⟩ => (c.scan[6].zone, c.scan[6].cls)
  | ⟨7, _⟩ => (c.scan[7].zone, c.scan[7].cls)
  | ⟨8, _⟩ => (2, 6)
  | ⟨9, _⟩ => (4, 20)
  | ⟨10, _⟩ => (7, 20)
  | ⟨11, _⟩ => (11, 18)
  | ⟨12, _⟩ => (12, 18)
  | ⟨13, _⟩ => (13, 18)
  | ⟨14, _⟩ => (14, 18)
  | ⟨15, _⟩ => (11, 17)
  | ⟨16, _⟩ => (12, 17)
  | ⟨17, _⟩ => (13, 17)
  | ⟨18, _⟩ => (14, 17)
  | ⟨19, _⟩ => (11, 19)
  | ⟨20, _⟩ => (12, 19)
  | ⟨21, _⟩ => (13, 19)
  | ⟨22, _⟩ => (14, 19)
  | ⟨_, _⟩ => (15, 21)

/-- The record of scan slot `k` (R150). -/
def slotCond (k : Fin 8) : Fin 24 := ⟨k.val, by omega⟩

/-- The LINK_LOST record of a station, 11 to 14. -/
def linkLostCond (p : Station) : Fin 24 := ⟨11 + p.index.val, by omega⟩

/-- The STATION_SILENT record of a station, 15 to 18. -/
def silentCond (p : Station) : Fin 24 := ⟨15 + p.index.val, by omega⟩

/-- The ADOPT_TIMEOUT record of a station, 19 to 22. -/
def adoptCond (p : Station) : Fin 24 := ⟨19 + p.index.val, by omega⟩

/-- The mismatch record of an axle, 9 or 10. -/
def mismatchCond : Axle → Fin 24
  | .front => 9
  | .rear => 10

/-! ### Consistency (R107, R180) -/

/-- The level table is monotone (R107). -/
def monotone (levels : Vector LevelRec 6) : Bool :=
  (List.finRange 5).all fun i =>
    let lower := levels[i.castSucc]
    let upper := levels[i.succ]
    upper.torque ≤ lower.torque &&
      (upper.torque = 0 || lower.speed = 0 || (upper.speed ≠ 0 && upper.speed ≤ lower.speed))

/-- Whether following parents from `z` at most `fuel` steps comes to `goal`. -/
def reaches (zones : Vector Zone 16) (goal : Fin 16) : Nat → Fin 16 → Bool
  | 0, _ => false
  | fuel + 1, z =>
    match zones[z].parent with
    | none => false
    | some p => p = goal || reaches zones goal fuel p

/-- An axle field names no absent axle (check 3; R4: BOTH names both). -/
def axleFits (t : Topology) (a : AxleField) : Bool :=
  (!namesFront a || t.hasFront) && (!namesRear a || t.hasRear)

/-- A reporter set names no absent station (check 4). -/
def reportersFit (t : Topology) (u : SourceSet) : Bool :=
  u.presentOnly t = u

/-- The seven consistency checks in order (R180). -/
def consistent (t : Topology) (c : Tables) : Nat → Bool
  | 1 => (List.finRange 16).all fun i => !c.zones[i].valid ||
      (match c.zones[i].parent with
      | none => true
      | some p => c.zones[p].valid)
  | 2 => (List.finRange 16).all fun i => !c.zones[i].valid || !reaches c.zones i 16 i
  | 3 => (List.finRange 16).all fun i => !c.zones[i].valid || axleFits t c.zones[i].axle
  | 4 => (List.finRange 16).all fun i => !c.zones[i].valid || reportersFit t c.zones[i].reporters
  | 5 => [Station.ride, .front, .rear, .pack].all fun p => !t.present p || c.zones[p.controlZone].valid
  | 6 => (List.finRange 8).all fun k => !c.scan[k].used ||
      (c.zones[c.scan[k].zone].valid && c.classes[c.scan[k].cls].assigned)
  | 7 => monotone c.levels
  | _ => true

/-- The first check that fails, if any (R180). -/
def firstFailed (t : Topology) (c : Tables) : Option Nat :=
  [1, 2, 3, 4, 5, 6, 7].find? fun n => !consistent t c n

end Sys2Proof.Machine
end

