-- ==== Sys2Proof/Machine/Ops.lean ====
section
/-!
DEFINITION. The shared operations of the blocks behind the ports: accessors, condition records (R51, R52), the snapshot pool
and long slots (R43, R46 to R48), publication and adoption (R116, R130 to R137), the Ladder (R117 to R123), and what the
Fault Table does after an event (R60, R78, R79, R82, R103).
-/
namespace Sys2Proof.Machine

open Sys2Proof

namespace State

/-! ### Accessors -/

def port (s : State) (p : Station) : Port := s.ports.get p

def setPort (s : State) (p : Station) (x : Port) : State :=
  { s with ports := s.ports.put p x }

def modPort (s : State) (p : Station) (f : Port → Port) : State :=
  s.setPort p (f (s.port p))

def entry (s : State) (e : Fin 48) : Entry := s.faults.entries[e]

def setEntry (s : State) (e : Fin 48) (x : Entry) : State :=
  { s with faults := { s.faults with entries := putAt s.faults.entries e x } }

def buffer (s : State) (b : Fin 8) : Buffer := s.pool[b]

def setBuffer (s : State) (b : Fin 8) (x : Buffer) : State :=
  { s with pool := putAt s.pool b x }

def slot (s : State) (p : Station) : LongSlot := s.intake.slots.get p

def setSlot (s : State) (p : Station) (x : LongSlot) : State :=
  { s with intake := { s.intake with slots := s.intake.slots.put p x } }

def queue (s : State) (q : Source) : List QReport := s.intake.queues.get q

def setQueue (s : State) (q : Source) (l : List QReport) : State :=
  { s with intake := { s.intake with queues := s.intake.queues.put q l } }

def cond (s : State) (k : Fin 24) : Cond := s.intake.conds[k]

def adoption (s : State) (p : Station) : Adoption := s.publication.records.get p

def setAdoption (s : State) (p : Station) (x : Adoption) : State :=
  { s with publication := { s.publication with records := s.publication.records.put p x } }

/-- The device is in RUN. -/
def running (s : State) : Bool := s.device.state == .run

/-! ### Condition records -/

/-- A block sets a condition record, giving a detail with a change (R51, R52): a change inverts the unsent-change flag. -/
def setCond (k : Fin 24) (asserted : Bool) (detail : Option Detail) (s : State) : State :=
  if (s.cond k).asserted = asserted then s
  else
    let c := s.cond k
    let d := match detail with
      | some _ => detail
      | none => c.detail
    { s with intake := { s.intake with conds := putAt s.intake.conds k ⟨asserted, d, !c.unsent⟩ } }

/-! ### The snapshot pool and the long slots -/

/-- The assembly writing into a freed buffer goes on without it (R43). -/
def detach (b : Fin 8) (p : Station) (s : State) : State :=
  match (s.slot p).assembly with
  | some a => if a.buffer = some b then s.setSlot p ⟨some { a with buffer := none }, (s.slot p).outcome⟩ else s
  | none => s

/-- A buffer becomes FREE (R43). -/
def freeBuffer (b : Fin 8) (s : State) : State :=
  let s1 := match (s.buffer b).writer with
    | some p => s.detach b p
    | none => s
  s1.setBuffer b Buffer.free

/-- A snapshot named by an entry is freed with it. -/
def freeSnapshot (o : Option (Fin 8)) (s : State) : State :=
  match o with
  | some b => s.freeBuffer b
  | none => s

/-- A report without buffer `b`. -/
def unbindReport (b : Fin 8) (r : QReport) : QReport :=
  if r.buffer = some b then { r with buffer := none } else r

/-- The queued report bound to buffer `b`, or the one being applied, loses it (R47). -/
def unbind (b : Fin 8) (s : State) : State :=
  { s with
    intake := { s.intake with queues := s.intake.queues.map fun l => l.map (unbindReport b) }
    faults := { s.faults with applying := s.faults.applying.map (unbindReport b) } }

/-- The entry that holds a truncated snapshot loses it (R47). -/
def loseSnapshot (e : Fin 48) (s : State) : State :=
  s.setEntry e { s.entry e with snapshot := none, snapshotLost := true }

/-- The owner of a truncated buffer loses it (R47). -/
def dropOwner (b : Fin 8) (s : State) : State :=
  match (s.buffer b).owner with
  | .pending _ => s.unbind b
  | .entry e => s.loseSnapshot e
  | .free => s

/-- An assembly ends: the slot is FREE with this outcome (R44). -/
def endAssembly (p : Station) (o : SlotOutcome) (s : State) : State :=
  s.setSlot p ⟨none, o⟩

/-- The causes of R47: an open assembly is truncated when it has a buffer, and ends DROPPED when it has none (R48). -/
def truncate (p : Station) (s : State) : State :=
  match (s.slot p).assembly with
  | none => s
  | some a =>
    match a.buffer with
    | none => s.endAssembly p .dropped
    | some b => ((s.dropOwner b).freeBuffer b).endAssembly p .truncated

/-! ### Publication -/

/-- The hard lines follow the in-force envelope and the device state (R127, R128). -/
def driveLines (s : State) : State :=
  { s with lines := linesOf s.device.state s.ladder.inForce.limits }

/-- Field by field the stricter of two envelopes; the fields not compared are kept with the level or the publication (log 9). -/
def inForceOf (published adopted : Envelope) : Envelope :=
  let c := if published.limits.level.val < adopted.limits.level.val then adopted else published
  { published with limits := published.limits.stricter adopted.limits, torque := c.torque, speed := c.speed }

/-- The in-force envelope is formed afresh (R118, R120). -/
def refreshInForce (s : State) : State :=
  driveLines { s with ladder := { s.ladder with inForce := inForceOf s.ladder.published s.ladder.adopted } }

/-- Adoption of the current generation is complete: the published envelope is the last fully adopted one (R120). -/
def completeAdoption (s : State) : State :=
  refreshInForce { s with ladder := { s.ladder with adopted := s.ladder.published } }

/-- An ENVELOPE of the current generation is placed on a port, replacing an unsent one; grant due is set (R23, R33). -/
def placeEnvelope (p : Station) (s : State) : State :=
  s.modPort p fun o => { o with envelope := some s.ladder.published, grantDue := true }

/-- The next generation (R130). -/
def nextGeneration (n : Nat) : Nat :=
  if n < generationMax then n + 1 else 1

/-- An envelope completed from its six fields: ceilings of its level, overflow as the map stands (R116). -/
def formEnvelope (generation : Nat) (l : Limits) (cause : Option (Fin 48)) (s : State) : Envelope :=
  ⟨generation, l, s.config.levels[l.level].torque, s.config.levels[l.level].speed, cause, s.faults.anyCell⟩

/-- The ports that a publication is addressed to: those in the exchange, and none in STANDBY (R132). -/
def addressed (s : State) (p : Station) : Bool :=
  s.device.state != .standby && (s.port p).inExchange

/-- The adoption record of a port at a publication (R130, R132). -/
def publishRecord (wraps member : Bool) (a : Adoption) : Adoption :=
  { a with adopted := if wraps then 0 else a.adopted, owing := member, window := .idle, timer := none, lapsed := false }

/-- The port of a member gets the new ENVELOPE (R132). -/
def publishPort (e : Envelope) (member : Bool) (o : Port) : Port :=
  if member then { o with envelope := some e, grantDue := true } else o

/-- The Ladder publishes an envelope of these six fields and cause: Publication numbers it, forms its adoption set and
places it; an empty set is complete at once (R116, R130, R132, R120). -/
def publish (l : Limits) (cause : Option (Fin 48)) (s : State) : State :=
  let g := nextGeneration s.publication.counter
  let wraps := !(s.publication.counter < generationMax)
  let e := formEnvelope g l cause s
  let members := PerStation.tabulate s.addressed
  let s1 := { s with
    ladder := { s.ladder with published := e }
    publication :=
      { counter := g
        members := members
        complete := !(members.any id)
        records := PerStation.tabulate fun p => publishRecord wraps (s.addressed p) (s.adoption p) }
    ports := PerStation.tabulate fun p => publishPort e (s.addressed p) (s.port p) }
  if s1.publication.complete then s1.completeAdoption else s1.refreshInForce

/-- A port that leaves the exchange (R135). -/
def depart (p : Station) (s : State) : State :=
  s.setAdoption p { s.adoption p with window := .idle, timer := none }

/-- A port that synchronises joins the current generation (R134); whether its second window has expired is kept (R136; log 21). -/
def join (p : Station) (s : State) : State :=
  placeEnvelope p
    { s with publication :=
      { s.publication with
        members := s.publication.members.put p true
        complete := false
        records := s.publication.records.put p
          { s.adoption p with adopted := 0, owing := true, window := .idle, timer := none } } }

/-! ### The Ladder -/

/-- The relax state after a formation of the target or a publication (R121); `moved` says that the target changed or a
publication was made. -/
def setRelax (moved : Bool) (s : State) : State :=
  if s.ladder.target.limits = s.ladder.published.limits then
    { s with ladder := { s.ladder with relax := .idle, hold := none } }
  else if moved then
    { s with ladder := { s.ladder with relax := .holding, hold := some s.config.timing.relaxHold } }
  else s

/-- The target the demands ask for now (R113, R116). -/
def formedTarget (s : State) : Limits :=
  targetLimits s.device.topology s.config.overflowLevel s.faults s.ladder.parked

/-- A tightening: the published envelope merged with the target, escalated, published (R119). -/
def tighten (s : State) : State :=
  (s.publish (s.ladder.published.limits.stricter s.ladder.target.limits).escalate (causeOf s.faults)).setRelax true

/-- In RUN the Ladder forms the target afresh, tightens at once if it is stricter, and sets its relax state (R117, R119, R121).
The target formed here holds generation 0, since nothing numbers it: the model's choice, log 9. -/
def reform (s : State) : State :=
  let l := s.formedTarget
  let s1 := { s with ladder := { s.ladder with target := formEnvelope 0 l (causeOf s.faults) s } }
  if l.someStricter s.ladder.published.limits then s1.tighten
  else s1.setRelax (l ≠ s.ladder.target.limits)

/-- The conditions under which a relaxation step is taken (R122). -/
def stepDue (s : State) : Bool :=
  s.running && s.ladder.relax == .due && s.publication.complete &&
    (s.ladder.published.limits.level.val < 4 || s.ladder.parked)

/-- A relaxation step is tested, and published when it loosens a field (R122, R123). -/
def tryStep (s : State) : State :=
  let l := Limits.step s.ladder.parked s.ladder.published.limits s.ladder.target.limits
  if s.stepDue && s.ladder.published.limits.someStricter l then
    (s.publish l (causeOf s.faults)).setRelax true
  else s

/-- Publication tells the Ladder that the current generation is complete (R120, R122). -/
def adoptionComplete (s : State) : State :=
  s.completeAdoption.tryStep

/-- Motion reports a change of PARKED to the Ladder and the Fault Table (R117, R122, R169). -/
def reportParked (b : Bool) (s : State) : State :=
  let s1 := { s with ladder := { s.ladder with parked := b }, faults := { s.faults with parked := b } }
  if s.running then (if b then s1.reform.tryStep else s1.reform) else s1

/-! ### After an event of the Fault Table -/

/-- Every active entry has the root R102 gives it, and no other entry has one (R82, R103; log 18). -/
def settleRoots (s : State) : State :=
  { s with faults := { s.faults with
    entries := mapTable
      (fun e => { e with root := if e.active then rootOf s.config s.faults.entries e.zone else none })
      s.faults.entries } }

/-- The Fault Table hands a NOTICE to port 0, where it replaces an unsent one; in SYNC and OFFLINE it is dropped (R33, R77). -/
def handNotice (s : State) : State :=
  s.modPort .ride fun o => if o.inExchange then { o with notice := true } else o

/-- Both notice timers stop (R78). -/
def stopNoticeTimers (s : State) : State :=
  { s with faults := { s.faults with noticeDelay := none, absoluteDelay := none } }

/-- A notice change: the delay restarts, the absolute delay starts if it does not run (R78). -/
def startNoticeTimers (s : State) : State :=
  { s with faults := { s.faults with
    noticeDelay := some noticeDelayMs
    absoluteDelay := match s.faults.absoluteDelay with
      | some t => some t
      | none => some absoluteDelayMs } }

/-- High water: the flag is set, a NOTICE is handed at once, the timers stop (R79). -/
def reachHighWater (s : State) : State :=
  stopNoticeTimers (handNotice { s with faults := { s.faults with highWater := true } })

/-- Whether an event changed an entry's state or the overflow cell count (R78; log 19). -/
def noticeChange (old new : FaultTable) : Bool :=
  old.states != new.states || old.cellCount != new.cellCount

/-- The event brought the active count from 39 to 40 (R79). -/
def highWaterReached (old new : FaultTable) : Bool :=
  old.activeCount < 40 && 40 ≤ new.activeCount

/-- The notices an event from table `old` calls for (R78, R79). -/
def notify (old : FaultTable) (s : State) : State :=
  if highWaterReached old s.faults then s.reachHighWater
  else if noticeChange old s.faults then s.startNoticeTimers
  else s

/-- Whether an event reaches the Ladder: contribution, or the overflow map to or from empty (R58, R68, R117). -/
def demandChange (old new : FaultTable) : Bool :=
  old.contributors != new.contributors || old.anyCell != new.anyCell

/-- The Ladder is told of an event from table `old` (R117). -/
def tellLadder (old : FaultTable) (s : State) : State :=
  if demandChange old s.faults then s.reform else s

/-- What follows every event of the Fault Table in RUN: roots, notices, the Ladder, once (R60, R82, R103, R117).
Outside RUN none of them runs (R78, R105, R117). -/
def settle (old : FaultTable) (s : State) : State :=
  if s.running then (s.settleRoots.notify old).tellLadder old else s

end State

end Sys2Proof.Machine
end

