-- ==== Sys2Proof/Machine/Adoption.lean ====
section
/-!
DEFINITION. Commands of the Ladder and of Publication: the relax hold (R121, R122) and the adoption window (R137, R138).
-/
namespace Sys2Proof.Machine

open Sys2Proof

/-- The detail of ADOPT_TIMEOUT: how many generations behind, held at 32767 (R138). -/
def lagDetail (published adopted : Nat) : Detail :=
  BitVec.ofNat 16 (min (published - adopted) 32767)

namespace State

/-- The hold has expired: relaxation is due, and a step is tested (R121, R122). -/
def relaxDue (s : State) : State :=
  tryStep { s with ladder := { s.ladder with relax := .due, hold := none } }

/-- The first window expires: the ENVELOPE is placed again and the window waits for its send (R137). -/
def resend (p : Station) (s : State) : State :=
  placeEnvelope p (s.setAdoption p { s.adoption p with window := .resent, timer := none })

/-- The second window expires: the port is unresponsive, and its condition is asserted once (R138). -/
def lapse (p : Station) (s : State) : State :=
  let a := s.adoption p
  let s1 := s.setAdoption p { a with window := .idle, timer := none, unresponsive := true, lapsed := true }
  if a.unresponsive then s1
  else s1.setCond (adoptCond p) true (some (lagDetail s.publication.counter a.adopted))

end State

/-- RELAX_HOLD_EXPIRY (R121, R122). -/
def execRelaxHoldExpiry (s : State) : Host.Outcome State Fault Refusal :=
  match s.ladder.hold with
  | some _ => .next s.relaxDue
  | none => .next s

/-- ADOPTION_WINDOW_EXPIRY (R137, R138). -/
def execAdoptionWindowExpiry (p : Station) (s : State) : Host.Outcome State Fault Refusal :=
  match (s.adoption p).timer, (s.adoption p).window with
  | some _, .waiting => .next (s.resend p)
  | some _, .resent => .next (s.lapse p)
  | some _, .idle => .next s
  | none, _ => .next s

end Sys2Proof.Machine
end

