-- ==== Sys2Proof/Machine/MonitorOps.lean ====
section
/-!
DEFINITION. The Self Monitor: slot resets (R149, R156), the order of a scan (R152), a slot's filter (R153 to R155), the bus
comparator (R159, R160), what writes of its records do, and key-off (R163).
-/
namespace Sys2Proof.Machine

open Sys2Proof

/-- A slot's state after a judged sample that lies inside its window or not (R154, R155). -/
def Filter.judge (r : ScanRec) (inside : Bool) (f : Filter) : Filter :=
  match f.state, inside with
  | .clear, true => { f with outCount := 0 }
  | .clear, false =>
    if f.outCount + 1 = r.assertCount then ⟨.asserted, 0, 0⟩ else { f with outCount := f.outCount + 1 }
  | .asserted, false => { f with inCount := 0 }
  | .asserted, true =>
    if f.inCount + 1 = r.releaseCount then ⟨.clear, 0, 0⟩ else { f with inCount := f.inCount + 1 }
  | .unused, _ => f
  | .idle, _ => f

/-- A slot's filter at key-off (R163). -/
def Filter.keyOff (f : Filter) : Filter :=
  ⟨if f.state = .asserted then .clear else f.state, 0, 0⟩

/-- A sample lies inside a slot's window (R150). -/
def insideWindow (r : ScanRec) (v : Counts) : Bool :=
  r.low ≤ v.toNat && v.toNat ≤ r.high

/-- A scan as it begins (R152): used slots on enabled channels in slot order, then the enabled channels in channel order, each
of which is sampled on its own unless a slot has sampled it by then (`restOf`). -/
def scanItems (c : Tables) : List ScanItem :=
  (List.finRange 8).filterMap (fun k =>
      if c.scan[k].used && c.enable[c.scan[k].channel] then some (.slot k c.scan[k].channel) else none)
    ++ (List.finRange 7).filterMap (fun ch => if c.enable[ch] then some (.alone ch) else none)

/-- Whether a sample of the current scan is still to be taken with the records as they stand (R149, R156; log 15). -/
def ScanItem.valid (c : Tables) : ScanItem → Bool
  | .slot k ch => c.scan[k].used && c.scan[k].channel = ch && c.enable[ch]
  | .alone ch => c.enable[ch]
  | .lost _ => false

/-- The channel a sample is of. -/
def ScanItem.channel : ScanItem → Fin 7
  | .slot _ ch => ch
  | .alone ch => ch
  | .lost ch => ch

/-- What is left of a scan after a sample of channel `ch`: the channel is not sampled on its own any more, and samples that the
records no longer ask for are passed over (R149, R152). -/
def restOf (c : Tables) (ch : Fin 7) (rest : List ScanItem) : List ScanItem :=
  (rest.filter fun j => j ≠ .alone ch).dropWhile fun j => !j.valid c

/-- The sample in progress once the records are `c`: lost when its channel is not in the enable set (R149), the channel's own
when its slot no longer stands on the channel (R156). -/
def ScanItem.goesOn (c : Tables) (i : ScanItem) : ScanItem :=
  match i with
  | .slot _ ch => if i.valid c then i else if c.enable[ch] then .alone ch else .lost ch
  | .alone ch => if i.valid c then i else .lost ch
  | .lost _ => i

/-- What is left of a scan once the records are `c`: the sample in progress, and those still to come that the records ask for. A
channel or slot that leaves and comes back waits for the next scan (R149, R156; log 15). -/
def scanOn (c : Tables) : List ScanItem → List ScanItem
  | [] => []
  | i :: rest => i.goesOn c :: rest.filter (·.valid c)

/-- The comparator's threshold in mV, and as a detail in 0.1 V (R159). -/
def thresholdMv (i : Fin 8) : Nat := thresholdVolts i * 1000

def thresholdDetail (i : Fin 8) : Detail := BitVec.ofNat 16 (thresholdVolts i * 10)

namespace State

/-- The Self Monitor works in CONFIGURE and RUN (R148, R159). -/
def watching (s : State) : Bool :=
  s.device.state == .configure || s.device.state == .run

def filter (s : State) (k : Fin 8) : Filter := s.monitor.filters[k]

def setFilter (s : State) (k : Fin 8) (f : Filter) : State :=
  { s with monitor := { s.monitor with filters := putAt s.monitor.filters k f } }

/-- Slot `k` is reset by its record and the enable set; an asserted condition is set deasserted (R149, R153, R156). -/
def resetSlot (k : Fin 8) (s : State) : State :=
  (s.setFilter k (Filter.initial s.config.scan[k] s.config.enable)).setCond (slotCond k) false none

/-- The scan in progress goes on under the records as they stand. -/
def narrowScan (s : State) : State :=
  { s with monitor := { s.monitor with scan := scanOn s.config s.monitor.scan } }

/-- A SCAN record is written (R156). -/
def writeScan (k : Fin 8) (r : ScanRec) (s : State) : State :=
  resetSlot k (narrowScan { s with config := { s.config with scan := putAt s.config.scan k r } })

/-- The slot is reset if its channel has joined or left the enable set (R149). -/
def resetIfMoved (old : Vector Bool 7) (s : State) (k : Fin 8) : State :=
  let r := s.config.scan[k]
  if r.used && old[r.channel] ≠ s.config.enable[r.channel] then s.resetSlot k else s

/-- The latest samples and the scan in progress once the enable set is in force: a channel outside it holds no sample, and
has none to come in this scan, the one being taken included (R149). -/
def dropDisabled (s : State) : State :=
  narrowScan { s with monitor := { s.monitor with
    latest := tabulate fun ch => if s.config.enable[ch] then s.monitor.latest[ch] else none } }

/-- The enable set is written (R149). -/
def writeEnable (enable : Vector Bool 7) (s : State) : State :=
  let s1 := dropDisabled { s with config := { s.config with enable := enable } }
  (List.finRange 8).foldl (fun t k => t.resetIfMoved s.config.enable k) s1

/-- FALLING (R159): the comparator is asserted, with the threshold as detail of record 8. -/
def fall (s : State) : State :=
  setCond 8 true (some (thresholdDetail s.config.threshold)) { s with monitor := { s.monitor with comparator := true } }

/-- RISING (R159). -/
def rise (s : State) : State :=
  setCond 8 false none { s with monitor := { s.monitor with comparator := false } }

/-- The comparator takes a voltage against the threshold (R159, R160). -/
def compareLink (mV : Nat) (s : State) : State :=
  if s.monitor.comparator then
    (if thresholdMv s.config.threshold + 1000 < mV then s.rise else s)
  else if mV < thresholdMv s.config.threshold then s.fall else s

/-- The threshold index is written, and the comparator takes the voltage against it (R160). -/
def writeThreshold (i : Fin 8) (mV : Nat) (s : State) : State :=
  compareLink mV { s with config := { s.config with threshold := i } }

/-- What is left to the next scan under a new scan period: one new period after the start of the last scan, or at once
(R152). -/
def scanLeft (old new : Nat) (t : Timer) : Timer :=
  t.map fun left => new - (old - left)

/-- The timing quantities are written; timers that run keep what they have left, but for the scan timer (R152, R179). -/
def writeTiming (k : Timing) (s : State) : State :=
  { s with
    config := { s.config with timing := k }
    monitor := { s.monitor with
      scanTimer := scanLeft s.config.timing.scanPeriod k.scanPeriod s.monitor.scanTimer } }

/-- A scan begins, and the next is due one scan period later (R152). -/
def beginScan (s : State) : State :=
  { s with monitor := { s.monitor with
    scan := scanItems s.config
    scanTimer := some s.config.timing.scanPeriod } }

/-- A completed sample becomes its channel's latest sample if the channel is enabled (R148, R149). -/
def keepSample (ch : Fin 7) (v : Counts) (s : State) : State :=
  if s.config.enable[ch] then
    { s with monitor := { s.monitor with latest := putAt s.monitor.latest ch (some v) } }
  else s

/-- Slot `k` acts on a sample (R154, R155): its condition follows its state, with the sample as detail of an assertion. -/
def judgeSample (k : Fin 8) (v : Counts) (s : State) : State :=
  let f := (s.filter k).judge s.config.scan[k] (insideWindow s.config.scan[k] v)
  let on := f.state == .asserted
  (s.setFilter k f).setCond (slotCond k) on (if on then some (v.setWidth 16) else none)

/-- A completed sample is kept, and filtered by the slot it was taken for if that slot still stands on its channel; a lost one
has no effect (R148, R149, R154 to R156). -/
def useSample (i : ScanItem) (v : Counts) (s : State) : State :=
  match i with
  | .slot k ch => if i.valid s.config then (s.keepSample ch v).judgeSample k v else s.keepSample ch v
  | .alone ch => s.keepSample ch v
  | .lost _ => s

/-- The sample in progress completes, and the next one the records still ask for begins (R148, R152). -/
def completeSample (v : Counts) (s : State) : State :=
  match s.monitor.scan with
  | [] => s
  | i :: rest =>
    let s1 := s.useSample i v
    { s1 with monitor := { s1.monitor with scan := restOf s.config i.channel rest } }

/-- The Self Monitor stops at key-off (R163); the records are Intake's to deassert (R57). -/
def stopMonitor (s : State) : State :=
  { s with monitor :=
    { latest := Vector.replicate 7 none
      filters := mapTable Filter.keyOff s.monitor.filters
      comparator := false
      scan := []
      scanTimer := none } }

/-- The comparator starts deasserted on entry to CONFIGURE and takes the voltage at once; the first scan begins (R152, R160). -/
def startMonitor (mV : Nat) (s : State) : State :=
  beginScan (compareLink mV { s with monitor := { s.monitor with comparator := false } })

end State

end Sys2Proof.Machine
end

