-- ==== Sys2Proof/Machine/MotionOps.lean ====
section
/-!
DEFINITION. Motion: what a change of speed or liveness does to still, PARKED, the vehicle speed and the mismatch detector
(R164 to R171), and the silence conditions (R172).
-/
namespace Sys2Proof.Machine

open Sys2Proof

namespace Motion

/-- PARKED, still and the parked hold after speeds or liveness moved; `joined` says that a station joined the live set
(R167, R168). -/
def settleParked (holdMs : Nat) (joined : Bool) (m : Motion) : Motion :=
  if m.stillNow then
    if m.parked then { m with still := true }
    else if joined || !m.still then { m with still := true, parkedHold := some holdMs }
    else m
  else { m with still := false, parked := false, parkedHold := none }

/-- The detector returns to QUIET (R170). -/
def quiet (m : Motion) : Motion :=
  { m with mismatch := .quiet, mismatchAxle := none, mismatchTimer := none }

/-- The mismatch detector on a classified moment (the table of R170). -/
def detect (mo : Moment) (m : Motion) : Motion :=
  match m.mismatch, mo with
  | .quiet, .out a => { m with mismatch := .arming, mismatchAxle := some a, mismatchTimer := some mismatchMs }
  | .quiet, .inside | .quiet, .notEvaluable => m
  | .arming, .out a =>
    if m.mismatchAxle = some a then m else { m with mismatchAxle := some a, mismatchTimer := some mismatchMs }
  | .arming, .inside | .arming, .notEvaluable => m.quiet
  | .asserted, .out _ => m
  | .asserted, .inside => { m with mismatch := .settling, mismatchTimer := some mismatchMs }
  | .asserted, .notEvaluable => m.quiet
  | .settling, .out _ => { m with mismatch := .asserted, mismatchTimer := none }
  | .settling, .inside => m
  | .settling, .notEvaluable => m.quiet

/-- Whether the detector holds a condition asserted: ASSERTED or SETTLING (R170). -/
def mismatchHeld (m : Motion) : Bool :=
  match m.mismatch with
  | .asserted | .settling => true
  | .quiet | .arming => false

/-- Motion's view of a port: liveness, and no speed in SYNC or OFFLINE (R164, R165). -/
def withPort (p : Station) (o : Port) (m : Motion) : Motion :=
  let gone := o.state == .sync || o.state == .offline
  match p with
  | .front => { m with liveFront := o.live, speedFront := if gone then none else m.speedFront }
  | .rear => { m with liveRear := o.live, speedRear := if gone then none else m.speedRear }
  | .ride | .pack => m

/-- A wheel speed arrives from an inverter station (R164). -/
def withSpeed (p : Station) (v : Nat) (m : Motion) : Motion :=
  match p with
  | .front => { m with speedFront := some v }
  | .rear => { m with speedRear := some v }
  | .ride | .pack => m

/-- A station joined the live set. -/
def joinedFrom (m old : Motion) : Bool :=
  (m.liveFront && !old.liveFront) || (m.liveRear && !old.liveRear)

/-- Whether a speed, a liveness or the vehicle speed changed, which is when the moment is classed (R170; log 20). -/
def movedFrom (m old : Motion) : Bool :=
  m.speedFront != old.speedFront || m.speedRear != old.speedRear || m.liveFront != old.liveFront ||
    m.liveRear != old.liveRear || m.vehicleSpeed != old.vehicleSpeed

/-- Motion after speeds or liveness moved from `old`: PARKED, the vehicle speed, and in the two-axle topologies the
detector (R166 to R170). -/
def settleFrom (t : Topology) (k : Timing) (old m : Motion) : Motion :=
  let m1 := m.settleParked k.parkedHold (m.joinedFrom old)
  let m2 := { m1 with vehicleSpeed := m1.vehicle }
  if t.dualAxle && m2.movedFrom old then m2.detect (m2.moment k.mismatchLimit) else m2

end Motion

namespace State

/-- A mismatch condition that the detector no longer holds is deasserted (R170). -/
def releaseMismatch (old : Motion) (s : State) : State :=
  match old.mismatchAxle with
  | some a => if old.mismatchHeld && !s.motion.mismatchHeld then s.setCond (mismatchCond a) false none else s
  | none => s

/-- Speeds or liveness moved to those of `m`: Motion settles, its mismatch condition follows, and a change of PARKED is
reported (R166 to R170). -/
def moveMotion (m : Motion) (s : State) : State :=
  let old := s.motion
  let new := Motion.settleFrom s.device.topology s.config.timing old m
  let s1 := releaseMismatch old { s with motion := new }
  if new.parked = old.parked then s1 else s1.reportParked new.parked

/-- Motion is told of a change of an inverter station's port or of its silent count (R164, R165). -/
def motionPort (p : Station) (s : State) : State :=
  if p.inverter then s.moveMotion (s.motion.withPort p (s.port p)) else s

/-- Motion sets a station's silence condition at the end of a turn, or when the count is cleared (R172). -/
def motionSilence (p : Station) (silent : Bool) (s : State) : State :=
  let n := (s.port p).silent
  if silent then
    if s.config.timing.silenceLimit ≤ n then s.setCond (silentCond p) true (some (BitVec.ofNat 16 n)) else s
  else s.setCond (silentCond p) false none

end State

end Sys2Proof.Machine
end

