-- ==== Sys2Proof/Machine/LinkOps.lean ====
section
/-!
DEFINITION. The ports: entering OFFLINE, SYNC, HOLD and TURN (R19 to R25), the end of a turn with its RECEIPT (R25, R27,
R28), discards (R18, R29), and how an inbound frame meets the port's state (R18, R26, R29).
-/
namespace Sys2Proof.Machine

open Sys2Proof

/-- How a turn ends (R25). -/
inductive TurnEnd where
  | normal | expiry | broken
  deriving DecidableEq, Repr

namespace Port

/-- Entry to HOLD: the REQ level is taken as it stands, and an asserted one sets grant due (R15, R23, R24). -/
def toHold (o : Port) : Port :=
  { o with state := .hold, reqSample := o.reqPin, grantDue := o.grantDue || o.reqPin }

/-- Entry to OFFLINE (R19, R36); the pin itself is outside the port. -/
def toOffline (o : Port) : Port :=
  { Port.reset with reqPin := o.reqPin }

/-- Entry to SYNC (R20, R36): lists, discards, timers and the REQ sample are cleared; the silent count, the contention
count and the declared max frame are kept. The first SYNC is due once the line has been idle for 2 ms. -/
def toSync (o : Port) : Port :=
  { Port.reset with
    state := .sync
    silent := o.silent
    contentions := o.contentions
    maxFrame := o.maxFrame
    reqPin := o.reqPin
    syncTimer := some syncQuietMs }

/-- A frame carrying TURN has been sent: TURN is entered, the window starts, grant due is cleared, the heartbeat stops
(R23, R25). -/
def toTurn (windowMs : Nat) (o : Port) : Port :=
  { o with
    state := .turn
    sending := none
    grantDue := false
    heartbeat := none
    turnWindow := some windowMs
    turnExpired := false
    frames := 0
    verdicts := []
    gotStatus := false }

/-- Entry to RECOVER (R30, R31). -/
def toRecover (o : Port) : Port :=
  { o with state := .recover, recoverQuiet := some recoverQuietMs }

/-- One more pending discard (R18). -/
def addDiscard (o : Port) : Port :=
  { o with discards := satSucc countMax o.discards }

/-- A RECEIPT joins the list; the oldest is removed when four wait (R33). -/
def addReceipt (r : Receipt) (o : Port) : Port :=
  { o with receipts := if o.receipts.length < receiptMax then o.receipts ++ [r] else o.receipts.tail ++ [r] }

/-- Whether the turn calls for a RECEIPT (R28). -/
def receiptDue (o : Port) : Bool :=
  !o.verdicts.isEmpty || 0 < o.discards

/-- A turn is silent if it ends by expiry or delivered no valid STATUS (R27). -/
def silentTurn (how : TurnEnd) (o : Port) : Bool :=
  how = .expiry || !o.gotStatus

/-- The turn is over: counts, heartbeat, and the turn's own fields (R23, R25, R27, R30). -/
def closeTurn (how : TurnEnd) (heartbeatMs : Nat) (o : Port) : Port :=
  { o with
    silent := if o.silentTurn how then satSucc countMax o.silent else 0
    contentions := if how = .normal then 0 else o.contentions
    discards := 0
    heartbeat := some heartbeatMs
    turnWindow := none
    turnExpired := false
    frames := 0
    verdicts := []
    gotStatus := false }

/-- Where the port goes at the end of a turn (R25). -/
def afterTurn (how : TurnEnd) (o : Port) : Port :=
  match how with
  | .normal | .expiry => o.toHold
  | .broken => o.toRecover

end Port

namespace State

/-- The port discards a frame and counts it (R18). -/
def countDiscard (p : Station) (s : State) : State :=
  s.modPort p Port.addDiscard

/-- Intake and Publication are told that a port has left HOLD, TURN or RECOVER (R19, R20, R47, R135). -/
def leaveExchange (p : Station) (s : State) : State :=
  (s.truncate p).depart p

/-- A port enters OFFLINE (R19). -/
def enterOffline (p : Station) (s : State) : State :=
  let o := s.port p
  if o.state = .offline then s
  else
    let s1 := s.setPort p o.toOffline
    (if o.inExchange then s1.leaveExchange p else s1).motionPort p

/-- A port enters SYNC (R20). -/
def enterSync (p : Station) (s : State) : State :=
  let o := s.port p
  let s1 := s.setPort p o.toSync
  (if o.inExchange then s1.leaveExchange p else s1).motionPort p

/-- The RECEIPT of the turn that ends now (R28). -/
def receiptOf (p : Station) (s : State) : Receipt :=
  let o := s.port p
  { verdicts := o.verdicts
    discards := o.discards
    free := shortQueueMax - (s.queue p.source).length
    filling := (s.slot p).assembly.isSome
    outcome := (s.slot p).outcome }

/-- A turn ends: the RECEIPT is formed, the counts kept, Motion told (R25, R27, R28, R164, R172). -/
def endTurn (how : TurnEnd) (p : Station) (s : State) : State :=
  let o := s.port p
  let o1 := if o.receiptDue then o.addReceipt (s.receiptOf p) else o
  let s1 := s.setPort p ((o1.closeTurn how s.config.timing.heartbeat).afterTurn how)
  (s1.motionSilence p (o.silentTurn how)).motionPort p

/-- The recover quiet time restarts (R31). -/
def restartQuiet (p : Station) (s : State) : State :=
  s.modPort p fun o => { o with recoverQuiet := some recoverQuietMs }

/-- A frame taken from the station within a turn: the first 16 are handed over, later ones are discarded and counted; an
intact frame carrying TURN ends the turn (R25, R26). -/
def takeInTurn (p : Station) (turn : Bool) (hand : State → State) (s : State) : State :=
  let n := (s.port p).frames
  let s1 := s.modPort p fun o => { o with frames := o.frames + 1 }
  let s2 := if n < turnFrameMax then hand s1 else s1.countDiscard p
  if turn then s2.endTurn .normal p else s2

/-- A frame that is not taken (R29, R31): discarded and counted in HOLD and RECOVER, where it also restarts the quiet time;
ignored in SYNC and OFFLINE. -/
def refuseFrame (p : Station) (s : State) : State :=
  match (s.port p).state with
  | .hold => if (s.port p).sending.isSome then s else s.countDiscard p
  | .recover => (s.countDiscard p).restartQuiet p
  | .offline | .sync | .turn => s

/-- A frame left incomplete when the line goes idle, outside a turn (R18, R29). In HOLD it was sent before any frame that the
port has begun at that same moment, so it is counted whichever of the two comes first (log 36). -/
def refuseBroken (p : Station) (s : State) : State :=
  match (s.port p).state with
  | .hold => s.countDiscard p
  | .recover => (s.countDiscard p).restartQuiet p
  | .offline | .sync | .turn => s

/-- The port is in a turn whose window has not expired. -/
def inTurn (p : Station) (s : State) : Bool :=
  (s.port p).state == .turn && !(s.port p).turnExpired

/-- An intact frame of a known kind completes on a port: `hand` is what its block does with it in a turn (R18, R26, R29).
While an expired turn waits for the line to be idle, the frame is the unfinished one that R25 discards then (log 12). -/
def takeFrame (p : Station) (turn : Bool) (hand : State → State) (s : State) : State :=
  if s.inTurn p then s.takeInTurn p turn hand else s.refuseFrame p

/-- The port appends a receipted frame's verdict to the turn's list (R26). -/
def addVerdict (p : Station) (v : Verdict) (s : State) : State :=
  s.modPort p fun o => { o with verdicts := o.verdicts ++ [v] }

/-- A receipted frame: its block answers one verdict at once (R26). -/
def receipted (p : Station) (judge : State → State × Verdict) (s : State) : State :=
  (judge s).1.addVerdict p (judge s).2

/-- A port has synchronised: Publication joins it and Motion hears that its silent count is 0 (R21, R22, R134, R164, R172). -/
def synchronised (p : Station) (s : State) : State :=
  ((s.motionSilence p false).motionPort p).join p

/-- A frame that carried TURN, or did not, has been sent from HOLD (R23, R34). -/
def frameSent (p : Station) (turn : Bool) (s : State) : State :=
  s.modPort p fun o => if turn then o.toTurn s.config.timing.turnWindow else { o with sending := none }

end State

end Sys2Proof.Machine
end

