-- ==== Sys2Proof/Machine/TableOps.lean ====
section
/-!
DEFINITION. The Fault Table's operations: the lifecycle of an entry (R82 to R96), where a report lands and what it does there
(R60 to R67), the dealing with its buffer (R49), freeing and retiring entries (R59, R70, R88, R94, R100), and the key-off
purge (R80).
-/
namespace Sys2Proof.Machine

open Sys2Proof

/-- The demand an entry records at confirmation (R109). -/
def demandOf (k : FaultClass) (z : Zone) : Demand :=
  match k.response with
  | .zoneLoss => ⟨z.lossLevel, z.lossAction, z.axle, false, 100, .none⟩
  | .own r => ⟨r.level, r.action, z.axle, r.regenInhibit, r.packCeiling, r.packAction⟩

namespace Entry

/-- Confirmation (R87): LATCHED for a latching class, CONFIRMED otherwise, with the demand recorded. -/
def confirm (now : Clock) (k : FaultClass) (z : Zone) (e : Entry) : Entry :=
  { e with
    state := if k.latching then .latched else .confirmed
    stateSince := now
    timer := .none
    demand := some (demandOf k z) }

/-- The first state of an episode (R85): an immediate class confirms, another is SUSPECT with its confirm window running. -/
def begin (now : Clock) (k : FaultClass) (z : Zone) (e : Entry) : Entry :=
  if immediate k then e.confirm now k z
  else { e with state := .suspect, stateSince := now, timer := .confirm k.confirmWindow }

/-- An entry opened for a new pair (R64). -/
def opened (now : Clock) (r : QReport) : Entry :=
  { Entry.free with
    zone := r.zone
    cls := r.cls
    episode := 1
    openedAt := now
    stateSince := now
    lastReportAt := r.arrival
    reportCount := 1
    witness := SourceSet.single r.source
    present := SourceSet.single r.source
    detail := r.detail }

/-- A RETIRED entry reopened for a new episode (R66). -/
def reopened (now : Clock) (r : QReport) (e : Entry) : Entry :=
  { e with
    episode := satSucc episodeMax e.episode
    openedAt := now
    stateSince := now
    lastReportAt := r.arrival
    reportCount := 1
    witness := SourceSet.single r.source
    present := SourceSet.single r.source
    recurrence := 0
    root := none
    demand := none
    outcome := none
    detail := match r.detail with
      | some d => some d
      | none => e.detail }

/-- Retirement with its outcome (R82, R88, R89, R94, R100): the sets, counts, demand, detail and snapshot are kept. -/
def retire (now : Clock) (o : EpisodeEnd) (e : Entry) : Entry :=
  { e with state := .retired, stateSince := now, timer := .none, outcome := some o, root := none }

/-- What every PRESENT report on an active entry does (R63, R86, R91, R93): sets, count, detail and last_report_at. -/
def witnessed (r : QReport) (e : Entry) : Entry :=
  { e with
    lastReportAt := r.arrival
    reportCount := satSucc reportCountMax e.reportCount
    witness := e.witness.insert r.source
    present := e.present.insert r.source
    detail := match r.detail with
      | some d => some d
      | none => e.detail }

/-- A return from HEALING (R93): the third goes to LATCHED. -/
def recur (now : Clock) (e : Entry) : Entry :=
  { e with
    state := if e.recurrence + 1 < 3 then .confirmed else .latched
    stateSince := now
    timer := .none
    recurrence := min 3 (e.recurrence + 1) }

/-- A PRESENT report on an active entry (R86, R91, R93). -/
def onPresent (now : Clock) (k : FaultClass) (z : Zone) (r : QReport) (e : Entry) : Entry :=
  let e1 := e.witnessed r
  match e.state with
  | .suspect => if k.confirmCount ≤ e1.reportCount || 2 ≤ e1.witness.size then e1.confirm now k z else e1
  | .healing => e1.recur now
  | .free | .confirmed | .latched | .retired => e1

/-- The present set of a CONFIRMED entry has emptied (R92): HEALING, or with a heal hold of 0 ms RETIRED in the same event
(R84). -/
def heal (now : Clock) (k : FaultClass) (e : Entry) : Entry :=
  if k.healHold = 0 then e.retire now .healed
  else { e with state := .healing, stateSince := now, timer := .heal k.healHold }

/-- An ABSENT report on an entry (R62, R89, R92, R96). -/
def onAbsent (now : Clock) (k : FaultClass) (r : QReport) (e : Entry) : Entry :=
  let e1 := { e with lastReportAt := r.arrival }
  if e.present.has r.source then
    let e2 := { e1 with present := e.present.remove r.source }
    if e2.present = SourceSet.empty then
      match e.state with
      | .suspect => e2.retire now .dismissed
      | .confirmed => e2.heal now k
      | .free | .healing | .latched | .retired => e2
    else e2
  else e1

/-- How long an entry has held its state, modulo 2^32 (R59). -/
def age (now : Clock) (e : Entry) : Nat :=
  (now - e.stateSince).toNat

end Entry

namespace FaultTable

/-- The entry of a pair (R61). -/
def lookup (t : FaultTable) (zone : Fin 16) (cls : Fin 32) : Option (Fin 48) :=
  firstAt (fun e => e.holds zone cls) t.entries

/-- The lowest-indexed FREE entry (R64). -/
def firstFree (t : FaultTable) : Option (Fin 48) :=
  firstAt (fun e => e.state == .free) t.entries

/-- The oldest RETIRED entry, the lowest-indexed among equals (R65). -/
def oldestRetired (now : Clock) (t : FaultTable) : Option (Fin 48) :=
  (List.finRange 48).foldl (fun (best : Option (Fin 48)) i =>
    if t.entries[i].state = .retired then
      match best with
      | none => some i
      | some b => if t.entries[b].age now < t.entries[i].age now then some i else best
    else best) none

end FaultTable

namespace State

/-- The records an entry's class and zone name now. -/
def classOf (s : State) (c : Fin 32) : FaultClass := s.config.classes[c]

def zoneOf (s : State) (z : Fin 16) : Zone := s.config.zones[z]

/-- An entry becomes FREE: its snapshot is freed with it (R59). -/
def freeEntry (e : Fin 48) (s : State) : State :=
  (s.freeSnapshot (s.entry e).snapshot).setEntry e Entry.free

/-- Entry `e` is opened for a report's pair (R64, R85). -/
def openEntry (e : Fin 48) (r : QReport) (s : State) : State :=
  s.setEntry e ((Entry.opened s.device.clock r).begin s.device.clock (s.classOf r.cls) (s.zoneOf r.zone))

/-- A report sets the overflow cell of its pair (R67). -/
def setCell (r : QReport) (s : State) : State :=
  { s with faults := { s.faults with overflow := putAt s.faults.overflow (cellOf r.zone r.cls) true } }

/-- A PRESENT report lands (R62, R64 to R67, R85, R86, R91, R93): the new state, and the entry it landed on. -/
def landPresent (r : QReport) (s : State) : State × Option (Fin 48) :=
  let now := s.device.clock
  match s.faults.lookup r.zone r.cls with
  | some e =>
    let x := s.entry e
    if x.state = .retired then
      (s.setEntry e ((x.reopened now r).begin now (s.classOf x.cls) (s.zoneOf x.zone)), some e)
    else (s.setEntry e (x.onPresent now (s.classOf x.cls) (s.zoneOf x.zone) r), some e)
  | none =>
    match s.faults.firstFree with
    | some e => (s.openEntry e r, some e)
    | none =>
      match s.faults.oldestRetired now with
      | some e => ((s.freeEntry e).openEntry e r, some e)
      | none => (s.setCell r, none)

/-- An ABSENT report lands, or lands on no entry and has no effect (R62, R89, R92, R96). -/
def landAbsent (r : QReport) (s : State) : State × Option (Fin 48) :=
  match s.faults.lookup r.zone r.cls with
  | some e => (s.setEntry e ((s.entry e).onAbsent s.device.clock (s.classOf (s.entry e).cls) r), some e)
  | none => (s, none)

/-- A report lands by its polarity. -/
def land (r : QReport) (s : State) : State × Option (Fin 48) :=
  if r.present then s.landPresent r else s.landAbsent r

/-- Buffer `b` becomes the snapshot of entry `e` (R49). -/
def bindBuffer (b : Fin 8) (e : Fin 48) (s : State) : State :=
  (s.setBuffer b { s.buffer b with owner := .entry e }).setEntry e { s.entry e with snapshot := some b }

/-- The report's bound buffer is dealt with by its landing (R49). -/
def dealBuffer (buffer : Option (Fin 8)) (landing : Option (Fin 48)) (s : State) : State :=
  match buffer with
  | none => s
  | some b =>
    match landing with
    | none => s.freeBuffer b
    | some e => if (s.entry e).snapshot = none then s.bindBuffer b e else s.freeBuffer b

/-- The report being applied has its effects on the table and its buffer, and the table is free for the next (R49, R60). -/
def applyReport (r : QReport) (s : State) : State :=
  let x := { s with faults := { s.faults with applying := none } }.land r
  x.1.dealBuffer r.buffer x.2

/-- An entry retires as an event of its own: confirm window, heal hold or CLEAR (R88, R94, R100). -/
def retireEntry (e : Fin 48) (o : EpisodeEnd) (s : State) : State :=
  (s.setEntry e ((s.entry e).retire s.device.clock o)).settle s.faults

/-- Frees entry `e` if it is RETIRED. -/
def freeIfRetired (e : Fin 48) (s : State) : State :=
  if (s.entry e).state = .retired then s.freeEntry e else s

/-- Every RETIRED entry becomes FREE (R70). -/
def freeRetired (s : State) : State :=
  (List.finRange 48).foldl (fun t e => t.freeIfRetired e) s

/-- Key-off for one entry (R80): a LATCHED entry is kept with its present set emptied, its root absent and its timer none;
any other becomes FREE. -/
def purgeEntry (e : Fin 48) (s : State) : State :=
  if (s.entry e).state = .latched then
    s.setEntry e { s.entry e with present := SourceSet.empty, root := none, timer := .none }
  else s.freeEntry e

/-- The Fault Table's purge at key-off (R80). -/
def purgeTable (s : State) : State :=
  let s1 := (List.finRange 48).foldl (fun t e => t.purgeEntry e) s
  { s1 with faults := { s1.faults with
    overflow := Vector.replicate 64 false
    noticeDelay := none
    absoluteDelay := none
    highWater := false } }

end State

end Sys2Proof.Machine
end

