-- ==== Sys2Proof/Machine/DeviceOps.lean ====
section
/-!
DEFINITION. The changes of device state: entry to RESET (R174), the end of reset (R175), entry to CONFIGURE (R177), entry to
RUN (R181), loading the topology defaults (R175, R182) and key-off (R184).
-/
namespace Sys2Proof.Machine

open Sys2Proof

/-- The four ports in port order. -/
def stations : List Station := [.ride, .front, .rear, .pack]

/-- A deasserted record with its flag clear; its detail is kept (R54, R57). -/
def Cond.clear (c : Cond) : Cond := ⟨false, c.detail, false⟩

/-- The flags of R54: set for an asserted record, clear for a deasserted one. -/
def Cond.marked (c : Cond) : Cond := ⟨c.asserted, c.detail, c.asserted⟩

/-- A port at power-on or external reset; the pin is outside the port. -/
def Port.atReset (o : Port) : Port := { Port.reset with reqPin := o.reqPin }

namespace State

/-- Entry to RESET (R174): every block takes its power-on values, the ride clock is 0, and whatever ran is abandoned.
The pins and the command queue are outside the blocks (log 8). -/
def enterReset (resetN settled : Bool) (s : State) : State :=
  { State.reset with
    device := { Device.reset with resetN := resetN, settled := settled, keyPin := s.device.keyPin }
    ports := s.ports.map Port.atReset
    pending := s.pending }

/-- The Ladder publishes an envelope that is also its target (R125, R126). -/
def publishWhole (l : Limits) (cause : Option (Fin 48)) (s : State) : State :=
  let t := s.publish l cause
  { t with ladder := { t.ladder with target := t.ladder.published, relax := .idle, hold := none } }

/-- The port of a present station goes to SYNC on entry to CONFIGURE (R19, R177). -/
def wakePort (s : State) (p : Station) : State :=
  if s.device.topology.present p then s.enterSync p else s

/-- Entry to CONFIGURE with the DC link at `mV` (R177, R125, R163). -/
def enterConfigure (mV : Nat) (s : State) : State :=
  let s1 := { s with device := { s.device with
    state := .configure
    configureWindow := some configureWindowMs
    check := .none
    way := .notYet } }
  ((stations.foldl wakePort s1).startMonitor mV).publishWhole (Limits.configure s.device.topology) none

/-- A port still in SYNC at RUN entry asserts its LINK_LOST condition (R32). -/
def loseIfSync (s : State) (p : Station) : State :=
  if (s.port p).state = .sync then s.setCond (linkLostCond p) true none else s

/-- Intake fixes the unsent flags at RUN entry (R54). -/
def markConds (s : State) : State :=
  { s with intake := { s.intake with conds := mapTable Cond.marked s.intake.conds } }

/-- Entry to RUN (R181, R105, R126, R32, R54). -/
def enterRun (way : RunEntry) (s : State) : State :=
  let s1 := { s with device := { s.device with state := .run, configureWindow := none, way := way } }
  let s2 := s1.settleRoots
  let s3 := s2.publishWhole s2.formedTarget (causeOf s2.faults)
  (stations.foldl loseIfSync s3).markConds

/-- The topology defaults are loaded over every record when a configure window expires (R175, R182); the Self Monitor reacts
as to the corresponding writes (R163). -/
def loadDefaults (mV : Nat) (s : State) : State :=
  let d := topologyDefaults s.device.topology
  let s1 := dropDisabled { s.writeTiming d.timing with config := d }
  ((List.finRange 8).foldl (fun t k => t.resetSlot k) s1).compareLink mV

/-- The result of the consistency checks is recorded (R180, R182). -/
def recordCheck (failed : Option Nat) (s : State) : State :=
  { s with device := { s.device with
    check := match failed with
      | some n => .failed n
      | none => .passed } }

/-- The configure window expires (R182). -/
def expireConfigure (mV : Nat) (s : State) : State :=
  let failed := firstFailed s.device.topology s.config
  let s1 := s.recordCheck failed
  let s2 := match failed with
    | some _ => (s1.loadDefaults mV).enterRun .expiryDefaults
    | none => s1.enterRun .expiryPassed
  s2.setCond 23 true (some (BitVec.ofNat 16 (failed.getD 0)))

/-! ### Key-off (R184; log 14 for the order) -/

/-- A report already handed over is applied before the table's purge (R57, R80). -/
def finishReport (s : State) : State :=
  match s.faults.applying with
  | some r => s.applyReport r
  | none => s

/-- A buffer still PENDING is freed when the short queues are emptied (R43, R57). -/
def freeIfPending (s : State) (b : Fin 8) : State :=
  match (s.buffer b).owner with
  | .pending _ => s.freeBuffer b
  | .free => s
  | .entry _ => s

/-- An open assembly ends (R57). -/
def endSlot (s : State) (p : Station) : State := s.truncate p

/-- Intake at key-off (R57). -/
def purgeIntake (s : State) : State :=
  let s1 := (List.finRange 8).foldl freeIfPending (stations.foldl endSlot s)
  { s1 with intake :=
    { s1.intake with
      queues := ⟨[], [], [], [], []⟩
      conds := mapTable Cond.clear s1.intake.conds
      current := none
      allowance := 0
      rotation := .ride } }

/-- Every port goes OFFLINE (R19). -/
def portOff (s : State) (p : Station) : State := s.enterOffline p

/-- Motion stops (R173); a fall of PARKED is reported. -/
def stopMotion (s : State) : State :=
  let s1 := { s with motion := Motion.reset }
  if s.motion.parked then s1.reportParked false else s1

/-- Every unresponsive flag becomes no at key-off (R147). -/
def endEpisodes (s : State) : State :=
  { s with publication := { s.publication with
    records := s.publication.records.map fun a => { a with unresponsive := false } } }

/-- Key-off in CONFIGURE or RUN (R184, R125, R147). -/
def keyOff (s : State) : State :=
  let s1 := { s with device := { s.device with state := .standby, configureWindow := none } }
  let s2 := (stations.foldl portOff s1.finishReport).purgeIntake.purgeTable.stopMonitor.stopMotion
  (s2.publishWhole (Limits.closed s.device.topology) none).endEpisodes

/-- The debounced level is low: CONFIGURE and RUN are left for STANDBY. -/
def keyLow (s : State) : State :=
  match s.device.state with
  | .configure | .run => s.keyOff
  | .reset | .standby => s

/-- The debounced level is high: STANDBY is left for CONFIGURE. -/
def keyHigh (mV : Nat) (s : State) : State :=
  match s.device.state with
  | .standby => s.enterConfigure mV
  | .reset | .configure | .run => s

/-- Reset ends (R175): the topology is latched, the defaults are loaded, and the KEY level decides where the device goes.
The closed envelope is that of the latched topology (R118). -/
def leaveReset (t : Topology) (key : Bool) (mV : Nat) (s : State) : State :=
  let d := topologyDefaults t
  let s1 := { s with
    device := { s.device with
      resetN := true
      settled := true
      topology := t
      keyPin := key
      keyLevel := key
      state := .standby }
    config := d
    ladder := { Ladder.reset t with parked := s.ladder.parked }
    monitor := Monitor.reset d }
  if key then s1.enterConfigure mV else s1

end State

end Sys2Proof.Machine
end

