-- ==== Sys2Proof/Machine/Device.lean ====
section
/-!
DEFINITION. Commands of the device: reset, the key and the configure window (R174 to R177, R182, R184).
An expiry of a timer that does not run has no effect (log 13).
-/
namespace Sys2Proof.Machine

open Sys2Proof

/-- POWER_ON (R174): the regulator has not settled yet. -/
def execPowerOn (s : State) : Host.Outcome State Fault Refusal :=
  .next (s.enterReset s.device.resetN false)

/-- RESET_N_LOW (R174), in any state. -/
def execResetNLow (s : State) : Host.Outcome State Fault Refusal :=
  .next (s.enterReset false s.device.settled)

/-- RESET_END (R175): RESET_N is high and the regulator has settled. -/
def execResetEnd (topo1 topo0 key : Bool) (dcLink : Nat) (s : State) : Host.Outcome State Fault Refusal :=
  .next (if s.device.state = .reset then s.leaveReset (Topology.ofStraps topo1 topo0) key dcLink else s)

/-- The debounce timer after the KEY pin takes a level (R176). -/
def debounceAfter (level keyLevel : Bool) (t : Timer) : Timer :=
  if level = keyLevel then none
  else match t with
    | some left => some left
    | none => some debounceMs

/-- KEY_PIN_CHANGE (R176); in RESET the pin is not watched. -/
def execKeyPinChange (level : Bool) (s : State) : Host.Outcome State Fault Refusal :=
  .next { s with device := { s.device with
    keyPin := level
    debounce := if s.device.state = .reset then none
      else debounceAfter level s.device.keyLevel s.device.debounce } }

/-- KEY_DEBOUNCE_EXPIRY (R176, R184, R177): the debounced level takes the pin's level. -/
def execKeyDebounceExpiry (dcLink : Nat) (s : State) : Host.Outcome State Fault Refusal :=
  match s.device.debounce with
  | none => .next s
  | some _ =>
    let s1 := { s with device := { s.device with debounce := none, keyLevel := s.device.keyPin } }
    .next (if s.device.keyPin then s1.keyHigh dcLink else s1.keyLow)

/-- CONFIGURE_WINDOW_EXPIRY (R182). -/
def execConfigureWindowExpiry (dcLink : Nat) (s : State) : Host.Outcome State Fault Refusal :=
  match s.device.configureWindow with
  | none => .next s
  | some _ => .next (s.expireConfigure dcLink)

end Sys2Proof.Machine
end

