-- ==== Sys2Proof/Machine/Faults.lean ====
section
/-!
DEFINITION. Commands of the Fault Table: a report applied (R60), the entries' timers (R88, R94) and the notice timers (R78).
-/
namespace Sys2Proof.Machine

open Sys2Proof

/-- REPORT_APPLIED (R60): the effects of the report being applied, then what follows the event. -/
def execReportApplied (s : State) : Host.Outcome State Fault Refusal :=
  match s.faults.applying with
  | none => .next s
  | some r => .next ((s.applyReport r).settle s.faults)

/-- CONFIRM_WINDOW_EXPIRY (R88). -/
def execConfirmWindowExpiry (e : Fin 48) (s : State) : Host.Outcome State Fault Refusal :=
  match (s.entry e).timer with
  | .confirm _ => .next (s.retireEntry e .dismissed)
  | .none | .heal _ => .next s

/-- HEAL_HOLD_EXPIRY (R94). -/
def execHealHoldExpiry (e : Fin 48) (s : State) : Host.Outcome State Fault Refusal :=
  match (s.entry e).timer with
  | .heal _ => .next (s.retireEntry e .healed)
  | .none | .confirm _ => .next s

/-- NOTICE_DELAY_EXPIRY (R78). -/
def execNoticeDelayExpiry (s : State) : Host.Outcome State Fault Refusal :=
  match s.faults.noticeDelay with
  | some _ => .next s.handNotice.stopNoticeTimers
  | none => .next s

/-- ABSOLUTE_DELAY_EXPIRY (R78). -/
def execAbsoluteDelayExpiry (s : State) : Host.Outcome State Fault Refusal :=
  match s.faults.absoluteDelay with
  | some _ => .next s.handNotice.stopNoticeTimers
  | none => .next s

end Sys2Proof.Machine
end

