-- ==== Sys2Proof/Machine/Operands.lean ====
section
/-!
DEFINITION. The byte layouts of inbound payloads (2.7) and CONFIG records (R179), read into fields; `none` is a length or
range fault. Multi-byte fields are most significant byte first (R16). And the coded values of outbound fields (R72, 2.7).
-/
namespace Sys2Proof.Machine

open Sys2Proof

/-- A number as an index below `n`, when it is one. -/
def fin? (n k : Nat) : Option (Fin n) :=
  if h : k < n then some ⟨k, h⟩ else none

/-- A two-byte unsigned field. -/
def u16 (hi lo : Byte) : Nat := hi.toNat * 256 + lo.toNat

/-- A four-byte unsigned field. -/
def u32 (a b c d : Byte) : Nat := u16 a b * 65536 + u16 c d

/-- A two-byte field kept as bits. -/
def w16 (hi lo : Byte) : BitVec 16 := hi ++ lo

/-- The two bytes of a number, most significant first. -/
def bytes16 (n : Nat) : List Byte :=
  [BitVec.ofNat 8 (n / 256), BitVec.ofNat 8 n]

/-- The four bytes of a number, most significant first. -/
def bytes32 (n : Nat) : List Byte :=
  bytes16 (n / 65536) ++ bytes16 (n % 65536)

/-- A one-byte field. -/
def byteOf (n : Nat) : Byte := BitVec.ofNat 8 n

/-- A number within a range. -/
def within (lo hi n : Nat) : Option Nat :=
  if lo ≤ n && n ≤ hi then some n else none

/-- A yes/no field: 0 no, 1 yes (R179). -/
def yesNo (b : Byte) : Option Bool :=
  match b.toNat with
  | 0 => some false
  | 1 => some true
  | _ => none

/-! ### Inbound frames -/

/-- The fields of a REPORT (2.7). -/
structure ReportFields where
  zone      : Fin 16
  cls       : Fin 32
  present   : Bool
  detail    : Option Detail
  announced : Option Nat
  deriving DecidableEq, Repr

/-- REPORT, check 2 of R38: length 6; options bits 3 to 7 are 0; zone, class and announced length in range.
The detail and the announced length are ignored where their option bit is 0. -/
def parseReport (payload : List Byte) : Option ReportFields :=
  match payload with
  | [z, c, o, d1, d0, n] => do
    let zone ← fin? 16 z.toNat
    let cls ← fin? 32 c.toNat
    let announced ← if o.getLsbD 2 then (within 1 240 n.toNat).map some else some none
    if o.toNat < 8 then
      some ⟨zone, cls, o.getLsbD 0, if o.getLsbD 1 then some (w16 d1 d0) else none, announced⟩
    else none
  | _ => none

/-- SNAPSHOT, case 2 of R45: length 2 to 61 and segment index at most 3. The index and the data. -/
def parseSegment (payload : List Byte) : Option (Nat × List Byte) :=
  match payload with
  | i :: d :: rest => if i.toNat ≤ 3 && rest.length ≤ 59 then some (i.toNat, d :: rest) else none
  | _ => none

/-- HELLO for port `p` (R21, R22): the declared max frame when the kind is the port's own station and the max frame is 32 to 255. -/
def parseHello (p : Station) (payload : List Byte) : Option Nat :=
  match payload with
  | [k, m] => if k.toNat = p.index.val then within 32 255 m.toNat else none
  | _ => none

/-- STATUS in the form of port `p`'s station (R36). -/
def parseStatus (p : Station) (payload : List Byte) : Option StatusRec :=
  match p, payload with
  | .ride, [t, b] => do
    let throttle ← within 0 100 t.toNat
    let brake ← yesNo b
    some (.ride throttle brake)
  | .front, [s1, s0, t] => (within 0 1000 (u16 s1 s0)).map fun v => .inverter v t
  | .rear, [s1, s0, t] => (within 0 1000 (u16 s1 s0)).map fun v => .inverter v t
  | .pack, [v1, v0, i1, i0, c] => do
    let volts ← within 0 1000 (u16 v1 v0)
    let charge ← within 0 100 c.toNat
    some (.pack volts (w16 i1 i0) charge)
  | _, _ => none

/-- ADOPT: the generation (2.7). -/
def parseAdopt (payload : List Byte) : Option Nat :=
  match payload with
  | [a, b, c, d] => some (u32 a b c d)
  | _ => none

/-- What a CLEAR names (2.6). -/
inductive ClearName where
  | index (e : Fin 48)
  | pair (zone : Fin 16) (cls : Fin 32)
  deriving DecidableEq, Repr

/-- CLEAR, check 2 of R99. -/
def parseClear (payload : List Byte) : Option ClearName :=
  match payload with
  | [s, e] => if s.toNat = 0 then (fin? 48 e.toNat).map .index else none
  | [s, z, c] =>
    if s.toNat = 1 then do
      let zone ← fin? 16 z.toNat
      let cls ← fin? 32 c.toNat
      some (.pair zone cls)
    else none
  | _ => none

/-- DISCARD of one entry, check 2 of R70. -/
def parseDiscardEntry (payload : List Byte) : Option (Fin 48) :=
  match payload with
  | [s, e] => if s.toNat = 0 then fin? 48 e.toNat else none
  | _ => none

/-- DISCARD of all RETIRED entries, check 2 of R70. -/
def discardAllForm (payload : List Byte) : Bool :=
  match payload with
  | [s] => s.toNat = 1
  | _ => false

/-- READ TABLE (R37): first entry 0 to 47, count 1 to 48. -/
def parseReadTable (payload : List Byte) : Option ReadTarget :=
  match payload with
  | [t, f, n] =>
    if t.toNat = 0 then do
      let first ← fin? 48 f.toNat
      let count ← within 1 48 n.toNat
      some (.table first count)
    else none
  | _ => none

/-- READ ENTRY (R37). -/
def parseReadEntry (payload : List Byte) : Option ReadTarget :=
  match payload with
  | [t, e] => if t.toNat = 1 then (fin? 48 e.toNat).map .entry else none
  | _ => none

/-- READ SNAPSHOT (R37): buffer 0 to 7, offset 0 to 239. -/
def parseReadSnapshot (payload : List Byte) : Option ReadTarget :=
  match payload with
  | [t, b, o] =>
    if t.toNat = 2 then do
      let buffer ← fin? 8 b.toNat
      let offset ← within 0 239 o.toNat
      some (.snapshot buffer offset)
    else none
  | _ => none

/-- A READ whose target takes no parameter (R37). -/
def parseReadPlain (code : Nat) (target : ReadTarget) (payload : List Byte) : Option ReadTarget :=
  match payload with
  | [t] => if t.toNat = code then some target else none
  | _ => none

/-! ### CONFIG records (R179) -/

/-- The index and the record of a CONFIG payload for a target code, when the code is this one (check 3 of R178). -/
def configBody (code : Nat) (payload : List Byte) : Option (Nat × List Byte) :=
  match payload with
  | t :: i :: record => if t.toNat = code then some (i.toNat, record) else none
  | _ => none

/-- A source set: bits 5 to 7 are 0 (R72, R179). -/
def parseSources (b : Byte) : Option SourceSet :=
  if b.toNat < 32 then
    some ⟨b.getLsbD 0, b.getLsbD 1, b.getLsbD 2, b.getLsbD 3, b.getLsbD 4⟩
  else none

/-- A zone's parent: 0 to 15 other than the zone itself, or FF hex for none. -/
def parseParent (i : Fin 16) (b : Byte) : Option (Option (Fin 16)) :=
  if b.toNat = 255 then some none
  else if b.toNat = i.val then none
  else (fin? 16 b.toNat).map some

def parseAxleField (b : Byte) : Option AxleField :=
  match b.toNat with
  | 0 => some .front
  | 1 => some .rear
  | 2 => some .both
  | 3 => some .none
  | _ => none

def parseAxleAction (b : Byte) : Option AxleAction :=
  match b.toNat with
  | 0 => some .none
  | 1 => some .regenOnly
  | 2 => some .cut
  | _ => none

def parsePackAction (b : Byte) : Option PackAction :=
  match b.toNat with
  | 0 => some .none
  | 1 => some .openWhenParked
  | 2 => some .openNow
  | _ => none

def parseZone (i : Fin 16) (record : List Byte) : Option Zone :=
  match record with
  | [v, pa, rs, ow, ax, ll, la] => do
    let valid ← yesNo v
    let parent ← parseParent i pa
    let reporters ← parseSources rs
    let owner ← Station.ofIndex ow.toNat
    let axle ← parseAxleField ax
    let lossLevel ← fin? 6 ll.toNat
    let lossAction ← parseAxleAction la
    some ⟨valid, parent, reporters, owner, axle, lossLevel, lossAction⟩
  | _ => none

/-- The response kind and the five own-response fields; a ZONE_LOSS response keeps none of them, though all are checked. -/
def parseResponse (record : List Byte) : Option Response :=
  match record with
  | [k, l, a, r, c, pk] => do
    let isOwn ← yesNo k
    let level ← fin? 6 l.toNat
    let action ← parseAxleAction a
    let inhibit ← yesNo r
    let ceiling ← within 0 100 c.toNat
    let pack ← parsePackAction pk
    some (if isOwn then .own ⟨level, action, inhibit, ceiling, pack⟩ else .zoneLoss)
  | _ => none

/-- A CLASS record: all fields are checked, a confirm window of 0 goes with a confirm count of 1 only (R10), and an
unassigned slot is stored with the held values. -/
def parseClass (record : List Byte) : Option FaultClass :=
  match record with
  | [a, n, w1, w0, la, pr, h1, h0, k, l, ac, r, c, pk] => do
    let assigned ← yesNo a
    let count ← within 1 15 n.toNat
    let window ← within 0 60000 (u16 w1 w0)
    let latching ← yesNo la
    let propagating ← yesNo pr
    let heal ← within 0 60000 (u16 h1 h0)
    let response ← parseResponse [k, l, ac, r, c, pk]
    if window = 0 && 1 < count then none
    else some (if assigned then ⟨true, count, window, latching, propagating, heal, response⟩ else unassignedClass)
  | _ => none

def parseLevel (record : List Byte) : Option LevelRec :=
  match record with
  | [t, s] => (within 0 100 t.toNat).map fun torque => ⟨torque, s.toNat⟩
  | _ => none

def parseOverflowLevel (record : List Byte) : Option Level :=
  match record with
  | [l] => fin? 6 l.toNat
  | _ => none

/-- A SCAN record: the high limit is not below the low limit (R150), and an unused slot is stored with the held values. -/
def parseScan (record : List Byte) : Option ScanRec :=
  match record with
  | [u, ch, l1, l0, h1, h0, z, c, ac, rc] => do
    let used ← yesNo u
    let channel ← fin? 7 ch.toNat
    let low ← within 0 4095 (u16 l1 l0)
    let high ← within 0 4095 (u16 h1 h0)
    let zone ← fin? 16 z.toNat
    let cls ← fin? 32 c.toNat
    let assertCount ← within 1 8 ac.toNat
    let releaseCount ← within 1 8 rc.toNat
    if high < low then none
    else some (if used then ⟨true, channel, low, high, zone, cls, assertCount, releaseCount⟩ else unusedScan)
  | _ => none

/-- A CHANNELS record: bit 7 is 0, and CH6 is a member always (R149). -/
def parseChannels (record : List Byte) : Option (Vector Bool 7) :=
  match record with
  | [e] => if e.toNat < 128 then some (tabulate fun c => c.val = 6 || e.getLsbD c.val) else none
  | _ => none

def parseThreshold (record : List Byte) : Option (Fin 8) :=
  match record with
  | [t] => fin? 8 t.toNat
  | _ => none

def parseTiming (record : List Byte) : Option Timing :=
  match record with
  | [hb, tw, r1, r0, aw, sp, p1, p0, sl, ml] => do
    let heartbeat ← within 5 50 hb.toNat
    let turnWindow ← within 1 8 tw.toNat
    let relaxHold ← within 500 30000 (u16 r1 r0)
    let adoptionWindow ← within 5 100 aw.toNat
    let scanPeriod ← within 1 100 sp.toNat
    let parkedHold ← within 200 5000 (u16 p1 p0)
    let silenceLimit ← within 2 8 sl.toNat
    let mismatchLimit ← within 10 200 ml.toNat
    some ⟨heartbeat, turnWindow, relaxHold, adoptionWindow, scanPeriod, parkedHold, silenceLimit, mismatchLimit⟩
  | _ => none

/-- The weights of RIDE, FRONT, REAR, PACK and SELF, in that order. -/
def parseWeights (record : List Byte) : Option (PerSource Nat) :=
  match record with
  | [a, b, c, d, e] => do
    let ride ← within 1 8 a.toNat
    let front ← within 1 8 b.toNat
    let rear ← within 1 8 c.toNat
    let pack ← within 1 8 d.toNat
    let self ← within 1 8 e.toNat
    some ⟨ride, front, rear, pack, self⟩
  | _ => none

/-! ### Coded values (R72, R179, 2.7) -/

def EntryState.code : EntryState → Nat
  | .free => 0
  | .suspect => 1
  | .confirmed => 2
  | .healing => 3
  | .latched => 4
  | .retired => 5

def AxleState.code : AxleState → Nat
  | .drive => 0
  | .regenOnly => 1
  | .cut => 2
  | .absent => 3

def axleActionCode : AxleAction → Nat
  | .none => 0
  | .regenOnly => 1
  | .cut => 2

def axleFieldCode : AxleField → Nat
  | .front => 0
  | .rear => 1
  | .both => 2
  | .none => 3

def packActionCode : PackAction → Nat
  | .none => 0
  | .openWhenParked => 1
  | .openNow => 2

/-- An absent outcome is 0 (R72). -/
def episodeEndCode : Option EpisodeEnd → Nat
  | none => 0
  | some .dismissed => 1
  | some .healed => 2
  | some .cleared => 3

def SlotOutcome.code : SlotOutcome → Nat
  | .none => 0
  | .complete => 1
  | .truncated => 2
  | .dropped => 3

def BufferOwner.code : BufferOwner → Nat
  | .free => 0
  | .pending _ => 1
  | .entry _ => 2

def ScanState.code : ScanState → Nat
  | .unused => 0
  | .idle => 1
  | .clear => 2
  | .asserted => 3

def RelaxState.code : RelaxState → Nat
  | .idle => 0
  | .holding => 1
  | .due => 2

def DeviceState.code : DeviceState → Nat
  | .configure => 1
  | .run => 2
  | .reset | .standby => 0

def CheckResult.code : CheckResult → Nat
  | .none => 0
  | .failed n => n
  | .passed => 8

def RunEntry.code : RunEntry → Nat
  | .notYet => 0
  | .commit => 1
  | .expiryPassed => 2
  | .expiryDefaults => 3

/-- The verdict codes of 2.7. -/
def Verdict.code : Verdict → Nat
  | .taken => 0
  | .takenNoBuffer => 1
  | .queueFull => 2
  | .malformed => 3
  | .unknownZone => 4
  | .unknownClass => 5
  | .notPermitted => 6
  | .wrongState => 7
  | .notParked => 8
  | .stillPresent => 9
  | .notFound => 10
  | .notLatched => 11
  | .snapshotDropped => 12
  | .inconsistent => 13

/-- A source set as one byte (R72). -/
def sourceSetCode (t : SourceSet) : Nat :=
  t.ride.toNat + 2 * t.front.toNat + 4 * t.rear.toNat + 8 * t.pack.toNat + 16 * t.self.toNat

/-- An optional entry or buffer index, FF hex when absent (R72). -/
def indexCode {n : Nat} : Option (Fin n) → Nat
  | none => 255
  | some i => i.val

end Sys2Proof.Machine
end

