-- ==== Sys2Proof/Machine/Frames.lean ====
section
/-!
DEFINITION. Commands for the frames of the port itself, of Publication and of the Fault Table: HELLO (R21, R22), STATUS (R36),
ADOPT (R140, R141), CLEAR (R99, R100), DISCARD (R70) and CLEAR_OVERFLOW (R69).
-/
namespace Sys2Proof.Machine

open Sys2Proof

/-- A sync turn ends; the port stays in SYNC (R21). -/
def Port.endSyncTurn (o : Port) : Port :=
  { o with syncTurn := false, turnWindow := none }

/-- A HELLO is accepted on any port state: the declared max frame, and both counts 0 (R21, R22). -/
def Port.greeted (maxFrame : Nat) (o : Port) : Port :=
  { o with maxFrame := some maxFrame, silent := 0, contentions := 0 }

/-- The port reaches HOLD from SYNC (R21, R23). -/
def Port.synced (maxFrame heartbeatMs : Nat) (o : Port) : Port :=
  { (o.greeted maxFrame).endSyncTurn.toHold with
    heartbeat := some heartbeatMs
    syncTimer := none
    syncBegun := false }

namespace State

/-- A HELLO completes in SYNC (R21). -/
def helloInSync (p : Station) (payload : List Byte) (s : State) : State :=
  if (s.port p).syncTurn then
    match parseHello p payload with
    | some m =>
      ((s.modPort p (Port.synced m s.config.timing.heartbeat)).setCond (linkLostCond p) false none).synchronised p
    | none => s.modPort p Port.endSyncTurn
  else s

/-- A HELLO in a turn restarts the station, or is discarded (R22, R18). -/
def helloInTurn (p : Station) (payload : List Byte) (s : State) : State :=
  match parseHello p payload with
  | some m => (s.modPort p (Port.greeted m)).synchronised p
  | none => s.countDiscard p

/-- The port keeps a valid STATUS, and the turn is not silent (R36, R27). -/
def keepStatus (p : Station) (r : StatusRec) (s : State) : State :=
  s.modPort p fun o => { o with status := some r, gotStatus := true }

/-- A STATUS in a turn: kept, its wheel speed handed to Motion; or discarded (R36, R18). -/
def statusInTurn (p : Station) (payload : List Byte) (s : State) : State :=
  match parseStatus p payload with
  | none => s.countDiscard p
  | some (.inverter v t) =>
    let s1 := s.keepStatus p (.inverter v t)
    s1.moveMotion (s1.motion.withSpeed p v)
  | some r => s.keepStatus p r

/-- No member of the adoption set owes the current generation (R131). -/
def noneOwing (s : State) : Bool :=
  [Station.ride, .front, .rear, .pack].all fun p => !(s.publication.members.get p && (s.adoption p).owing)

/-- The completion flag becomes complete when no member still owes, and the Ladder is told (R140, R146). -/
def testComplete (s : State) : State :=
  if !s.publication.complete && s.noneOwing then
    adoptionComplete { s with publication := { s.publication with complete := true } }
  else s

/-- An adoption record once its station has adopted generation `g`, the current one (R140). -/
def adoptedRecord (g : Nat) (a : Adoption) : Adoption :=
  { a with adopted := g, owing := false, window := .idle, timer := none, unresponsive := false, lapsed := false }

/-- The adoption of the current generation by port `p` (R140). -/
def adoptCurrent (p : Station) (s : State) : State :=
  let s1 := s.setAdoption p (adoptedRecord s.publication.counter (s.adoption p))
  (if (s.adoption p).unresponsive then s1.setCond (adoptCond p) false none else s1).testComplete

/-- An ADOPT of generation `g` reaches Publication (R140, R141). -/
def adoptGeneration (p : Station) (g : Nat) (s : State) : State :=
  if g < s.publication.counter then s.setAdoption p { s.adoption p with adopted := g }
  else if g = s.publication.counter then s.adoptCurrent p
  else s

/-- An ADOPT in a turn (R140, R141, R18). -/
def adoptInTurn (p : Station) (payload : List Byte) (s : State) : State :=
  match parseAdopt payload with
  | some g => s.adoptGeneration p g
  | none => s.countDiscard p

/-- The entry a CLEAR names (check 3 of R99). -/
def named (s : State) : ClearName → Option (Fin 48)
  | .index e => if (s.entry e).used then some e else none
  | .pair zone cls => s.faults.lookup zone cls

/-- The Fault Table judges a CLEAR that names entry `e` (checks 4 to 7 of R99, and R100). -/
def judgeClearEntry (p : Station) (e : Fin 48) (s : State) : State × Verdict :=
  let x := s.entry e
  if p ≠ .ride && (s.zoneOf x.zone).owner ≠ p then (s, .notPermitted)
  else if x.state ≠ .latched then (s, .notLatched)
  else if !s.faults.parked then (s, .notParked)
  else if x.present ≠ SourceSet.empty then (s, .stillPresent)
  else (s.retireEntry e .cleared, .taken)

/-- The Fault Table judges a CLEAR (R99). -/
def judgeClear (p : Station) (payload : List Byte) (s : State) : State × Verdict :=
  if !s.running then (s, .wrongState)
  else match parseClear payload with
    | none => (s, .malformed)
    | some n =>
      match s.named n with
      | none => (s, .notFound)
      | some e => s.judgeClearEntry p e

/-- The Fault Table judges a DISCARD of one entry (R70). -/
def judgeDiscardEntry (p : Station) (payload : List Byte) (s : State) : State × Verdict :=
  if !s.running then (s, .wrongState)
  else match parseDiscardEntry payload with
    | none => (s, .malformed)
    | some e =>
      if p ≠ .ride then (s, .notPermitted)
      else if (s.entry e).state ≠ .retired then (s, .notFound)
      else ((s.freeEntry e).settle s.faults, .taken)

/-- The Fault Table judges a DISCARD of all RETIRED entries (R70). -/
def judgeDiscardAll (p : Station) (payload : List Byte) (s : State) : State × Verdict :=
  if !s.running then (s, .wrongState)
  else if !discardAllForm payload then (s, .malformed)
  else if p ≠ .ride then (s, .notPermitted)
  else (s.freeRetired.settle s.faults, .taken)

/-- Every cell of the overflow map is cleared (R69). -/
def clearCells (s : State) : State :=
  { s with faults := { s.faults with overflow := Vector.replicate 64 false } }

/-- The Fault Table judges a CLEAR_OVERFLOW (R69). -/
def judgeClearOverflow (p : Station) (payload : List Byte) (s : State) : State × Verdict :=
  if !s.running then (s, .wrongState)
  else if payload ≠ [] then (s, .malformed)
  else if p ≠ .ride then (s, .notPermitted)
  else if !s.faults.parked then (s, .notParked)
  else (s.clearCells.settle s.faults, .taken)

end State

/-- HELLO (R21, R22). -/
def execHello (p : Station) (turn : Bool) (payload : List Byte) (s : State) : Host.Outcome State Fault Refusal :=
  .next (
    if (s.port p).state = .sync then s.helloInSync p payload
    else s.takeFrame p turn (State.helloInTurn p payload))

/-- STATUS (R36). -/
def execStatus (p : Station) (turn : Bool) (payload : List Byte) (s : State) : Host.Outcome State Fault Refusal :=
  .next (s.takeFrame p turn (State.statusInTurn p payload))

/-- ADOPT (R140, R141). -/
def execAdopt (p : Station) (turn : Bool) (payload : List Byte) (s : State) : Host.Outcome State Fault Refusal :=
  .next (s.takeFrame p turn (State.adoptInTurn p payload))

/-- CLEAR (R99, R100). -/
def execClear (p : Station) (turn : Bool) (payload : List Byte) (s : State) : Host.Outcome State Fault Refusal :=
  .next (s.takeFrame p turn (State.receipted p (State.judgeClear p payload)))

/-- DISCARD, selector 0 (R70). -/
def execDiscardEntry (p : Station) (turn : Bool) (payload : List Byte) (s : State) : Host.Outcome State Fault Refusal :=
  .next (s.takeFrame p turn (State.receipted p (State.judgeDiscardEntry p payload)))

/-- DISCARD, selector 1 (R70). -/
def execDiscardAllRetired (p : Station) (turn : Bool) (payload : List Byte) (s : State) :
    Host.Outcome State Fault Refusal :=
  .next (s.takeFrame p turn (State.receipted p (State.judgeDiscardAll p payload)))

/-- CLEAR_OVERFLOW (R69). -/
def execClearOverflow (p : Station) (turn : Bool) (payload : List Byte) (s : State) :
    Host.Outcome State Fault Refusal :=
  .next (s.takeFrame p turn (State.receipted p (State.judgeClearOverflow p payload)))

end Sys2Proof.Machine
end

