-- ==== Sys2Proof/Machine/Intake.lean ====
section
/-!
DEFINITION. Commands of Intake: REPORT (R38 to R40), SNAPSHOT (R45, R46), the snapshot window (R47), SELF reports (R53) and
the intake arbiter (R55, R56).
-/
namespace Sys2Proof.Machine

open Sys2Proof

namespace State

/-- Checks 3 to 5 of R38 for a source: the verdict of the first that fails. -/
def pairRefusal (s : State) (q : Source) (zone : Fin 16) (cls : Fin 32) : Option Verdict :=
  if !(s.classOf cls).assigned then some .unknownClass
  else if !(s.zoneOf zone).valid then some .unknownZone
  else if !(s.zoneOf zone).reporters.has q then some .notPermitted
  else none

/-- A report joins the tail of its source's short queue (R40). -/
def enqueue (r : QReport) (s : State) : State :=
  s.setQueue r.source (s.queue r.source ++ [r])

/-- An announcing report opens a new assembly without a buffer; an earlier one is first ended by truncation (R39). -/
def openAssembly (p : Station) (announced : Option Nat) (s : State) : State :=
  match announced with
  | none => s
  | some n =>
    let t := s.truncate p
    t.setSlot p ⟨some ⟨n, 0, 0, none, snapshotWindowMs⟩, (t.slot p).outcome⟩

/-- The FREE buffer with the lowest index (R43). -/
def freeBufferIndex (s : State) : Option (Fin 8) :=
  firstAt (fun b => b.owner == .free) s.pool

/-- Buffer `b` is lent to port `p` for `n` bytes: it is the slot's buffer (R39, R43). -/
def lend (b : Fin 8) (p : Station) (n : Nat) (s : State) : State :=
  let x := s.slot p
  (s.setBuffer b ⟨.pending p, some p, n, [], false⟩).setSlot p
    ⟨x.assembly.map fun a => { a with buffer := some b }, x.outcome⟩

/-- The queued report record of a REPORT (R40). -/
def reportOf (s : State) (p : Station) (r : ReportFields) (buffer : Option (Fin 8)) : QReport :=
  ⟨p.source, r.zone, r.cls, r.present, r.detail, s.device.clock, buffer⟩

/-- A REPORT that passes the checks is queued, with a buffer when it announced a snapshot and one is FREE (R39, R40). -/
def acceptReport (p : Station) (r : ReportFields) (s : State) : State × Verdict :=
  match r.announced with
  | none => (s.enqueue (s.reportOf p r none), .taken)
  | some n =>
    match s.freeBufferIndex with
    | some b => ((s.lend b p n).enqueue (s.reportOf p r (some b)), .taken)
    | none => (s.enqueue (s.reportOf p r none), .takenNoBuffer)

/-- Checks 3 to 6 of R38. -/
def admitReport (p : Station) (r : ReportFields) (s : State) : State × Verdict :=
  match s.pairRefusal p.source r.zone r.cls with
  | some v => (s, v)
  | none => if shortQueueMax ≤ (s.queue p.source).length then (s, .queueFull) else s.acceptReport p r

/-- Intake judges a REPORT (R38, R39). -/
def judgeReport (p : Station) (payload : List Byte) (s : State) : State × Verdict :=
  if !s.running then (s, .wrongState)
  else match parseReport payload with
    | none => (s, .malformed)
    | some r => (s.openAssembly p r.announced).admitReport p r

/-- The data are written into the buffer after those it holds (R45, case 6). -/
def writeData (b : Fin 8) (d : List Byte) (s : State) : State :=
  s.setBuffer b { s.buffer b with data := (s.buffer b).data ++ d }

/-- The last announced byte is written: the buffer is complete and has no writer, the slot is FREE (R46). -/
def completeAssembly (b : Fin 8) (p : Station) (s : State) : State :=
  (s.setBuffer b { s.buffer b with complete := true, writer := none }).endAssembly p .complete

/-- An assembly counts a segment of `n` bytes (R45, cases 5 and 6). -/
def countSegment (p : Station) (a : Assembly) (n : Nat) (s : State) : State :=
  s.setSlot p ⟨some { a with next := a.next + 1, received := a.received + n }, (s.slot p).outcome⟩

/-- A segment in order and within the expected length (R45, cases 5 and 6). -/
def takeSegment (p : Station) (a : Assembly) (d : List Byte) (s : State) : State × Verdict :=
  let s1 := s.countSegment p a d.length
  match a.buffer with
  | none => (if a.received + d.length = a.expected then s1.endAssembly p .dropped else s1, .snapshotDropped)
  | some b =>
    let s2 := s1.writeData b d
    (if a.received + d.length = a.expected then s2.completeAssembly b p else s2, .taken)

/-- Intake judges a SNAPSHOT (R45). -/
def judgeSnapshot (p : Station) (payload : List Byte) (s : State) : State × Verdict :=
  if !s.running then (s, .wrongState)
  else match parseSegment payload with
    | none => (s.truncate p, .malformed)
    | some (i, d) =>
      match (s.slot p).assembly with
      | none => (s, .snapshotDropped)
      | some a =>
        if i ≠ a.next || a.expected < a.received + d.length then (s.truncate p, .malformed)
        else s.takeSegment p a d

/-- The lowest-numbered record with its unsent-change flag set (R53). -/
def firstUnsent (s : State) : Option (Fin 24) :=
  firstAt Cond.unsent s.intake.conds

/-- A record's level is taken as carried (R53). -/
def markSent (k : Fin 24) (s : State) : State :=
  { s with intake := { s.intake with conds := putAt s.intake.conds k { s.cond k with unsent := false } } }

/-- The SELF report of a record (R53). -/
def selfReport (s : State) (k : Fin 24) : QReport :=
  ⟨.self, (condPair s.config k).1, (condPair s.config k).2, (s.cond k).asserted, (s.cond k).detail, s.device.clock, none⟩

/-- A SELF report is formed from record `k`, and queued or dropped (R53). -/
def formSelf (k : Fin 24) (s : State) : State :=
  let r := s.selfReport k
  match s.pairRefusal .self r.zone r.cls with
  | none => (s.markSent k).enqueue r
  | some _ => s.markSent k

end State

/-- The rotation order after a queue, wrapping and ending with that queue (R55). -/
def rotationAfter : Source → List Source
  | .self => [.front, .rear, .pack, .ride, .self]
  | .front => [.rear, .pack, .ride, .self, .front]
  | .rear => [.pack, .ride, .self, .front, .rear]
  | .pack => [.ride, .self, .front, .rear, .pack]
  | .ride => [.self, .front, .rear, .pack, .ride]

namespace State

/-- Step 1 of R55: the fullest of the queues that hold 6 or more, the first in the fixed order among equals. -/
def fullest (s : State) : Option Source :=
  [Source.self, .front, .rear, .pack, .ride].foldl (fun (best : Option Source) q =>
    if (s.queue q).length < 6 then best
    else match best with
      | none => some q
      | some b => if (s.queue b).length < (s.queue q).length then some q else best) none

/-- Step 2 of R55: the first non-empty queue after the rotation position. -/
def nextInRotation (s : State) : Option Source :=
  (rotationAfter s.intake.rotation).find? fun q => !(s.queue q).isEmpty

/-- The queue chosen when none is current (R55). -/
def chooseQueue (s : State) : Option Source :=
  match s.fullest with
  | some q => some q
  | none => s.nextInRotation

/-- A chosen queue becomes current and the rotation position, with its weight as allowance (R55). -/
def makeCurrent (q : Source) (s : State) : State :=
  { s with intake := { s.intake with current := some q, rotation := q, allowance := s.config.weights.get q } }

/-- The head of queue `q` is handed to the Fault Table (R55, R56; log 17 on the allowance). -/
def handHead (q : Source) (s : State) : State :=
  match s.queue q with
  | [] => s
  | r :: rest =>
    let spent := s.intake.allowance ≤ 1 || rest.isEmpty
    let s1 := s.setQueue q rest
    { s1 with
      intake := { s1.intake with
        current := if spent then none else some q
        allowance := if spent then 0 else s.intake.allowance - 1 }
      faults := { s1.faults with applying := some r } }

/-- The arbiter hands one report (R55, R56). -/
def handOff (s : State) : State :=
  match s.intake.current with
  | some q => s.handHead q
  | none =>
    match s.chooseQueue with
    | some q => (s.makeCurrent q).handHead q
    | none => s

end State

/-- REPORT (R38, R39, R40). -/
def execReport (p : Station) (turn : Bool) (payload : List Byte) (s : State) : Host.Outcome State Fault Refusal :=
  .next (s.takeFrame p turn (State.receipted p (State.judgeReport p payload)))

/-- SNAPSHOT (R45, R46). -/
def execSnapshot (p : Station) (turn : Bool) (payload : List Byte) (s : State) : Host.Outcome State Fault Refusal :=
  .next (s.takeFrame p turn (State.receipted p (State.judgeSnapshot p payload)))

/-- SNAPSHOT_WINDOW_EXPIRY (R47, R48). -/
def execSnapshotWindowExpiry (p : Station) (s : State) : Host.Outcome State Fault Refusal :=
  .next (s.truncate p)

/-- SELF_REPORT_FORMED (R53): in RUN, with room in the SELF queue and a flag set. -/
def execSelfReportFormed (s : State) : Host.Outcome State Fault Refusal :=
  .next (
    if s.running && (s.queue .self).length < shortQueueMax then
      match s.firstUnsent with
      | some k => s.formSelf k
      | none => s
    else s)

/-- ARBITER_HAND_OFF (R56): in RUN, when the Fault Table is free to take a report. -/
def execArbiterHandOff (s : State) : Host.Outcome State Fault Refusal :=
  .next (if s.running && s.faults.applying.isNone then s.handOff else s)

end Sys2Proof.Machine
end

