-- ==== Sys2Proof/Machine/LinkEvents.lean ====
section
/-!
DEFINITION. Commands for what else happens on a link: REQ (R24), discarded, out-of-turn and broken frames (R18, R25, R29),
contention (R30, R32), the station driving the line (R20, R31), and the ports' timers (R21, R23, R25, R31).
-/
namespace Sys2Proof.Machine

open Sys2Proof

/-- The TURN flag of a discarded frame, as far as it is acted on: only an intact frame has one (R18). -/
def carriesTurn : DiscardCause → Bool
  | .badCrc => false
  | .unknownKind turn => turn
  | .badLength _ turn => turn

/-- The frame is an intact HELLO of a bad length (R21). -/
def badHello : DiscardCause → Bool
  | .badLength .hello _ => true
  | .badLength .status _ | .badLength .adopt _ | .badCrc | .unknownKind _ => false

namespace Port

/-- The REQ pin takes a level: it is sampled in HOLD, TURN and RECOVER, and acts in HOLD (R15, R23, R24; log 10). -/
def takeReq (level : Bool) (o : Port) : Port :=
  { o with
    reqPin := level
    reqSample := if o.samplesReq then level else o.reqSample
    grantDue := o.grantDue || (level && o.state == .hold) }

/-- A frame cut off by contention stays first in its list (R30). The model's choices: a newer ENVELOPE that waits is kept instead
(log 11); an ENVELOPE that has joined since goes before a RECEIPT, READ_REPLY or NOTICE cut off, which is first of its own kind
(log 38); a READ_REPLY or NOTICE is formed anew when it starts again (log 34); a GRANT stands in no list, and grant due, which is
still set, calls for it again (log 35). -/
def putBack (f : OutFrame) (o : Port) : Port :=
  match f with
  | .envelope e => { o with envelope := some (o.envelope.getD e) }
  | .receipt r => { o with receipts := r :: o.receipts }
  | .readReply t => { o with replies := t :: o.replies }
  | .notice _ => { o with notice := true }
  | .grant | .sync => o

/-- The frame on the line is cut off by contention, which is counted (R30). -/
def contend (f : OutFrame) (o : Port) : Port :=
  { o.putBack f with sending := none, contentions := o.contentions + 1 }

/-- A SYNC on the line is cut off; no sync turn opens (R20). -/
def cutSync (o : Port) : Port := { o with sending := none }

/-- The line is busy before the first SYNC: it is due once the line has been idle for 2 ms again (R20; log 26). -/
def restartFirstSync (o : Port) : Port := { o with syncTimer := some syncQuietMs }

/-- The recover quiet time is over (R31). -/
def recovered (o : Port) : Port := { o.toHold with recoverQuiet := none }

end Port

namespace State

/-- The station drives the line in SYNC while the port sends, or before its first SYNC (R20; log 28). -/
def drivenInSync (p : Station) (s : State) : State :=
  let o := s.port p
  if o.sending.isSome then s.modPort p Port.cutSync
  else if o.syncBegun then s
  else s.modPort p Port.restartFirstSync

/-- A contention in HOLD with frame `f` on the line (R30, R32). -/
def contention (p : Station) (f : OutFrame) (s : State) : State :=
  let s1 := s.modPort p (Port.contend f)
  if (s1.port p).contentions < 3 then (s1.modPort p Port.toRecover).motionPort p
  else (s1.enterSync p).setCond (linkLostCond p) true none

/-- The line is idle with a frame incomplete, in a turn (R25, R26). -/
def breakTurn (p : Station) (s : State) : State :=
  let s1 := s.modPort p fun o => { o with frames := o.frames + 1 }
  (s1.countDiscard p).endTurn .broken p

end State

/-- REQ_CHANGE (R15, R23, R24). -/
def execReqChange (p : Station) (level : Bool) (s : State) : Host.Outcome State Fault Refusal :=
  .next (s.modPort p (Port.takeReq level))

/-- DISCARDED_FRAME (R18, R21, R26, R29). -/
def execDiscardedFrame (p : Station) (cause : DiscardCause) (s : State) : Host.Outcome State Fault Refusal :=
  .next (
    if (s.port p).state = .sync then
      (if (s.port p).syncTurn && badHello cause then s.modPort p Port.endSyncTurn else s)
    else s.takeFrame p (carriesTurn cause) (State.countDiscard p))

/-- OUT_OF_TURN_FRAME (R29, R31). -/
def execOutOfTurnFrame (p : Station) (s : State) : Host.Outcome State Fault Refusal :=
  .next (s.refuseFrame p)

/-- BROKEN_FRAME (R18, R25, R29). -/
def execBrokenFrame (p : Station) (s : State) : Host.Outcome State Fault Refusal :=
  .next (if s.inTurn p then s.breakTurn p else s.refuseBroken p)

/-- CONTENTION (R30, R32); while a SYNC is being sent it is not counted (R20). -/
def execContention (p : Station) (s : State) : Host.Outcome State Fault Refusal :=
  match (s.port p).state, (s.port p).sending with
  | .hold, some f => .next (s.contention p f.frame)
  | .sync, some _ => .next (s.modPort p Port.cutSync)
  | _, _ => .next s

/-- STATION_DRIVES_LINE (R31, R20). -/
def execStationDrivesLine (p : Station) (s : State) : Host.Outcome State Fault Refusal :=
  match (s.port p).state with
  | .recover => .next (s.restartQuiet p)
  | .sync => .next (s.drivenInSync p)
  | .offline | .hold | .turn => .next s

/-- HEARTBEAT_EXPIRY (R23). -/
def execHeartbeatExpiry (p : Station) (s : State) : Host.Outcome State Fault Refusal :=
  match (s.port p).heartbeat with
  | none => .next s
  | some _ => .next (s.modPort p fun o => { o with heartbeat := none, grantDue := true })

/-- TURN_WINDOW_EXPIRY (R25): at once, or once the line is idle when a frame is being received. -/
def execTurnWindowExpiry (p : Station) (receiving : Bool) (s : State) : Host.Outcome State Fault Refusal :=
  match (s.port p).state, (s.port p).turnWindow with
  | .turn, some _ =>
    if receiving then .next (s.modPort p fun o => { o with turnWindow := none, turnExpired := true })
    else .next (s.endTurn .expiry p)
  | _, _ => .next s

/-- EXPIRED_TURN_LINE_IDLE (R25). -/
def execExpiredTurnLineIdle (p : Station) (s : State) : Host.Outcome State Fault Refusal :=
  .next (
    if (s.port p).state = .turn && (s.port p).turnExpired then (s.countDiscard p).endTurn .expiry p
    else s)

/-- SYNC_TURN_EXPIRY (R21). -/
def execSyncTurnExpiry (p : Station) (s : State) : Host.Outcome State Fault Refusal :=
  .next (if (s.port p).syncTurn then s.modPort p Port.endSyncTurn else s)

/-- RECOVER_QUIET_EXPIRY (R31). -/
def execRecoverQuietExpiry (p : Station) (s : State) : Host.Outcome State Fault Refusal :=
  .next (
    if (s.port p).state = .recover then (s.modPort p Port.recovered).motionPort p
    else s)

end Sys2Proof.Machine
end

