-- ==== Sys2Proof/Machine/Monitor.lean ====
section
/-!
DEFINITION. Commands of the Self Monitor: scans and samples (R148, R152 to R155), and the bus comparator (R159).
-/
namespace Sys2Proof.Machine

open Sys2Proof

/-- SCAN_DUE (R152), while the Self Monitor scans; a scan still in progress is replaced (log 16). -/
def execScanDue (s : State) : Host.Outcome State Fault Refusal :=
  .next (if s.watching then s.beginScan else s)

/-- SAMPLE_COMPLETE (R148, R154, R155): the sample in progress has a value. -/
def execSampleComplete (value : Counts) (s : State) : Host.Outcome State Fault Refusal :=
  .next (if s.watching then s.completeSample value else s)

/-- FALLING (R159): the DC link has fallen to `dcLink`, judged against the threshold that stands now (R160). -/
def execFalling (s : State) (dcLink : Nat := 0) : Host.Outcome State Fault Refusal :=
  .next (if s.watching && !s.monitor.comparator then s.compareLink dcLink else s)

/-- RISING (R159): the DC link has risen to `dcLink`, judged against the threshold that stands now (R160). -/
def execRising (s : State) (dcLink : Nat := 65535) : Host.Outcome State Fault Refusal :=
  .next (if s.watching && s.monitor.comparator then s.compareLink dcLink else s)

end Sys2Proof.Machine
end

