-- ==== Sys2Proof/Machine/Motion.lean ====
section
/-!
DEFINITION. Commands of Motion: the parked hold (R167, R169) and the mismatch timer (R170).
-/
namespace Sys2Proof.Machine

open Sys2Proof

/-- The detail of a mismatch: the difference of the two held speeds (R170). -/
def Motion.gapDetail (m : Motion) : Detail :=
  BitVec.ofNat 16 (speedGap (m.speedFront.getD 0) (m.speedRear.getD 0))

namespace State

/-- PARKED rises (R167), and is reported (R169). -/
def raiseParked (s : State) : State :=
  reportParked true { s with motion := { s.motion with parked := true, parkedHold := none } }

/-- The mismatch timer expires in ARMING: the slower axle's condition is asserted (R170). -/
def assertMismatch (s : State) : State :=
  let s1 := { s with motion := { s.motion with mismatch := .asserted, mismatchTimer := none } }
  match s.motion.mismatchAxle with
  | some a => s1.setCond (mismatchCond a) true (some s.motion.gapDetail)
  | none => s1

/-- The mismatch timer expires in SETTLING: the condition is deasserted (R170). -/
def settleMismatch (s : State) : State :=
  releaseMismatch s.motion { s with motion := s.motion.quiet }

end State

/-- PARKED_HOLD_EXPIRY (R167). -/
def execParkedHoldExpiry (s : State) : Host.Outcome State Fault Refusal :=
  match s.motion.parkedHold with
  | some _ => .next s.raiseParked
  | none => .next s

/-- MISMATCH_TIMER_EXPIRY (R170). -/
def execMismatchTimerExpiry (s : State) : Host.Outcome State Fault Refusal :=
  match s.motion.mismatchTimer, s.motion.mismatch with
  | some _, .arming => .next s.assertMismatch
  | some _, .settling => .next s.settleMismatch
  | some _, .quiet => .next s
  | some _, .asserted => .next s
  | none, _ => .next s

end Sys2Proof.Machine
end

