-- ==== Sys2Proof/Machine/Replies.lean ====
section
/-!
DEFINITION. The payloads the E410 sends: ENVELOPE and RECEIPT (2.7), NOTICE (R77), and the READ_REPLY of each target (R72 to
R76, R129, R162, R185), formed from the state at the moment the first byte is sent (R35).
-/
namespace Sys2Proof.Machine

open Sys2Proof

/-- The fields of a reply up to the last whole one that fits in `room` bytes (R72). -/
def cutFields (room : Nat) : List (List Byte) → List Byte
  | [] => []
  | f :: rest => if f.length ≤ room then f ++ cutFields (room - f.length) rest else []

/-- A yes/no field (R72). -/
def yesNoByte (b : Bool) : Byte := byteOf b.toNat

/-- The bits of a byte, bit 0 first. -/
def bitsByte (l : List Bool) : Byte :=
  byteOf (l.foldr (fun b n => b.toNat + 2 * n) 0)

/-- The ENVELOPE payload (2.7). -/
def envelopeBytes (e : Envelope) : List Byte :=
  bytes32 e.generation ++
    [byteOf e.limits.level.val, byteOf e.limits.front.code, byteOf e.limits.rear.code, byteOf e.torque, byteOf e.speed,
      yesNoByte e.limits.regenPermitted, byteOf e.limits.packCeiling, yesNoByte e.limits.packOpen,
      byteOf (indexCode e.cause), yesNoByte e.overflow]

/-- The six compared fields, one byte each (R129). -/
def limitsBytes (l : Limits) : List Byte :=
  [byteOf l.level.val, byteOf l.front.code, byteOf l.rear.code, yesNoByte l.regenPermitted, byteOf l.packCeiling,
    yesNoByte l.packOpen]

/-- The RECEIPT payload (2.7). -/
def receiptBytes (r : Receipt) : List Byte :=
  byteOf r.verdicts.length :: r.verdicts.map (fun v => byteOf v.code) ++
    [byteOf r.discards, byteOf r.free, yesNoByte r.filling, byteOf r.outcome.code]

/-- The number of entries in one state (R77). -/
def countIn (x : EntryState) (t : FaultTable) : Nat :=
  countAt (fun e => e.state == x) t.entries

/-- The NOTICE payload (R77). -/
def noticeBytes (overflowLevel : Level) (t : FaultTable) : List Byte :=
  [byteOf (countIn .free t), byteOf (countIn .suspect t), byteOf (countIn .confirmed t), byteOf (countIn .healing t),
    byteOf (countIn .latched t), byteOf (countIn .retired t), byteOf (highestDemanded overflowLevel t).val,
    byteOf t.cellCount, yesNoByte t.highWater]

/-- An entry's summary in a TABLE reply (R73). -/
def summaryBytes (e : Entry) : List Byte :=
  [byteOf e.state.code, byteOf e.zone.val, byteOf e.cls.val, byteOf (indexCode e.root)]

/-- The TABLE reply (R73). -/
def tableReply (room : Nat) (first : Fin 48) (count : Nat) (t : FaultTable) : List Byte :=
  let carried := min (min count (48 - first.val)) ((room - 3) / 4)
  byteOf 0 :: byteOf first.val :: byteOf carried ::
    ((t.entries.toList.drop first.val).take carried).flatMap summaryBytes

/-- The six bytes of a demand; an absent one shows level FF hex and zeros (R72). -/
def demandFields (d : Option Demand) : List (List Byte) :=
  match d with
  | none => [[255], [0], [0], [0], [0], [0]]
  | some d => [[byteOf d.level.val], [byteOf (axleActionCode d.action)], [byteOf (axleFieldCode d.axles)],
      [yesNoByte d.regenInhibit], [byteOf d.packCeiling], [byteOf (packActionCode d.packAction)]]

/-- The fields of the ENTRY reply (R74). -/
def entryFields (i : Fin 48) (e : Entry) : List (List Byte) :=
  [[byteOf 1], [byteOf i.val], [byteOf e.state.code], [byteOf e.zone.val], [byteOf e.cls.val], [byteOf e.episode],
    bytes32 e.openedAt.toNat, bytes32 e.stateSince.toNat, bytes32 e.lastReportAt.toNat, bytes16 e.reportCount,
    [byteOf (sourceSetCode e.witness)], [byteOf (sourceSetCode e.present)], [byteOf e.recurrence],
    [byteOf (indexCode e.root)]] ++ demandFields e.demand ++
  [[byteOf (episodeEndCode e.outcome)], [yesNoByte e.detail.isSome], bytes16 (e.detail.getD 0).toNat,
    [byteOf (indexCode e.snapshot)], [yesNoByte e.snapshotLost]]

/-- The owning entry's index, FF hex unless the owner is ENTRY (R75). -/
def ownerEntry (o : BufferOwner) : Nat :=
  match o with
  | .entry e => e.val
  | .free | .pending _ => 255

/-- The SNAPSHOT reply (R75). -/
def snapshotReply (room : Nat) (b : Fin 8) (offset : Nat) (x : Buffer) : List Byte :=
  [byteOf 2, byteOf b.val, byteOf offset, byteOf x.owner.code, byteOf (ownerEntry x.owner), byteOf x.data.length,
    yesNoByte x.complete] ++ (x.data.drop offset).take (room - 7)

/-- The fields of the ENVELOPE reply (R129). -/
def ladderFields (l : Ladder) : List (List Byte) :=
  [[byteOf 3], envelopeBytes l.published, bytes32 l.adopted.generation, limitsBytes l.inForce.limits,
    limitsBytes l.target.limits, [byteOf l.relax.code]]

/-- A latest sample, FFFF hex when absent (R162). -/
def sampleBytes (o : Option Counts) : List Byte :=
  match o with
  | some v => bytes16 v.toNat
  | none => [255, 255]

/-- A station's STATUS in the MONITOR reply: a presence byte, then its fields, zero when none is held (R162). -/
def statusFields (p : Station) (o : Option StatusRec) : List (List Byte) :=
  match o with
  | some (.ride throttle brake) => [[1], [byteOf throttle], [yesNoByte brake]]
  | some (.inverter speed temperature) => [[1], bytes16 speed, [temperature]]
  | some (.pack voltage current charge) => [[1], bytes16 voltage, bytes16 current.toNat, [byteOf charge]]
  | none =>
    match p with
    | .ride => [[0], [0], [0]]
    | .front | .rear => [[0], [0, 0], [0]]
    | .pack => [[0], [0, 0], [0, 0], [0]]

/-- The fields of the MONITOR reply (R162). -/
def monitorFields (s : State) : List (List Byte) :=
  [[byteOf 4], [bitsByte s.config.enable.toList]] ++ s.monitor.latest.toList.map sampleBytes ++
    s.monitor.filters.toList.map (fun f => [byteOf f.state.code]) ++
    [[byteOf s.config.threshold.val], [yesNoByte s.monitor.comparator]] ++
    statusFields .ride s.ports.ride.status ++ statusFields .front s.ports.front.status ++
    statusFields .rear s.ports.rear.status ++ statusFields .pack s.ports.pack.status

/-- One byte of the OVERFLOW reply: cells 8k to 8k+7 (R76). -/
def cellByte (cells : Vector Bool 64) (k : Nat) : Byte :=
  bitsByte ((cells.toList.drop (8 * k)).take 8)

/-- The OVERFLOW reply (R76). -/
def overflowReply (t : FaultTable) : List Byte :=
  byteOf 5 :: byteOf t.cellCount :: (List.range 8).map (cellByte t.overflow)

/-- The stations of a topology as a source set with SELF clear (R185). -/
def presentSet (t : Topology) : SourceSet :=
  ⟨t.present .ride, t.present .front, t.present .rear, t.present .pack, false⟩

/-- The IDENT reply (R185). -/
def identReply (d : Device) : List Byte :=
  [byteOf 6, byteOf d.state.code, byteOf d.topology.number, byteOf (sourceSetCode (presentSet d.topology)),
    byteOf d.check.code, byteOf d.way.code] ++ bytes16 (d.configureWindow.getD 0)

namespace State

/-- The room a READ_REPLY has on a port: its declared max frame (R72; log 30 when it holds none). -/
def roomOf (s : State) (p : Station) : Nat :=
  (s.port p).maxFrame.getD 255

/-- The content of a READ_REPLY (R35, R72). -/
def replyBytes (s : State) (p : Station) : ReadTarget → List Byte
  | .table first count => tableReply (s.roomOf p) first count s.faults
  | .entry e => cutFields (s.roomOf p) (entryFields e (s.entry e))
  | .snapshot b offset => snapshotReply (s.roomOf p) b offset (s.buffer b)
  | .envelope => cutFields (s.roomOf p) (ladderFields s.ladder)
  | .monitor => cutFields (s.roomOf p) (monitorFields s)
  | .overflow => overflowReply s.faults
  | .ident => identReply s.device

/-- The payload of an outbound frame, formed when its first byte is sent (R35). -/
def payloadOf (s : State) (p : Station) : OutFrame → List Byte
  | .sync | .grant => []
  | .envelope e => envelopeBytes e
  | .receipt r => receiptBytes r
  | .readReply t => s.replyBytes p t
  | .notice _ => noticeBytes s.config.overflowLevel s.faults

end State

end Sys2Proof.Machine
end

