-- ==== Sys2Proof/Machine/Outbound.lean ====
section
/-!
DEFINITION. Commands for what the E410 sends: the outbound arbiter (R34), SYNC frames (R20), and the completion of each frame
(R23, R35, R77, R136).
-/
namespace Sys2Proof.Machine

open Sys2Proof

namespace Port

/-- The next frame of the outbound list and the port without it, or a GRANT when grant due is set (R34). -/
def nextFrame (highWater : Bool) (o : Port) : Option (OutFrame × Port) :=
  match o.envelope with
  | some e => some (.envelope e, { o with envelope := none })
  | none =>
    match o.receipts with
    | r :: rest => some (.receipt r, { o with receipts := rest })
    | [] =>
      match o.replies with
      | t :: rest => some (.readReply t, { o with replies := rest })
      | [] =>
        if o.notice then some (.notice highWater, { o with notice := false })
        else if o.grantDue then some (.grant, o)
        else none

/-- The TURN flag of a frame, decided when its first byte is sent; `o` is the port with the frame taken (R34). -/
def turnFlag (f : OutFrame) (o : Port) : Bool :=
  match f with
  | .sync | .grant | .envelope _ => true
  | .receipt _ | .readReply _ | .notice _ => o.grantDue && !o.frameWaits

/-- A SYNC frame begins, and the next falls due 50 ms from its start (R20). -/
def beginSync (o : Port) : Port :=
  { o with sending := some ⟨.sync, true, []⟩, syncTimer := some syncPeriodMs, syncBegun := true }

/-- A SYNC frame has been sent: the sync turn opens (R20). -/
def openSyncTurn (windowMs : Nat) (o : Port) : Port :=
  { o with sending := none, syncTurn := true, turnWindow := some windowMs }

end Port

namespace State

/-- The arbiter of a port in HOLD that is not sending begins a frame (R34, R35). -/
def startFrame (p : Station) (s : State) : State :=
  match (s.port p).nextFrame s.faults.highWater with
  | none => s
  | some (f, o) => s.setPort p { o with sending := some ⟨f, o.turnFlag f, s.payloadOf p f⟩ }

/-- The adoption window on the send of an ENVELOPE of the current generation that the port owes (R136; log 21). -/
def windowOnSend (k : Nat) (a : Adoption) : Adoption :=
  match a.window with
  | .idle => if a.lapsed then a else { a with window := .waiting, timer := some k }
  | .resent => if a.timer.isNone then { a with timer := some k } else a
  | .waiting => a

/-- Publication is told that an ENVELOPE of generation `g` has been sent (R136). -/
def envelopeOut (p : Station) (g : Nat) (s : State) : State :=
  if g = s.publication.counter && (s.adoption p).owing then
    s.setAdoption p (windowOnSend s.config.timing.adoptionWindow (s.adoption p))
  else s

/-- What the block of a sent frame does (R35, R77, R136). -/
def tellSent (p : Station) (f : OutFrame) (s : State) : State :=
  match f with
  | .envelope e => s.envelopeOut p e.generation
  | .notice true => { s with faults := { s.faults with highWater := false } }
  | .notice false | .receipt _ | .readReply _ | .grant | .sync => s

/-- The last byte of a frame leaves a port in HOLD without contention (R35, R23). -/
def complete (p : Station) (f : Sending) (s : State) : State :=
  (s.tellSent p f.frame).frameSent p f.turn

/-- The frame on the line of a port in HOLD completes, if it is one that `is` accepts. -/
def completeIf (p : Station) (is : Sending → Bool) (s : State) : State :=
  match (s.port p).state, (s.port p).sending with
  | .hold, some f => if is f then s.complete p f else s
  | _, _ => s

end State

/-- The kinds of outbound frame, as completions name them. -/
def OutFrame.isEnvelope : OutFrame → Bool
  | .envelope _ => true
  | .sync | .grant | .receipt _ | .readReply _ | .notice _ => false

def OutFrame.isReceipt : OutFrame → Bool
  | .receipt _ => true
  | .sync | .grant | .envelope _ | .readReply _ | .notice _ => false

def OutFrame.isReadReply : OutFrame → Bool
  | .readReply _ => true
  | .sync | .grant | .envelope _ | .receipt _ | .notice _ => false

def OutFrame.isNotice : OutFrame → Bool
  | .notice _ => true
  | .sync | .grant | .envelope _ | .receipt _ | .readReply _ => false

/-- OUTBOUND_ARBITER_CHOICE (R34): the line of the port is idle. -/
def execOutboundArbiterChoice (p : Station) (s : State) : Host.Outcome State Fault Refusal :=
  .next (
    if (s.port p).state = .hold && (s.port p).sending.isNone then s.startFrame p
    else s)

/-- SYNC_DUE (R20): the line of a port in SYNC is idle and its SYNC is due. -/
def execSyncDue (p : Station) (s : State) : Host.Outcome State Fault Refusal :=
  .next (
    if (s.port p).state = .sync && (s.port p).sending.isNone && !(s.port p).syncTurn then
      s.modPort p Port.beginSync
    else s)

/-- SYNC_SENT (R20). -/
def execSyncSent (p : Station) (s : State) : Host.Outcome State Fault Refusal :=
  .next (
    if (s.port p).state = .sync && (s.port p).sending.isSome then
      s.modPort p (Port.openSyncTurn s.config.timing.turnWindow)
    else s)

/-- GRANT_SENT (R23): a frame carrying TURN has been sent, a GRANT or any other (log 29). -/
def execGrantSent (p : Station) (s : State) : Host.Outcome State Fault Refusal :=
  .next (s.completeIf p fun f => f.turn)

/-- ENVELOPE_SENT (R136, R23). -/
def execEnvelopeSent (p : Station) (s : State) : Host.Outcome State Fault Refusal :=
  .next (s.completeIf p fun f => f.frame.isEnvelope)

/-- RECEIPT_SENT (R35). -/
def execReceiptSent (p : Station) (s : State) : Host.Outcome State Fault Refusal :=
  .next (s.completeIf p fun f => f.frame.isReceipt)

/-- READ_REPLY_SENT (R35). -/
def execReadReplySent (p : Station) (s : State) : Host.Outcome State Fault Refusal :=
  .next (s.completeIf p fun f => f.frame.isReadReply)

/-- NOTICE_SENT (R77), on port 0 only. -/
def execNoticeSent (s : State) : Host.Outcome State Fault Refusal :=
  .next (s.completeIf .ride fun f => f.frame.isNotice)

end Sys2Proof.Machine
end

