-- ==== Sys2Proof/Machine/Reads.lean ====
section
/-!
DEFINITION. The READ commands (R37): the port answers each itself and queues its reply, whose content is formed when it is
sent (R35; Machine/Replies.lean).
-/
namespace Sys2Proof.Machine

open Sys2Proof

namespace State

/-- The port judges a READ whose parameters have been parsed (R37). -/
def judgeRead (p : Station) (target : Option ReadTarget) (s : State) : State × Verdict :=
  match target with
  | none => (s, .malformed)
  | some t =>
    if replyMax ≤ (s.port p).replies.length then (s, .queueFull)
    else (s.modPort p fun o => { o with replies := o.replies ++ [t] }, .taken)

/-- A READ completes on a port. -/
def takeRead (p : Station) (turn : Bool) (target : Option ReadTarget) (s : State) : State :=
  s.takeFrame p turn (receipted p (judgeRead p target))

end State

/-- READ TABLE (R37, R73). -/
def execReadTable (p : Station) (turn : Bool) (payload : List Byte) (s : State) : Host.Outcome State Fault Refusal :=
  .next (s.takeRead p turn (parseReadTable payload))

/-- READ ENTRY (R37, R74). -/
def execReadEntry (p : Station) (turn : Bool) (payload : List Byte) (s : State) : Host.Outcome State Fault Refusal :=
  .next (s.takeRead p turn (parseReadEntry payload))

/-- READ SNAPSHOT (R37, R75). -/
def execReadSnapshot (p : Station) (turn : Bool) (payload : List Byte) (s : State) : Host.Outcome State Fault Refusal :=
  .next (s.takeRead p turn (parseReadSnapshot payload))

/-- READ ENVELOPE (R37, R129). -/
def execReadEnvelope (p : Station) (turn : Bool) (payload : List Byte) (s : State) : Host.Outcome State Fault Refusal :=
  .next (s.takeRead p turn (parseReadPlain 3 .envelope payload))

/-- READ MONITOR (R37, R162). -/
def execReadMonitor (p : Station) (turn : Bool) (payload : List Byte) (s : State) : Host.Outcome State Fault Refusal :=
  .next (s.takeRead p turn (parseReadPlain 4 .monitor payload))

/-- READ OVERFLOW (R37, R76). -/
def execReadOverflow (p : Station) (turn : Bool) (payload : List Byte) (s : State) : Host.Outcome State Fault Refusal :=
  .next (s.takeRead p turn (parseReadPlain 5 .overflow payload))

/-- READ IDENT (R37, R185). -/
def execReadIdent (p : Station) (turn : Bool) (payload : List Byte) (s : State) : Host.Outcome State Fault Refusal :=
  .next (s.takeRead p turn (parseReadPlain 6 .ident payload))

end Sys2Proof.Machine
end

