-- ==== Sys2Proof/Machine/Records.lean ====
section
/-!
DEFINITION. The CONFIG records (R178, R179) and COMMIT (R180, R181). Each row judges the frames its own target code heads; any
other code is MALFORMED under it (log 5).
-/
namespace Sys2Proof.Machine

open Sys2Proof

namespace State

/-- Checks 3 to 5 of R178: a record of this target, of the length of its index, that is not fixed and whose fields hold.
Answers the verdict of the first failing check, or writes what the record parses to. -/
def judgeRecord {α : Type} (body : Option (Nat × List Byte)) (lengthOf : Nat → Option Nat) (fixed : Nat → Bool)
    (parse : Nat → List Byte → Option α) (write : Nat → α → State) (s : State) : State × Verdict :=
  match body with
  | none => (s, .malformed)
  | some (i, record) =>
    if lengthOf i ≠ some record.length then (s, .malformed)
    else if fixed i then (s, .notPermitted)
    else match parse i record with
      | none => (s, .malformed)
      | some x => (write i x, .taken)

/-- Checks 1 and 2 of R178, then the record's own. -/
def judgeConfig (p : Station) (judge : State → State × Verdict) (s : State) : State × Verdict :=
  if s.device.state ≠ .configure then (s, .wrongState)
  else if p ≠ .ride then (s, .notPermitted)
  else judge s

/-- The record length of a target with `n` indices (R179). -/
def lengthBelow (n len : Nat) (i : Nat) : Option Nat :=
  if i < n then some len else none

/-- A table written at an index read from a frame. -/
def putNat {α : Type} {n : Nat} (v : Vector α n) (i : Nat) (x : α) : Vector α n :=
  match fin? n i with
  | some k => putAt v k x
  | none => v

/-- The zone record of index `i` is parsed (R179). -/
def parseZoneAt (i : Nat) (record : List Byte) : Option Zone :=
  (fin? 16 i).bind fun k => parseZone k record

/-- A ZONE record is judged (R178, R8). -/
def judgeZone (payload : List Byte) (s : State) : State × Verdict :=
  judgeRecord (configBody 0 payload) (lengthBelow 16 7) (fun i => i = 15) parseZoneAt
    (fun i z => { s with config := { s.config with zones := putNat s.config.zones i z } }) s

/-- A CLASS record is judged (R178, R14). -/
def judgeClass (payload : List Byte) (s : State) : State × Verdict :=
  judgeRecord (configBody 1 payload) (lengthBelow 32 14) (fun i => i = 21) (fun _ => parseClass)
    (fun i k => { s with config := { s.config with classes := putNat s.config.classes i k } }) s

/-- What a LEVEL record writes: a level's ceilings, or the overflow level (R179). -/
def parseLevelAt (i : Nat) (record : List Byte) : Option (LevelRec ⊕ Level) :=
  if i = 6 then (parseOverflowLevel record).map .inr else (parseLevel record).map .inl

/-- A LEVEL record is written. -/
def writeLevel (s : State) (i : Nat) : LevelRec ⊕ Level → State
  | .inl l => { s with config := { s.config with levels := putNat s.config.levels i l } }
  | .inr l => { s with config := { s.config with overflowLevel := l } }

/-- The record length of a LEVEL record (R179). -/
def levelLength (i : Nat) : Option Nat :=
  if i = 6 then some 1 else lengthBelow 6 2 i

/-- A LEVEL record is judged (R178). -/
def judgeLevel (payload : List Byte) (s : State) : State × Verdict :=
  judgeRecord (configBody 2 payload) levelLength (fun _ => false) parseLevelAt s.writeLevel s

/-- A RESPONSE of class slot `i` is fixed for class 21 and for an unassigned slot (check 4 of R178). -/
def responseFixed (s : State) (i : Nat) : Bool :=
  i = 21 || (match fin? 32 i with
    | some k => !(s.classOf k).assigned
    | none => false)

/-- A RESPONSE record is written: only the response of the slot (R108). -/
def writeResponse (s : State) (i : Nat) (r : Response) : State :=
  match fin? 32 i with
  | some k => { s with config := { s.config with
      classes := putAt s.config.classes k { s.classOf k with response := r } } }
  | none => s

/-- A RESPONSE record is judged (R178). -/
def judgeResponse (payload : List Byte) (s : State) : State × Verdict :=
  judgeRecord (configBody 3 payload) (lengthBelow 32 6) s.responseFixed (fun _ => parseResponse) s.writeResponse s

/-- A SCAN record is written at an index read from a frame (R156). -/
def writeScanAt (s : State) (i : Nat) (r : ScanRec) : State :=
  match fin? 8 i with
  | some k => s.writeScan k r
  | none => s

/-- A SCAN record is judged (R178, R156). -/
def judgeScan (payload : List Byte) (s : State) : State × Verdict :=
  judgeRecord (configBody 4 payload) (lengthBelow 8 10) (fun _ => false) (fun _ => parseScan) s.writeScanAt s

/-- A CHANNELS record is judged (R178, R149). -/
def judgeChannels (payload : List Byte) (s : State) : State × Verdict :=
  judgeRecord (configBody 5 payload) (lengthBelow 1 1) (fun _ => false) (fun _ => parseChannels)
    (fun _ e => s.writeEnable e) s

/-- A COMPARATOR record is judged (R178, R160). -/
def judgeComparator (payload : List Byte) (dcLink : Nat) (s : State) : State × Verdict :=
  judgeRecord (configBody 6 payload) (lengthBelow 1 1) (fun _ => false) (fun _ => parseThreshold)
    (fun _ t => s.writeThreshold t dcLink) s

/-- A TIMING record is judged (R178, R179). -/
def judgeTiming (payload : List Byte) (s : State) : State × Verdict :=
  judgeRecord (configBody 7 payload) (lengthBelow 1 10) (fun _ => false) (fun _ => parseTiming)
    (fun _ k => s.writeTiming k) s

/-- A WEIGHT record is judged (R178, R55). -/
def judgeWeight (payload : List Byte) (s : State) : State × Verdict :=
  judgeRecord (configBody 8 payload) (lengthBelow 1 5) (fun _ => false) (fun _ => parseWeights)
    (fun _ w => { s with config := { s.config with weights := w } }) s

/-- The consistency checks of a COMMIT, and RUN when they pass (R180, R181). -/
def judgeConsistency (s : State) : State × Verdict :=
  let failed := firstFailed s.device.topology s.config
  let s1 := s.recordCheck failed
  match failed with
  | some _ => (s1, .inconsistent)
  | none => (s1.enterRun .commit, .taken)

/-- A COMMIT is judged (R180). -/
def judgeCommit (p : Station) (payload : List Byte) (s : State) : State × Verdict :=
  if s.device.state ≠ .configure then (s, .wrongState)
  else if payload ≠ [] then (s, .malformed)
  else if p ≠ .ride then (s, .notPermitted)
  else s.judgeConsistency

/-- A CONFIG frame completes on a port. -/
def takeConfig (p : Station) (turn : Bool) (judge : State → State × Verdict) (s : State) : State :=
  s.takeFrame p turn (receipted p (judgeConfig p judge))

end State

/-- CONFIG ZONE (R178, R5). -/
def execZoneRecord (p : Station) (turn : Bool) (payload : List Byte) (s : State) : Host.Outcome State Fault Refusal :=
  .next (s.takeConfig p turn (State.judgeZone payload))

/-- CONFIG CLASS (R178, R10). -/
def execClassRecord (p : Station) (turn : Bool) (payload : List Byte) (s : State) :
    Host.Outcome State Fault Refusal :=
  .next (s.takeConfig p turn (State.judgeClass payload))

/-- CONFIG LEVEL (R178, R106). -/
def execLevelRecord (p : Station) (turn : Bool) (payload : List Byte) (s : State) :
    Host.Outcome State Fault Refusal :=
  .next (s.takeConfig p turn (State.judgeLevel payload))

/-- CONFIG RESPONSE (R178, R108). -/
def execResponseRecord (p : Station) (turn : Bool) (payload : List Byte) (s : State) :
    Host.Outcome State Fault Refusal :=
  .next (s.takeConfig p turn (State.judgeResponse payload))

/-- CONFIG SCAN (R178, R156). -/
def execScanRecord (p : Station) (turn : Bool) (payload : List Byte) (s : State) : Host.Outcome State Fault Refusal :=
  .next (s.takeConfig p turn (State.judgeScan payload))

/-- CONFIG CHANNELS (R178, R149). -/
def execChannelsRecord (p : Station) (turn : Bool) (payload : List Byte) (s : State) :
    Host.Outcome State Fault Refusal :=
  .next (s.takeConfig p turn (State.judgeChannels payload))

/-- CONFIG COMPARATOR, with the DC link at `dcLink` mV (R178, R160). -/
def execComparatorRecord (p : Station) (turn : Bool) (payload : List Byte) (dcLink : Nat) (s : State) :
    Host.Outcome State Fault Refusal :=
  .next (s.takeConfig p turn (State.judgeComparator payload dcLink))

/-- CONFIG TIMING (R178, R179). -/
def execTimingRecord (p : Station) (turn : Bool) (payload : List Byte) (s : State) :
    Host.Outcome State Fault Refusal :=
  .next (s.takeConfig p turn (State.judgeTiming payload))

/-- CONFIG WEIGHT (R178, R55). -/
def execWeightRecord (p : Station) (turn : Bool) (payload : List Byte) (s : State) :
    Host.Outcome State Fault Refusal :=
  .next (s.takeConfig p turn (State.judgeWeight payload))

/-- COMMIT (R180, R181). -/
def execCommit (p : Station) (turn : Bool) (payload : List Byte) (s : State) : Host.Outcome State Fault Refusal :=
  .next (s.takeFrame p turn (State.receipted p (State.judgeCommit p payload)))

end Sys2Proof.Machine
end

