-- ==== Sys2Proof/Machine/Dispatch.lean ====
section
/-!
DEFINITION. One arm per command: its meaning.
-/
namespace Sys2Proof.Machine

open Sys2Proof

def exec (i : Instr) (s : State) : Host.Outcome State Fault Refusal :=
  match i with
  | .powerOn => Sys2Proof.Machine.execPowerOn s
  | .resetNLow => Sys2Proof.Machine.execResetNLow s
  | .resetEnd topo1 topo0 key dcLink => Sys2Proof.Machine.execResetEnd topo1 topo0 key dcLink s
  | .keyPinChange level => Sys2Proof.Machine.execKeyPinChange level s
  | .keyDebounceExpiry dcLink => Sys2Proof.Machine.execKeyDebounceExpiry dcLink s
  | .configureWindowExpiry dcLink => Sys2Proof.Machine.execConfigureWindowExpiry dcLink s
  | .reqChange p level => Sys2Proof.Machine.execReqChange p level s
  | .hello p turn payload => Sys2Proof.Machine.execHello p turn payload s
  | .status p turn payload => Sys2Proof.Machine.execStatus p turn payload s
  | .report p turn payload => Sys2Proof.Machine.execReport p turn payload s
  | .snapshot p turn payload => Sys2Proof.Machine.execSnapshot p turn payload s
  | .adopt p turn payload => Sys2Proof.Machine.execAdopt p turn payload s
  | .clear p turn payload => Sys2Proof.Machine.execClear p turn payload s
  | .discardEntry p turn payload => Sys2Proof.Machine.execDiscardEntry p turn payload s
  | .discardAllRetired p turn payload => Sys2Proof.Machine.execDiscardAllRetired p turn payload s
  | .clearOverflow p turn payload => Sys2Proof.Machine.execClearOverflow p turn payload s
  | .readTable p turn payload => Sys2Proof.Machine.execReadTable p turn payload s
  | .readEntry p turn payload => Sys2Proof.Machine.execReadEntry p turn payload s
  | .readSnapshot p turn payload => Sys2Proof.Machine.execReadSnapshot p turn payload s
  | .readEnvelope p turn payload => Sys2Proof.Machine.execReadEnvelope p turn payload s
  | .readMonitor p turn payload => Sys2Proof.Machine.execReadMonitor p turn payload s
  | .readOverflow p turn payload => Sys2Proof.Machine.execReadOverflow p turn payload s
  | .readIdent p turn payload => Sys2Proof.Machine.execReadIdent p turn payload s
  | .zoneRecord p turn payload => Sys2Proof.Machine.execZoneRecord p turn payload s
  | .classRecord p turn payload => Sys2Proof.Machine.execClassRecord p turn payload s
  | .levelRecord p turn payload => Sys2Proof.Machine.execLevelRecord p turn payload s
  | .responseRecord p turn payload => Sys2Proof.Machine.execResponseRecord p turn payload s
  | .scanRecord p turn payload => Sys2Proof.Machine.execScanRecord p turn payload s
  | .channelsRecord p turn payload => Sys2Proof.Machine.execChannelsRecord p turn payload s
  | .comparatorRecord p turn payload dcLink => Sys2Proof.Machine.execComparatorRecord p turn payload dcLink s
  | .timingRecord p turn payload => Sys2Proof.Machine.execTimingRecord p turn payload s
  | .weightRecord p turn payload => Sys2Proof.Machine.execWeightRecord p turn payload s
  | .commit p turn payload => Sys2Proof.Machine.execCommit p turn payload s
  | .discardedFrame p cause => Sys2Proof.Machine.execDiscardedFrame p cause s
  | .outOfTurnFrame p => Sys2Proof.Machine.execOutOfTurnFrame p s
  | .brokenFrame p => Sys2Proof.Machine.execBrokenFrame p s
  | .contention p => Sys2Proof.Machine.execContention p s
  | .outboundArbiterChoice p => Sys2Proof.Machine.execOutboundArbiterChoice p s
  | .syncDue p => Sys2Proof.Machine.execSyncDue p s
  | .syncSent p => Sys2Proof.Machine.execSyncSent p s
  | .grantSent p => Sys2Proof.Machine.execGrantSent p s
  | .envelopeSent p => Sys2Proof.Machine.execEnvelopeSent p s
  | .receiptSent p => Sys2Proof.Machine.execReceiptSent p s
  | .readReplySent p => Sys2Proof.Machine.execReadReplySent p s
  | .noticeSent => Sys2Proof.Machine.execNoticeSent s
  | .heartbeatExpiry p => Sys2Proof.Machine.execHeartbeatExpiry p s
  | .turnWindowExpiry p receiving => Sys2Proof.Machine.execTurnWindowExpiry p receiving s
  | .expiredTurnLineIdle p => Sys2Proof.Machine.execExpiredTurnLineIdle p s
  | .syncTurnExpiry p => Sys2Proof.Machine.execSyncTurnExpiry p s
  | .recoverQuietExpiry p => Sys2Proof.Machine.execRecoverQuietExpiry p s
  | .snapshotWindowExpiry p => Sys2Proof.Machine.execSnapshotWindowExpiry p s
  | .selfReportFormed => Sys2Proof.Machine.execSelfReportFormed s
  | .arbiterHandOff => Sys2Proof.Machine.execArbiterHandOff s
  | .reportApplied => Sys2Proof.Machine.execReportApplied s
  | .confirmWindowExpiry e => Sys2Proof.Machine.execConfirmWindowExpiry e s
  | .healHoldExpiry e => Sys2Proof.Machine.execHealHoldExpiry e s
  | .noticeDelayExpiry => Sys2Proof.Machine.execNoticeDelayExpiry s
  | .absoluteDelayExpiry => Sys2Proof.Machine.execAbsoluteDelayExpiry s
  | .relaxHoldExpiry => Sys2Proof.Machine.execRelaxHoldExpiry s
  | .adoptionWindowExpiry p => Sys2Proof.Machine.execAdoptionWindowExpiry p s
  | .scanDue => Sys2Proof.Machine.execScanDue s
  | .sampleComplete value => Sys2Proof.Machine.execSampleComplete value s
  | .falling dcLink => Sys2Proof.Machine.execFalling s dcLink
  | .rising dcLink => Sys2Proof.Machine.execRising s dcLink
  | .parkedHoldExpiry => Sys2Proof.Machine.execParkedHoldExpiry s
  | .mismatchTimerExpiry => Sys2Proof.Machine.execMismatchTimerExpiry s
  | .stationDrivesLine p => Sys2Proof.Machine.execStationDrivesLine p s

end Sys2Proof.Machine
end

