-- ==== Sys2Proof/Machine/Time.lean ====
section
/-!
DEFINITION. One millisecond: the ride clock counts (R174) and every running timer has one less to run (log 1). No timer acts
here: its expiry is a command.
-/
namespace Sys2Proof.Machine

open Sys2Proof

/-- A port's timers (R20, R23, R25, R31). -/
def Port.pass (o : Port) : Port :=
  { o with
    heartbeat := o.heartbeat.pass 1
    turnWindow := o.turnWindow.pass 1
    recoverQuiet := o.recoverQuiet.pass 1
    syncTimer := o.syncTimer.pass 1 }

/-- A long slot's snapshot window (R44). -/
def LongSlot.pass (x : LongSlot) : LongSlot :=
  { x with assembly := x.assembly.map fun a => { a with window := a.window - 1 } }

/-- An entry's timer (R83, R84). -/
def EntryTimer.pass : EntryTimer → EntryTimer
  | .none => .none
  | .confirm left => .confirm (left - 1)
  | .heal left => .heal (left - 1)

def Entry.pass (e : Entry) : Entry :=
  { e with timer := e.timer.pass }

/-- An adoption window (R133). -/
def Adoption.pass (a : Adoption) : Adoption :=
  { a with timer := a.timer.pass 1 }

/-- The device's clock and timers (R174, R176, R177). -/
def Device.pass (d : Device) : Device :=
  { d with clock := d.clock + 1, debounce := d.debounce.pass 1, configureWindow := d.configureWindow.pass 1 }

/-- The Fault Table's timers (R78, R83, R84). -/
def FaultTable.pass (t : FaultTable) : FaultTable :=
  { t with
    entries := mapTable Entry.pass t.entries
    noticeDelay := t.noticeDelay.pass 1
    absoluteDelay := t.absoluteDelay.pass 1 }

/-- The mismatch timer and the parked hold (R167, R170). -/
def Motion.pass (m : Motion) : Motion :=
  { m with parkedHold := m.parkedHold.pass 1, mismatchTimer := m.mismatchTimer.pass 1 }

/-- One millisecond passes in every block. -/
def State.pass (s : State) : State :=
  { s with
    device := s.device.pass
    ports := s.ports.map Port.pass
    intake := { s.intake with slots := s.intake.slots.map LongSlot.pass }
    faults := s.faults.pass
    ladder := { s.ladder with hold := s.ladder.hold.pass 1 }
    publication := { s.publication with records := s.publication.records.map Adoption.pass }
    monitor := { s.monitor with scanTimer := s.monitor.scanTimer.pass 1 }
    motion := s.motion.pass }

/-- One millisecond with no command: in RESET the clock and every timer stand still (R174; log 27). -/
def State.tick (s : State) : State :=
  if s.device.state = .reset then s else s.pass

end Sys2Proof.Machine
end

