-- ==== Sys2Proof/Machine/Wire.lean ====
section
/-!
DEFINITION. The line: the bits of a byte and the idle line (R15), contention as it is read back (R30), the CRC (R17), the bytes of
a frame the E410 sends, and the receiver that turns what a station sends into commands (R16, R18, 2.7). The commands carry
whole frames; this says which frame each stands for.
-/
namespace Sys2Proof.Machine

open Sys2Proof

/-! ### Bytes as bits (R15) -/

/-- A byte on the line, one level for each bit time: a start bit, eight data bits with the least significant first, a stop bit
(R15). `true` is the stop level, at which the pair rests; that a data bit 1 stands at it too is presumed (log 37). -/
def byteLevels (b : Byte) : List Bool :=
  false :: (List.range 8).map b.getLsbD ++ [true]

/-- Bytes sent one after another. -/
def lineLevels (l : List Byte) : List Bool :=
  l.flatMap byteLevels

/-- 0.05 ms in bit times of 0.001 ms (R15). -/
def idleBits : Nat := 50

/-- What a receiver holds between two bit times: the bit times since the last start bit began, the data bits of the byte being
received, and the bytes received since the line was last idle. -/
structure LineReader where
  since : Nat
  data  : Option (List Bool)
  bytes : List Byte
  deriving DecidableEq, Repr

/-- The receiver on an idle line. -/
def LineReader.idle : LineReader := ⟨idleBits, none, []⟩

/-- One bit time on the line; the bytes received since the line was last idle are given out when it goes idle again (R15).
The level in the place of a stop bit is not looked at (log 37). -/
def LineReader.bit (level : Bool) (r : LineReader) : LineReader × Option (List Byte) :=
  match r.data with
  | some d =>
    (if d.length < 8 then { r with since := r.since + 1, data := some (d ++ [level]) }
     else ⟨r.since + 1, none, r.bytes ++ [bitsByte d]⟩, none)
  | none =>
    if !level then ({ r with since := 1, data := some [] }, none)
    else if r.since + 1 = idleBits then (LineReader.idle, some r.bytes)
    else ({ r with since := r.since + 1 }, none)

/-- The runs of bytes on a line between its idle periods. -/
def LineReader.read (r : LineReader) : List Bool → List (List Byte)
  | [] => []
  | level :: rest =>
    match (r.bit level).2 with
    | some bytes => bytes :: (r.bit level).1.read rest
    | none => (r.bit level).1.read rest

/-- A byte read back differs from the byte sent: the station drives the line, which is a contention in HOLD (R30). -/
def contended (sent readBack : List Byte) : Bool :=
  (sent.zip readBack).any fun x => x.1 ≠ x.2

/-! ### The CRC (R17) -/

/-- One bit of the shift register, generator x^16+x^12+x^5+1. -/
def crcShift (r : BitVec 16) : BitVec 16 :=
  if r.msb then (r <<< 1) ^^^ 0x1021 else r <<< 1

/-- One byte, most significant bit first. -/
def crcByte (r : BitVec 16) (b : Byte) : BitVec 16 :=
  (List.range 8).foldl (fun x _ => crcShift x) (r ^^^ (b.setWidth 16 <<< 8))

/-- The CRC of a run of bytes, from FFFF hex. -/
def crc16 (l : List Byte) : BitVec 16 :=
  l.foldl crcByte 0xFFFF

/-! ### Frames as bytes (R16) -/

/-- The delimiter. -/
def delimiter : Byte := 0xB7

/-- A frame on the line: delimiter, kind, flags, length, payload, CRC high byte first. -/
def frameBytes (kind : Byte) (turn : Bool) (payload : List Byte) : List Byte :=
  let body := kind :: byteOf turn.toNat :: byteOf payload.length :: payload
  delimiter :: body ++ bytes16 (crc16 body).toNat

/-- The kind code of an outbound frame (2.7). -/
def OutFrame.kindCode : OutFrame → Byte
  | .sync => 0x10
  | .grant => 0x11
  | .envelope _ => 0x12
  | .receipt _ => 0x13
  | .readReply _ => 0x14
  | .notice _ => 0x15

/-- What is sent on the line for a frame being transmitted. -/
def Sending.bytes (x : Sending) : List Byte :=
  frameBytes x.frame.kindCode x.turn x.payload

/-! ### The receiver (R16, R17, R18) -/

/-- What the receiver has made of the bytes between two idle periods. -/
inductive Heard where
  | frame (kind flags : Byte) (payload : List Byte) (crcPasses : Bool)
  | broken
  deriving DecidableEq, Repr

/-- The frame after a delimiter, with the bytes that follow it; none when the line goes idle before it is complete. -/
def frameAfter (l : List Byte) : Option (Heard × List Byte) :=
  match l with
  | kind :: flags :: len :: rest =>
    let n := len.toNat
    if rest.length < n + 2 then none
    else
      let covered := kind :: flags :: len :: rest.take (n + 2)
      some (.frame kind flags (rest.take n) (crc16 covered == 0), rest.drop (n + 2))
  | _ => none

/-- The receiver hunts for the delimiter, takes a frame, and hunts again; at most `fuel` bytes are looked at while hunting. -/
def hunt : Nat → List Byte → List Heard
  | 0, _ => []
  | _ + 1, [] => []
  | fuel + 1, b :: rest =>
    if b = delimiter then
      match frameAfter rest with
      | some (h, after) => h :: hunt fuel after
      | none => [.broken]
    else hunt fuel rest

/-- What a station's bytes between two idle periods hold. -/
def receive (l : List Byte) : List Heard := hunt l.length l

/-- The payload length of a station's STATUS form (2.7). -/
def statusLength : Station → Nat
  | .ride => 2
  | .front | .rear => 3
  | .pack => 5

/-- The first payload byte, 255 when there is none: no target has that code. -/
def firstByte (payload : List Byte) : Nat :=
  match payload with
  | [] => 255
  | b :: _ => b.toNat

/-- The row of a READ: an unknown target stands under READ_TABLE, where it is MALFORMED (R37; log 5). -/
def readCommand (p : Station) (turn : Bool) (payload : List Byte) : Instr :=
  match firstByte payload with
  | 1 => .readEntry p turn payload
  | 2 => .readSnapshot p turn payload
  | 3 => .readEnvelope p turn payload
  | 4 => .readMonitor p turn payload
  | 5 => .readOverflow p turn payload
  | 6 => .readIdent p turn payload
  | _ => .readTable p turn payload

/-- The row of a CONFIG: an unknown target stands under ZONE_RECORD, where it is judged MALFORMED (R178; log 5). -/
def configCommand (p : Station) (turn : Bool) (payload : List Byte) (dcLink : Nat) : Instr :=
  match firstByte payload with
  | 1 => .classRecord p turn payload
  | 2 => .levelRecord p turn payload
  | 3 => .responseRecord p turn payload
  | 4 => .scanRecord p turn payload
  | 5 => .channelsRecord p turn payload
  | 6 => .comparatorRecord p turn payload dcLink
  | 7 => .timingRecord p turn payload
  | 8 => .weightRecord p turn payload
  | _ => .zoneRecord p turn payload

/-- The row of a DISCARD (R70). -/
def discardCommand (p : Station) (turn : Bool) (payload : List Byte) : Instr :=
  if firstByte payload = 1 then .discardAllRetired p turn payload else .discardEntry p turn payload

/-- An intact frame as a command, by its kind code (2.7, R18). -/
def intactCommand (p : Station) (kind : Byte) (turn : Bool) (payload : List Byte) (dcLink : Nat) : Instr :=
  match kind.toNat with
  | 0x20 => if payload.length = 2 then .hello p turn payload else .discardedFrame p (.badLength .hello turn)
  | 0x21 =>
    if payload.length = statusLength p then .status p turn payload else .discardedFrame p (.badLength .status turn)
  | 0x22 => .report p turn payload
  | 0x23 => .snapshot p turn payload
  | 0x24 => if payload.length = 4 then .adopt p turn payload else .discardedFrame p (.badLength .adopt turn)
  | 0x25 => .clear p turn payload
  | 0x26 => readCommand p turn payload
  | 0x27 => configCommand p turn payload dcLink
  | 0x28 => .commit p turn payload
  | 0x29 => discardCommand p turn payload
  | 0x2A => .clearOverflow p turn payload
  | _ => .discardedFrame p (.unknownKind turn)

/-- What the port makes of a complete or broken frame (R18); bits 1 to 7 of the flags are ignored (R16). -/
def commandOf (p : Station) (dcLink : Nat) : Heard → Instr
  | .broken => .brokenFrame p
  | .frame kind flags payload crcPasses =>
    if crcPasses then intactCommand p kind (flags.getLsbD 0) payload dcLink
    else .discardedFrame p .badCrc

/-- The commands that a station's bytes on a link stand for. -/
def commandsOf (p : Station) (dcLink : Nat) (l : List Byte) : List Instr :=
  (receive l).map (commandOf p dcLink)

/-- The commands that the levels on a station's line stand for, as far as the line has gone idle again (R15). -/
def commandsOnLine (p : Station) (dcLink : Nat) (levels : List Bool) : List Instr :=
  (LineReader.idle.read levels).flatMap (commandsOf p dcLink)

end Sys2Proof.Machine
end

