-- ==== Sys2Proof/Safety.lean ====
section
/-!
DEFINITION. What the statements speak of: a frame taken in a turn and its answer, and the conditions on the whole state that
every step is stated to keep.
-/
namespace Sys2Proof.Machine

open Sys2Proof

/-! ### Frames in a turn -/

/-- Port `p` takes a frame from its station: it is in a turn whose window has not expired, and fewer than 16 frames of the
turn have come (R25, R26). -/
def State.takes (s : State) (p : Station) : Prop :=
  (s.port p).state = .turn ∧ (s.port p).turnExpired = false ∧ (s.port p).frames < 16

/-- One more frame of the turn. -/
def State.counted (s : State) (p : Station) : State :=
  s.modPort p fun o => { o with frames := o.frames + 1 }

/-- One more frame of the turn, which a block has answered with a verdict (R26). -/
def State.answered (s : State) (p : Station) (v : Verdict) : State :=
  s.modPort p fun o => { o with frames := o.frames + 1, verdicts := o.verdicts ++ [v] }

/-- Every command that is an intact frame of a known kind, on port `p`, with one TURN flag and one payload. -/
def frameCommands (p : Station) (turn : Bool) (payload : List Byte) (dcLink : Nat) : List Instr :=
  [.hello p turn payload, .status p turn payload, .report p turn payload, .snapshot p turn payload,
    .adopt p turn payload, .clear p turn payload, .discardEntry p turn payload, .discardAllRetired p turn payload,
    .clearOverflow p turn payload, .readTable p turn payload, .readEntry p turn payload, .readSnapshot p turn payload,
    .readEnvelope p turn payload, .readMonitor p turn payload, .readOverflow p turn payload,
    .readIdent p turn payload, .zoneRecord p turn payload, .classRecord p turn payload, .levelRecord p turn payload,
    .responseRecord p turn payload, .scanRecord p turn payload, .channelsRecord p turn payload,
    .comparatorRecord p turn payload dcLink, .timingRecord p turn payload, .weightRecord p turn payload,
    .commit p turn payload]

/-- The CONFIG rows on port `p`, with one TURN flag and one payload. -/
def configCommands (p : Station) (turn : Bool) (payload : List Byte) (dcLink : Nat) : List Instr :=
  [.zoneRecord p turn payload, .classRecord p turn payload, .levelRecord p turn payload,
    .responseRecord p turn payload, .scanRecord p turn payload, .channelsRecord p turn payload,
    .comparatorRecord p turn payload dcLink, .timingRecord p turn payload, .weightRecord p turn payload]

/-- The READ rows on port `p`, each with what its payload parses to. -/
def readCommands (p : Station) (turn : Bool) (payload : List Byte) : List (Instr × Option ReadTarget) :=
  [(.readTable p turn payload, parseReadTable payload), (.readEntry p turn payload, parseReadEntry payload),
    (.readSnapshot p turn payload, parseReadSnapshot payload),
    (.readEnvelope p turn payload, parseReadPlain 3 .envelope payload),
    (.readMonitor p turn payload, parseReadPlain 4 .monitor payload),
    (.readOverflow p turn payload, parseReadPlain 5 .overflow payload),
    (.readIdent p turn payload, parseReadPlain 6 .ident payload)]

/-- An entry but for its root, which every event of the table finds afresh (R103). -/
def Entry.unrooted (e : Entry) : Entry := { e with root := none }

/-- The LATCHED or CONFIRMED state, or SUSPECT, in which an episode of a pair begins (R85, R87). -/
def firstState (k : FaultClass) : EntryState :=
  if immediate k then (if k.latching then .latched else .confirmed) else .suspect

/-- The fault-table record of a pair's first PRESENT report, its root aside (R64, R85, R87). -/
def firstEntry (now : Clock) (k : FaultClass) (z : Zone) (r : QReport) (snapshot : Option (Fin 8)) : Entry :=
  ⟨firstState k, r.zone, r.cls, 1, now, now, r.arrival, 1, SourceSet.single r.source, SourceSet.single r.source, 0, none,
    if immediate k then some (demandOf k z) else none, none, r.detail, snapshot, false,
    if immediate k then .none else .confirm k.confirmWindow⟩

/-- The buffer bound to an applied report has been dealt with (R49, R43): it is the snapshot of entry `holder`, or is freed where
there is none, and an assembly that writes into it goes on without it. -/
structure BufferDealt (r : QReport) (holder : Option (Fin 48)) (s t : State) : Prop where
  bound : ∀ b e, r.buffer = some b → holder = some e → t.buffer b = { s.buffer b with owner := .entry e }
  freed : ∀ b, r.buffer = some b → holder = none → t.buffer b = ⟨.free, none, 0, [], false⟩ ∧
    ∀ p a, (s.buffer b).writer = some p → (s.slot p).assembly = some a → a.buffer = some b →
      t.slot p = ⟨some { a with buffer := none }, (s.slot p).outcome⟩
  spared : ∀ b, r.buffer ≠ some b → t.buffer b = s.buffer b
  slots : ∀ p, (holder = none → ∀ b, r.buffer = some b → (s.buffer b).writer ≠ some p) → t.slot p = s.slot p
  intake : t.intake = { s.intake with slots := t.intake.slots }

/-- The buffers for which `freed` holds have become FREE (R43): an assembly that wrote into one goes on without it (R48), and
every other buffer and long slot is as before. -/
structure BuffersFreed (freed : Fin 8 → Prop) (s t : State) : Prop where
  free : ∀ b, freed b → t.buffer b = ⟨.free, none, 0, [], false⟩
  spared : ∀ b, ¬freed b → t.buffer b = s.buffer b
  detached : ∀ b p a, freed b → (s.buffer b).writer = some p → (s.slot p).assembly = some a → a.buffer = some b →
    t.slot p = ⟨some { a with buffer := none }, (s.slot p).outcome⟩
  slots : ∀ p, (∀ b, freed b → (s.buffer b).writer ≠ some p) → t.slot p = s.slot p
  intake : t.intake = { s.intake with slots := t.intake.slots }

/-! ### What a passage leaves -/

/-- `t` has entered CONFIGURE from `s`, whose ports were all OFFLINE, with the records `c` and the DC link at `mV`
(R177, R20, R125, R132, R152, R160). -/
structure EntersConfigure (s : State) (c : Tables) (topo : Topology) (mV : Nat) (t : State) : Prop where
  state : t.device.state = .configure
  window : t.device.configureWindow = some 2000
  check : t.device.check = .none
  records : t.config = c
  topology : t.device.topology = topo
  clock : t.device.clock = s.device.clock
  wakes : ∀ p, topo.present p = true → t.port p =
    { Port.reset with
      state := .sync, silent := (s.port p).silent, contentions := (s.port p).contentions
      maxFrame := (s.port p).maxFrame, reqPin := (s.port p).reqPin, syncTimer := some 2 }
  sleeps : ∀ p, topo.present p = false → t.port p = s.port p
  generation : t.publication.counter = State.nextGeneration s.publication.counter
  nobody : t.publication.members = ⟨false, false, false, false⟩ ∧ t.publication.complete = true
  envelope : t.ladder.published.limits = Limits.configure topo ∧ t.ladder.published.cause = none ∧
    t.ladder.published.generation = t.publication.counter
  whole : t.ladder.target = t.ladder.published ∧ t.ladder.adopted = t.ladder.published ∧ t.ladder.relax = .idle ∧
    t.ladder.hold = none
  lines : t.lines = ⟨true, true, false, false, 6⟩
  scans : t.monitor.scan = scanItems c ∧ t.monitor.scanTimer = some c.timing.scanPeriod
  comparator : t.monitor.comparator = decide (mV < thresholdMv c.threshold)
  entries : t.faults.entries = s.faults.entries ∧ t.faults.overflow = s.faults.overflow ∧ t.pool = s.pool

/-- `t` has entered RUN from `s` (R181, R126, R32, R54). -/
structure EntersRun (s : State) (t : State) : Prop where
  state : t.device.state = .run
  window : t.device.configureWindow = none
  generation : t.publication.counter = State.nextGeneration s.publication.counter
  whole : t.ladder.published.limits = t.formedTarget ∧ t.ladder.target = t.ladder.published ∧ t.ladder.relax = .idle
  ports : ∀ p, (t.port p).state = (s.port p).state
  lost : ∀ p, (s.port p).state = .sync → (t.cond (linkLostCond p)).asserted = true
  unsent : ∀ k, (t.cond k).unsent = (t.cond k).asserted
  roots : ∀ e, (t.entry e).active = true → (t.entry e).root = rootOf t.config t.faults.entries (t.entry e).zone
  lifecycle : ∀ e, (t.entry e).unrooted = (s.entry e).unrooted

/-- From `s` the Ladder has published an envelope of the six fields `l`, its target being `tgt` (R116, R121, R130, R132). -/
structure Publishes (l tgt : Limits) (s t : State) : Prop where
  limits : t.ladder.published.limits = l
  completed : t.ladder.published.torque = s.config.levels[l.level].torque ∧
    t.ladder.published.speed = s.config.levels[l.level].speed ∧ t.ladder.published.cause = causeOf t.faults ∧
    t.ladder.published.overflow = t.faults.anyCell
  number : t.publication.counter = (if s.publication.counter < 4294967295 then s.publication.counter + 1 else 1) ∧
    t.ladder.published.generation = t.publication.counter
  target : t.ladder.target.limits = tgt
  reached : tgt = l → t.ladder.relax = .idle ∧ t.ladder.hold = none
  looser : tgt ≠ l → t.ladder.relax = .holding ∧ t.ladder.hold = some s.config.timing.relaxHold
  members : ∀ p, t.publication.members.get p = (s.port p).inExchange
  placed : ∀ p, (s.port p).inExchange = true → (t.port p).envelope = some t.ladder.published ∧
    (t.port p).grantDue = true ∧ (t.adoption p).owing = true ∧ (t.adoption p).window = .idle ∧ (t.adoption p).timer = none
  spared : ∀ p, (s.port p).inExchange = false → (t.adoption p).owing = false

/-- The Ladder, whose target is `tgt` now, has published nothing: its relax state follows R121. -/
structure Waits (tgt : Limits) (s t : State) : Prop where
  published : t.ladder.published = s.ladder.published ∧ t.publication = s.publication
  target : t.ladder.target.limits = tgt
  reached : tgt = s.ladder.published.limits → t.ladder.relax = .idle ∧ t.ladder.hold = none
  moved : tgt ≠ s.ladder.published.limits → tgt ≠ s.ladder.target.limits →
    t.ladder.relax = .holding ∧ t.ladder.hold = some s.config.timing.relaxHold
  kept : tgt ≠ s.ladder.published.limits → tgt = s.ladder.target.limits →
    t.ladder.relax = s.ladder.relax ∧ t.ladder.hold = s.ladder.hold

/-- What follows an event that the Fault Table takes in RUN, from `s` to `t`: the roots (R103), high water (R79), the notice
timers (R78), and what the Ladder makes of it (R117, R119). How the event's notice change is found is log 19, and that the
roots are found for every active entry log 18. -/
structure TableSettles (s t : State) : Prop where
  roots : ∀ e, (t.entry e).root =
    if (t.entry e).active then rootOf t.config t.faults.entries (t.entry e).zone else none
  high : s.faults.activeCount < 40 → 40 ≤ t.faults.activeCount → t.faults.highWater = true ∧
    t.faults.noticeDelay = none ∧ t.faults.absoluteDelay = none ∧
    ((s.port .ride).inExchange = true → (t.port .ride).notice = true)
  changed : 40 ≤ s.faults.activeCount ∨ t.faults.activeCount < 40 →
    (∃ e, (t.entry e).state ≠ (s.entry e).state) ∨ t.faults.cellCount ≠ s.faults.cellCount →
    t.faults.noticeDelay = some 20 ∧ t.faults.absoluteDelay = some (s.faults.absoluteDelay.getD 100) ∧
    t.faults.highWater = s.faults.highWater
  quiet : (∀ e, (t.entry e).state = (s.entry e).state) → t.faults.cellCount = s.faults.cellCount →
    t.faults.noticeDelay = s.faults.noticeDelay ∧ t.faults.absoluteDelay = s.faults.absoluteDelay ∧
    t.faults.highWater = s.faults.highWater
  tightened : (∃ e, (t.entry e).contributing ≠ (s.entry e).contributing) ∨ t.faults.anyCell ≠ s.faults.anyCell →
    t.formedTarget.someStricter s.ladder.published.limits = true →
    Publishes (s.ladder.published.limits.stricter t.formedTarget).escalate t.formedTarget s t
  waited : (∃ e, (t.entry e).contributing ≠ (s.entry e).contributing) ∨ t.faults.anyCell ≠ s.faults.anyCell →
    t.formedTarget.someStricter s.ladder.published.limits = false → Waits t.formedTarget s t
  untold : (∀ e, (t.entry e).contributing = (s.entry e).contributing) → t.faults.anyCell = s.faults.anyCell →
    t.ladder = s.ladder ∧ t.publication = s.publication

/-! ### Scans -/

/-- The records still ask for a sample of a scan (R149, R152). -/
def asked (c : Tables) (j : ScanItem) : Prop :=
  (∃ ch, j = .alone ch ∧ c.enable[ch] = true) ∨
    ∃ k ch, j = .slot k ch ∧ c.scan[k].used = true ∧ c.scan[k].channel = ch ∧ c.enable[ch] = true

/-- What a scan in progress is once the records are `c` (R149, R156; log 15): the sample being taken is lost where its channel is
not in the enable set, and is its channel's own where its slot has left the channel; of those to come the ones that the records
ask for are left, and none is added. -/
structure ScanGoesOn (c : Tables) (old new : List ScanItem) : Prop where
  ended : old = [] → new = []
  lost : ∀ i rest ch, old = i :: rest →
    i = .lost ch ∨ (c.enable[ch] = false ∧ (i = .alone ch ∨ ∃ k, i = .slot k ch)) → new.head? = some (.lost ch)
  alone : ∀ ch rest, old = .alone ch :: rest → c.enable[ch] = true → new.head? = some (.alone ch)
  slot : ∀ k ch rest, old = .slot k ch :: rest → c.enable[ch] = true →
    new.head? = some (if c.scan[k].used = true ∧ c.scan[k].channel = ch then .slot k ch else .alone ch)
  rest : ∀ i rest, old = i :: rest → ∀ j, j ∈ new.tail ↔ j ∈ rest ∧ asked c j

/-! ### Motion -/

/-- A live station's speed lets the vehicle count as still (R167). -/
def stopped (live : Bool) (speed : Option Nat) : Prop :=
  live = true → ∃ v, speed = some v ∧ v < 10

/-- The three fields of the mismatch detector (R170). -/
def Motion.detector (m : Motion) : MismatchState × Option Axle × Timer :=
  (m.mismatch, m.mismatchAxle, m.mismatchTimer)

/-- The table of R170, for a moment classed from the live speeds of `new`. -/
structure DetectorMoves (limit : Nat) (old new : Motion) : Prop where
  out : ∀ f r, new.liveFront = true → new.liveRear = true → new.speedFront = some f → new.speedRear = some r →
    limit < max f r - min f r → 50 ≤ max f r →
    let slower := if f < r then Axle.front else .rear
    (old.mismatch = .quiet → new.detector = (.arming, some slower, some 300)) ∧
    (old.mismatch = .arming → old.mismatchAxle = some slower → new.detector = old.detector) ∧
    (old.mismatch = .arming → old.mismatchAxle ≠ some slower → new.detector = (.arming, some slower, some 300)) ∧
    (old.mismatch = .asserted → new.detector = old.detector) ∧
    (old.mismatch = .settling → new.detector = (.asserted, old.mismatchAxle, none))
  inside : ∀ f r, new.liveFront = true → new.liveRear = true → new.speedFront = some f → new.speedRear = some r →
    max f r - min f r ≤ limit ∨ max f r < 50 →
    (old.mismatch = .quiet ∨ old.mismatch = .settling → new.detector = old.detector) ∧
    (old.mismatch = .arming → new.detector = (.quiet, none, none)) ∧
    (old.mismatch = .asserted → new.detector = (.settling, old.mismatchAxle, some 300))
  blind : new.liveFront = false ∨ new.liveRear = false ∨ new.speedFront = none ∨ new.speedRear = none →
    (old.mismatch = .quiet → new.detector = old.detector) ∧
    (old.mismatch ≠ .quiet → new.detector = (.quiet, none, none))

/-- What Motion makes of its speeds and liveness, which have gone from those of `old` to those of `new` (R166 to R168, R170):
the vehicle speed, still, PARKED, the parked hold, and the mismatch detector where one of them has changed (log 20). -/
structure MotionSettles (topo : Topology) (k : Timing) (old new : Motion) : Prop where
  vehicle : new.vehicleSpeed = max (if new.liveFront then new.speedFront.getD 0 else 0)
    (if new.liveRear then new.speedRear.getD 0 else 0)
  still : new.still = true ↔ (new.liveFront = true ∨ new.liveRear = true) ∧ stopped new.liveFront new.speedFront ∧
    stopped new.liveRear new.speedRear
  moves : new.still = false → new.parked = false ∧ new.parkedHold = none
  stays : new.still = true → old.parked = true → new.parked = true ∧ new.parkedHold = old.parkedHold
  starts : new.still = true → old.parked = false →
    old.still = false ∨ (new.liveFront = true ∧ old.liveFront = false) ∨ (new.liveRear = true ∧ old.liveRear = false) →
    new.parked = false ∧ new.parkedHold = some k.parkedHold
  runs : new.still = true → old.parked = false → old.still = true → (new.liveFront = true → old.liveFront = true) →
    (new.liveRear = true → old.liveRear = true) → new.parked = false ∧ new.parkedHold = old.parkedHold
  detects : topo = .dual ∨ topo = .dualUnsupervised → new.speedFront ≠ old.speedFront ∨ new.speedRear ≠ old.speedRear ∨
    new.liveFront ≠ old.liveFront ∨ new.liveRear ≠ old.liveRear → DetectorMoves k.mismatchLimit old new
  alone : topo = .rearOnly ∨ topo = .frontOnly → new.detector = old.detector

/-- Motion has settled, its mismatch condition is withdrawn with the assertion, and a change of PARKED has been reported to the
Ladder and the Fault Table (R169, R170). -/
structure MotionTold (s t : State) : Prop where
  settles : MotionSettles s.device.topology s.config.timing s.motion t.motion
  withdrawn : ∀ a, s.motion.mismatchAxle = some a → s.motion.mismatch = .asserted ∨ s.motion.mismatch = .settling →
    t.motion.mismatch = .quiet → (t.cond (mismatchCond a)).asserted = false
  told : t.motion.parked ≠ s.motion.parked → t.ladder.parked = t.motion.parked ∧ t.faults.parked = t.motion.parked
  untold : t.motion.parked = s.motion.parked → t.ladder = s.ladder ∧ t.faults = s.faults ∧ t.publication = s.publication

/-! ### CONFIG records (R179) -/

/-- The fields of a ZONE record of index `i` are in range. -/
def zoneInRange (i : Nat) : List Byte → Prop
  | [v, pa, rs, ow, ax, ll, la] => v.toNat ≤ 1 ∧ (pa.toNat = 255 ∨ (pa.toNat < 16 ∧ pa.toNat ≠ i)) ∧ rs.toNat < 32 ∧
      ow.toNat ≤ 3 ∧ ax.toNat ≤ 3 ∧ ll.toNat ≤ 5 ∧ la.toNat ≤ 2
  | _ => False

/-- The fields of a RESPONSE record are in range. -/
def responseInRange : List Byte → Prop
  | [k, l, a, r, c, pk] => k.toNat ≤ 1 ∧ l.toNat ≤ 5 ∧ a.toNat ≤ 2 ∧ r.toNat ≤ 1 ∧ c.toNat ≤ 100 ∧ pk.toNat ≤ 2
  | _ => False

/-- The fields of a CLASS record are in range, and a confirm window of 0 goes with a confirm count of 1. -/
def classInRange : List Byte → Prop
  | a :: n :: w1 :: w0 :: la :: pr :: h1 :: h0 :: response => a.toNat ≤ 1 ∧ 1 ≤ n.toNat ∧ n.toNat ≤ 15 ∧
      256 * w1.toNat + w0.toNat ≤ 60000 ∧ la.toNat ≤ 1 ∧ pr.toNat ≤ 1 ∧ 256 * h1.toNat + h0.toNat ≤ 60000 ∧
      responseInRange response ∧ (w1.toNat = 0 → w0.toNat = 0 → n.toNat = 1)
  | _ => False

/-- The fields of a LEVEL record of index `i` are in range. -/
def levelInRange (i : Nat) : List Byte → Prop
  | [l] => i = 6 ∧ l.toNat ≤ 5
  | [t, _] => i < 6 ∧ t.toNat ≤ 100
  | _ => False

/-- The fields of a SCAN record are in range, and the high limit is not below the low one. -/
def scanInRange : List Byte → Prop
  | [u, ch, l1, l0, h1, h0, z, c, ac, rc] => u.toNat ≤ 1 ∧ ch.toNat ≤ 6 ∧ 256 * l1.toNat + l0.toNat ≤ 4095 ∧
      256 * h1.toNat + h0.toNat ≤ 4095 ∧ 256 * l1.toNat + l0.toNat ≤ 256 * h1.toNat + h0.toNat ∧ z.toNat ≤ 15 ∧
      c.toNat ≤ 31 ∧ 1 ≤ ac.toNat ∧ ac.toNat ≤ 8 ∧ 1 ≤ rc.toNat ∧ rc.toNat ≤ 8
  | _ => False

/-- The fields of a TIMING record are in range. -/
def timingInRange : List Byte → Prop
  | [hb, tw, r1, r0, aw, sp, p1, p0, sl, ml] => 5 ≤ hb.toNat ∧ hb.toNat ≤ 50 ∧ 1 ≤ tw.toNat ∧ tw.toNat ≤ 8 ∧
      500 ≤ 256 * r1.toNat + r0.toNat ∧ 256 * r1.toNat + r0.toNat ≤ 30000 ∧ 5 ≤ aw.toNat ∧ aw.toNat ≤ 100 ∧
      1 ≤ sp.toNat ∧ sp.toNat ≤ 100 ∧ 200 ≤ 256 * p1.toNat + p0.toNat ∧ 256 * p1.toNat + p0.toNat ≤ 5000 ∧
      2 ≤ sl.toNat ∧ sl.toNat ≤ 8 ∧ 10 ≤ ml.toNat ∧ ml.toNat ≤ 200
  | _ => False

/-- The fields of a WEIGHT record are in range. -/
def weightInRange (record : List Byte) : Prop :=
  record.length = 5 ∧ ∀ b ∈ record, 1 ≤ b.toNat ∧ b.toNat ≤ 8

/-- The nine targets of CONFIG: the code, the row, the record length of each index that the target has, and whether the fields
of a record of that index are in range (R179). -/
def configTargets (p : Station) (payload : List Byte) (dcLink : Nat) :
    List (Nat × Instr × (Nat → Option Nat) × (Nat → List Byte → Prop)) :=
  let upTo (n len : Nat) : Nat → Option Nat := fun i => if i < n then some len else none
  [(0, .zoneRecord p false payload, upTo 16 7, zoneInRange),
    (1, .classRecord p false payload, upTo 32 14, fun _ => classInRange),
    (2, .levelRecord p false payload, fun i => if i < 6 then some 2 else if i = 6 then some 1 else none, levelInRange),
    (3, .responseRecord p false payload, upTo 32 6, fun _ => responseInRange),
    (4, .scanRecord p false payload, upTo 8 10, fun _ => scanInRange),
    (5, .channelsRecord p false payload, upTo 1 1, fun _ record => ∀ b ∈ record, b.toNat < 128),
    (6, .comparatorRecord p false payload dcLink, upTo 1 1, fun _ record => ∀ b ∈ record, b.toNat ≤ 7),
    (7, .timingRecord p false payload, upTo 1 10, fun _ => timingInRange),
    (8, .weightRecord p false payload, upTo 1 5, fun _ => weightInRange)]

/-- The record of target `code` and index `i` is fixed: zone 15, class 21 and its response, and the response of an unassigned
class (check 4 of R178). -/
def State.fixedRecord (s : State) (code i : Nat) : Prop :=
  (code = 0 ∧ i = 15) ∨ (code = 1 ∧ i = 21) ∨
    (code = 3 ∧ (i = 21 ∨ ∃ k : Fin 32, i = k.val ∧ (s.classOf k).assigned = false))

/-- The response that six bytes of a record stand for. -/
def storesResponse (k l a r c pk : Byte) (x : Response) : Prop :=
  (k.toNat = 0 → x = .zoneLoss) ∧
    (k.toNat = 1 → ∃ o : OwnResponse, x = .own o ∧ o.level.val = l.toNat ∧ axleActionCode o.action = a.toNat ∧
      o.regenInhibit = decide (r.toNat = 1) ∧ o.packCeiling = c.toNat ∧ packActionCode o.packAction = pk.toNat)

/-! ### Conditions on the state -/

/-- In RUN every active entry has the root R102 gives it, and every other entry has none (R82, R103; log 18). -/
def RootsHold (s : State) : Prop :=
  s.device.state = .run →
    ∀ e, (s.entry e).root = if (s.entry e).active then rootOf s.config s.faults.entries (s.entry e).zone else none

/-- The hard lines follow the device state and the in-force envelope (R127, R128). -/
def LinesFollow (s : State) : Prop :=
  (s.device.state = .reset ∨ s.device.state = .standby → s.lines = ⟨true, true, true, true, 7⟩) ∧
    (s.device.state = .configure ∨ s.device.state = .run →
      (s.lines.cutFront = true ↔ s.ladder.inForce.limits.front = .cut ∨ s.ladder.inForce.limits.front = .absent) ∧
      (s.lines.cutRear = true ↔ s.ladder.inForce.limits.rear = .cut ∨ s.ladder.inForce.limits.rear = .absent) ∧
      (s.lines.regenBlock = true ↔ s.ladder.inForce.limits.regenPermitted = false) ∧
      (s.lines.cutPack = true ↔ s.ladder.inForce.limits.packOpen = true)) ∧
    (s.device.state = .configure → s.lines.limp = 6) ∧
    (s.device.state = .run → s.lines.limp.val = s.ladder.inForce.limits.level.val)

/-- The in-force envelope is field by field the stricter of the published and the last fully adopted one (R118). -/
def InForceIsStricter (s : State) : Prop :=
  s.ladder.inForce.limits = s.ladder.published.limits.stricter s.ladder.adopted.limits

/-- Zone record 15 and class slot 21 hold their fixed values (R8, R14). -/
def FixedRecordsHold (s : State) : Prop :=
  s.config.zones[15] = zoneTable[15] ∧ s.config.classes[21] = classDefaults[21]

/-- The configure window runs in CONFIGURE only (R177, R181, R184). -/
def WindowInConfigure (s : State) : Prop :=
  s.device.configureWindow.isSome = true → s.device.state = .configure

/-- No short queue holds more than 8 reports (R41). -/
def QueuesFit (s : State) : Prop :=
  ∀ q, (s.queue q).length ≤ 8

/-- The reports waiting in the short queues and the one being applied. -/
def State.reports (s : State) : List QReport :=
  s.queue .ride ++ s.queue .front ++ s.queue .rear ++ s.queue .pack ++ s.queue .self ++ s.faults.applying.toList

/-- Buffers and their owners name each other (R42, R43, R49): an entry's snapshot is the buffer that it owns, a FREE entry has
none, a PENDING buffer is bound to one report, and no other buffer is bound to any. -/
def BuffersOwned (s : State) : Prop :=
  (∀ e b, (s.entry e).snapshot = some b ↔ (s.buffer b).owner = .entry e) ∧
    (∀ e, (s.entry e).state = .free → (s.entry e).snapshot = none) ∧
    ∀ b, s.reports.countP (fun r => r.buffer == some b) = match (s.buffer b).owner with
      | .pending _ => 1
      | .free | .entry _ => 0

/-- The published generation is a 32-bit number, and no port's adopted generation exceeds it (R130, R133). -/
def GenerationsFit (s : State) : Prop :=
  s.publication.counter ≤ 4294967295 ∧ ∀ p, (s.adoption p).adopted ≤ s.publication.counter

/-- A port that owes is a member, and the completion flag is complete exactly when no port owes (R131, R133). -/
def CompletionAgrees (s : State) : Prop :=
  (∀ p, (s.adoption p).owing = true → s.publication.members.get p = true) ∧
    (s.publication.complete = true ↔ ∀ p, (s.adoption p).owing = false)

/-- The Ladder and the Fault Table hold the PARKED state of Motion (R99, R118, R169). -/
def ParkedAgrees (s : State) : Prop :=
  s.ladder.parked = s.motion.parked ∧ s.faults.parked = s.motion.parked

/-- The published level is not below L4 while no axle of the published envelope drives (R114). -/
def AxleLossHolds (s : State) : Prop :=
  s.ladder.published.limits.front ≠ .drive → s.ladder.published.limits.rear ≠ .drive →
    4 ≤ s.ladder.published.limits.level.val

/-- Every port is OFFLINE in RESET and STANDBY, and the port of an absent station is OFFLINE in every state (R19, R4). -/
def PortsFollow (s : State) : Prop :=
  (s.device.state = .reset ∨ s.device.state = .standby → ∀ p, (s.port p).state = .offline) ∧
    ∀ p, s.device.topology.present p = false → (s.port p).state = .offline

/-- Each port holds a STATUS of its own station's form only (R36). -/
def StatusFormsHold (s : State) : Prop :=
  (∀ x, s.ports.ride.status = some x → ∃ throttle brake, x = .ride throttle brake) ∧
    (∀ x, s.ports.front.status = some x → ∃ speed temperature, x = .inverter speed temperature) ∧
    (∀ x, s.ports.rear.status = some x → ∃ speed temperature, x = .inverter speed temperature) ∧
    ∀ x, s.ports.pack.status = some x → ∃ voltage current charge, x = .pack voltage current charge

/-- In RUN the target is the one that the demands in force ask for now, and it is stricter than the published envelope in no
field (R117, R119). -/
def DemandsCovered (s : State) : Prop :=
  s.device.state = .run →
    s.ladder.target.limits = s.formedTarget ∧ s.ladder.target.limits.someStricter s.ladder.published.limits = false

/-- No two entries other than FREE hold one pair, and a FREE entry's timer is none (R59, R61). -/
def PairsDistinct (s : State) : Prop :=
  (∀ i j, (s.entry i).state ≠ .free → (s.entry j).state ≠ .free → (s.entry i).zone = (s.entry j).zone →
    (s.entry i).cls = (s.entry j).cls → i = j) ∧
    ∀ i, (s.entry i).state = .free → (s.entry i).timer = .none

/-- Every buffer holds at most its 240 bytes, a FREE one holds none and has no writer; an open assembly has received no more
than it expects; and a buffer's writer is the port whose open assembly writes into it, with as many bytes (R42, R44). -/
def SnapshotsFit (s : State) : Prop :=
  (∀ b, (s.buffer b).data.length ≤ 240) ∧
    (∀ b, (s.buffer b).owner = .free → (s.buffer b).data = [] ∧ (s.buffer b).writer = none) ∧
    (∀ p a, (s.slot p).assembly = some a → a.received ≤ a.expected ∧ a.expected ≤ 240 ∧
      ∀ b, a.buffer = some b → (s.buffer b).writer = some p ∧ (s.buffer b).data.length = a.received) ∧
    ∀ b p, (s.buffer b).writer = some p → ∃ a, (s.slot p).assembly = some a ∧ a.buffer = some b

end Sys2Proof.Machine
end

