-- ==== Sys2Proof/Certificates/Slice0/Obligations.lean ====
section
/-!
DEFINITION. The statements for the provers, in the order of OBLIGATIONS.json.
-/
open Sys2Proof Sys2Proof.Machine

/-! ### The step and the queue -/

/-- A step of a state with a command at the front of its queue runs that command on the queue's rest. -/
def Obligations.StepRunsTheFrontCommand : Prop :=
  ∀ (c : Instr) (rest : List Instr) (s : State),
    s.pending = c :: rest → step s = exec c { s with pending := rest }

/-- With no command waiting a step is one millisecond: the model's choice, log 1, and in RESET nothing moves, log 27. -/
def Obligations.IdleStepIsOneMillisecond : Prop :=
  ∀ s : State, s.pending = [] →
    (s.device.state = .reset → step s = .next s) ∧
      (s.device.state ≠ .reset → ∃ t, step s = .next t ∧
        t.device = { s.device with
          clock := s.device.clock + 1
          debounce := s.device.debounce.map (· - 1)
          configureWindow := s.device.configureWindow.map (· - 1) } ∧
        (∀ p, t.port p = { s.port p with
          heartbeat := (s.port p).heartbeat.map (· - 1)
          turnWindow := (s.port p).turnWindow.map (· - 1)
          recoverQuiet := (s.port p).recoverQuiet.map (· - 1)
          syncTimer := (s.port p).syncTimer.map (· - 1) }) ∧
        (∀ p, t.slot p = { s.slot p with
          assembly := (s.slot p).assembly.map fun a => { a with window := a.window - 1 } }) ∧
        (∀ e, t.entry e = { s.entry e with
          timer := match (s.entry e).timer with
            | .none => .none
            | .confirm n => .confirm (n - 1)
            | .heal n => .heal (n - 1) }) ∧
        (∀ p, t.adoption p = { s.adoption p with timer := (s.adoption p).timer.map (· - 1) }) ∧
        t.faults = { s.faults with
          entries := t.faults.entries
          noticeDelay := s.faults.noticeDelay.map (· - 1)
          absoluteDelay := s.faults.absoluteDelay.map (· - 1) } ∧
        t.ladder = { s.ladder with hold := s.ladder.hold.map (· - 1) } ∧
        t.monitor = { s.monitor with scanTimer := s.monitor.scanTimer.map (· - 1) } ∧
        t.motion = { s.motion with
          parkedHold := s.motion.parkedHold.map (· - 1)
          mismatchTimer := s.motion.mismatchTimer.map (· - 1) } ∧
        t.publication = { s.publication with records := t.publication.records } ∧
        t.intake = { s.intake with slots := t.intake.slots } ∧
        t.config = s.config ∧ t.pool = s.pool ∧ t.lines = s.lines ∧ t.pending = [])

/-- No command faults or is refused, and none touches the queue (log 33). -/
def Obligations.EveryCommandCompletes : Prop :=
  ∀ (c : Instr) (s : State), ∃ t, exec c s = .next t ∧ t.pending = s.pending

/-! ### Reset, the key and the configure window -/

/-- POWER_ON and RESET_N_LOW, in any state, bring every block to its power-on values. That the pins and the queue are kept is
the model's choice, log 8. -/
def Obligations.ResetAbandonsEverything : Prop :=
  (∀ s : State,
    exec .powerOn s = .next { State.reset with
      device := { Device.reset with resetN := s.device.resetN, settled := false, keyPin := s.device.keyPin }
      ports := PerStation.tabulate fun p => { Port.reset with reqPin := (s.port p).reqPin }
      pending := s.pending } ∧
    exec .resetNLow s = .next { State.reset with
      device := { Device.reset with resetN := false, settled := s.device.settled, keyPin := s.device.keyPin }
      ports := PerStation.tabulate fun p => { Port.reset with reqPin := (s.port p).reqPin }
      pending := s.pending }) ∧
  let s := State.reset
  s.device.state = .reset ∧ s.device.clock = 0 ∧
    (∀ p, (s.port p).state = .offline ∧ (s.port p).silent = 0 ∧ (s.port p).contentions = 0 ∧ (s.port p).discards = 0 ∧
      (s.port p).envelope = none ∧ (s.port p).receipts = [] ∧ (s.port p).replies = [] ∧ (s.port p).notice = false ∧
      (s.port p).maxFrame = none ∧ (s.port p).reqSample = false ∧ (s.port p).grantDue = false ∧
      (s.port p).heartbeat = none ∧ (s.port p).turnWindow = none ∧ (s.port p).recoverQuiet = none ∧
      (s.port p).status = none) ∧
    (∀ q, s.queue q = []) ∧ (∀ p, s.slot p = ⟨none, .none⟩) ∧ (∀ k, (s.cond k).asserted = false) ∧
    s.intake.current = none ∧ s.intake.allowance = 0 ∧ s.intake.rotation = .ride ∧
    (∀ b, (s.buffer b).owner = .free ∧ (s.buffer b).data = [] ∧ (s.buffer b).complete = false) ∧
    (∀ e, s.entry e = ⟨.free, 0, 0, 0, 0, 0, 0, 0, SourceSet.empty, SourceSet.empty, 0, none, none, none, none, none, false,
      .none⟩) ∧
    s.faults.cellCount = 0 ∧ s.faults.noticeDelay = none ∧ s.faults.absoluteDelay = none ∧ s.faults.highWater = false ∧
    s.faults.parked = false ∧
    s.ladder.published.generation = 0 ∧ s.ladder.published.limits.level = 5 ∧ s.ladder.published.limits.packOpen = true ∧
    s.ladder.published.limits.packCeiling = 0 ∧ s.ladder.published.limits.regenPermitted = false ∧
    s.ladder.target = s.ladder.published ∧ s.ladder.adopted = s.ladder.published ∧
    s.ladder.inForce = s.ladder.published ∧ s.ladder.relax = .idle ∧ s.ladder.hold = none ∧
    s.lines = ⟨true, true, true, true, 7⟩ ∧
    s.publication.counter = 0 ∧ s.publication.members = ⟨false, false, false, false⟩ ∧ s.publication.complete = true ∧
    (∀ p, (s.adoption p).adopted = 0 ∧ (s.adoption p).owing = false ∧ (s.adoption p).window = .idle ∧
      (s.adoption p).timer = none ∧ (s.adoption p).unresponsive = false) ∧
    (∀ c : Fin 7, s.monitor.latest[c] = none) ∧ s.monitor.comparator = false ∧
    s.motion = ⟨none, none, false, false, 0, false, false, none, .quiet, none, none⟩

/-- RESET_END with KEY low, for each setting of the straps; outside RESET the command cannot arise (log 13). -/
def Obligations.ResetEndWithKeyLowEntersStandby : Prop :=
  ∀ (topo1 topo0 : Bool) (mV : Nat) (s : State),
    let t : Topology := match topo1, topo0 with
      | false, false => .rearOnly
      | false, true => .frontOnly
      | true, false => .dual
      | true, true => .dualUnsupervised
    (s.device.state = .reset → exec (.resetEnd topo1 topo0 false mV) s = .next { s with
      device := { s.device with
        resetN := true, settled := true, topology := t, keyPin := false, keyLevel := false, state := .standby }
      config := topologyDefaults t
      ladder := { Ladder.reset t with parked := s.ladder.parked }
      monitor := Monitor.reset (topologyDefaults t) }) ∧
    (s.device.state ≠ .reset → ∀ key, exec (.resetEnd topo1 topo0 key mV) s = .next s)

/-- RESET_END with KEY high, and key-on in STANDBY. -/
def Obligations.KeyHighEntersConfigure : Prop :=
  ∀ (s : State) (mV : Nat), (∀ p, (s.port p).state = .offline) →
    (∀ topo1 topo0, s.device.state = .reset → ∃ t, exec (.resetEnd topo1 topo0 true mV) s = .next t ∧
      EntersConfigure s (topologyDefaults (Topology.ofStraps topo1 topo0)) (Topology.ofStraps topo1 topo0) mV t ∧
      t.device.keyLevel = true) ∧
    (s.device.state = .standby → s.device.debounce.isSome = true → s.device.keyPin = true →
      ∃ t, exec (.keyDebounceExpiry mV) s = .next t ∧ EntersConfigure s s.config s.device.topology mV t ∧
        t.device.keyLevel = true ∧ t.device.debounce = none)

/-- KEY_PIN_CHANGE: the debounce timer starts, runs on, or stops; in RESET the pin is not watched. -/
def Obligations.KeyPinDrivesTheDebounceTimer : Prop :=
  ∀ (level : Bool) (s : State), exec (.keyPinChange level) s = .next { s with
    device := { s.device with
      keyPin := level
      debounce :=
        if s.device.state = .reset then none
        else if level = s.device.keyLevel then none
        else some (s.device.debounce.getD 50) } }

/-- Key-off in CONFIGURE or RUN: a report in application is applied first, and then every block is purged. The order within the
passage is the model's choice, log 14. -/
def Obligations.KeyOffPurgesEveryBlock : Prop :=
  ∀ (s : State) (mV : Nat), s.device.state = .configure ∨ s.device.state = .run → s.device.debounce.isSome = true →
    s.device.keyPin = false → ParkedAgrees s → SnapshotsFit s → BuffersOwned s →
    (∀ r, s.faults.applying = some r → (s.applyReport r).faults.applying = none ∧
      exec (.keyDebounceExpiry mV) s = exec (.keyDebounceExpiry mV) (s.applyReport r)) ∧
    (s.faults.applying = none → ∃ t, exec (.keyDebounceExpiry mV) s = .next t ∧
      t.device = { s.device with state := .standby, keyLevel := false, debounce := none, configureWindow := none } ∧
      t.config = s.config ∧ t.lines = ⟨true, true, true, true, 7⟩ ∧ t.motion = Motion.reset ∧
      (∀ p, (t.port p).state = .offline) ∧
      (∀ p, (s.port p).state ≠ .offline → t.port p = { Port.reset with reqPin := (s.port p).reqPin }) ∧
      (∀ q, t.queue q = []) ∧
      (∀ p, (s.slot p).assembly = none → t.slot p = s.slot p) ∧
      (∀ p a, (s.slot p).assembly = some a →
        t.slot p = ⟨none, if a.buffer.isSome then .truncated else .dropped⟩) ∧
      (∀ k, t.cond k = ⟨false, (s.cond k).detail, false⟩) ∧
      t.intake.current = none ∧ t.intake.allowance = 0 ∧ t.intake.rotation = .ride ∧
      (∀ e, (s.entry e).state ≠ .latched → t.entry e = Entry.free) ∧
      (∀ e, (s.entry e).state = .latched → (∀ b, (s.entry e).snapshot = some b → (s.buffer b).writer = none) →
        t.entry e = { s.entry e with present := SourceSet.empty, root := none, timer := .none } ∧
        ∀ b, (s.entry e).snapshot = some b → t.buffer b = s.buffer b) ∧
      (∀ e b p, (s.entry e).state = .latched → (s.entry e).snapshot = some b → (s.buffer b).writer = some p →
        t.entry e = { s.entry e with
          present := SourceSet.empty, root := none, timer := .none, snapshot := none, snapshotLost := true }) ∧
      (∀ b, (s.buffer b).owner = .free → t.buffer b = s.buffer b) ∧
      (∀ b, (s.buffer b).owner ≠ .free →
        (∀ e, (s.buffer b).owner = .entry e → (s.entry e).state = .latched → (s.buffer b).writer ≠ none) →
        t.buffer b = ⟨.free, none, 0, [], false⟩) ∧
      t.faults.cellCount = 0 ∧ t.faults.noticeDelay = none ∧ t.faults.absoluteDelay = none ∧
      t.faults.highWater = false ∧ t.faults.parked = false ∧
      t.publication.counter = State.nextGeneration s.publication.counter ∧
      t.publication.members = ⟨false, false, false, false⟩ ∧ t.publication.complete = true ∧
      (∀ p, (t.adoption p).owing = false ∧ (t.adoption p).window = .idle ∧ (t.adoption p).timer = none ∧
        (t.adoption p).unresponsive = false) ∧
      t.ladder.published.limits = Limits.closed s.device.topology ∧
      t.ladder.target = t.ladder.published ∧ t.ladder.adopted = t.ladder.published ∧ t.ladder.relax = .idle ∧
      t.ladder.hold = none ∧ t.ladder.parked = false ∧
      (∀ c : Fin 7, t.monitor.latest[c] = none) ∧ t.monitor.comparator = false ∧ t.monitor.scan = [] ∧
      t.monitor.scanTimer = none ∧
      ∀ k, t.filter k = ⟨if (s.filter k).state = .asserted then .clear else (s.filter k).state, 0, 0⟩)

/-- The configure window expires: the checks, the defaults when one fails with what the Self Monitor makes of them, RUN, and
CONFIG_INCOMPLETE with its detail. What a scan in progress and the scan timer go on with under the defaults are the model's
readings, logs 15 and 25. -/
def Obligations.ConfigureWindowExpiryEntersRun : Prop :=
  ∀ (s : State) (mV : Nat), s.device.state = .configure → s.device.configureWindow.isSome = true →
    (s.cond 23).asserted = false →
    ∃ t, exec (.configureWindowExpiry mV) s = .next t ∧ EntersRun s t ∧
      (t.cond 23).asserted = true ∧ (t.cond 23).unsent = true ∧
      (t.cond 23).detail = some (BitVec.ofNat 16 ((firstFailed s.device.topology s.config).getD 0)) ∧
      (firstFailed s.device.topology s.config = none →
        t.config = s.config ∧ t.device.check = .passed ∧ t.device.way = .expiryPassed ∧ t.monitor = s.monitor) ∧
      (∀ n, firstFailed s.device.topology s.config = some n →
        t.config = topologyDefaults s.device.topology ∧ t.device.check = .failed n ∧ t.device.way = .expiryDefaults ∧
        ScanGoesOn t.config s.monitor.scan t.monitor.scan ∧
        (∀ c : Fin 7, t.monitor.latest[c] = (if t.config.enable[c] then s.monitor.latest[c] else none)) ∧
        (∀ k : Fin 8, t.filter k = ⟨if t.config.scan[k].used then
            (if t.config.enable[t.config.scan[k].channel] then .clear else .idle) else .unused, 0, 0⟩ ∧
          t.cond (slotCond k) = ⟨false, (s.cond (slotCond k)).detail, false⟩) ∧
        t.monitor.scanTimer = s.monitor.scanTimer.map (fun left =>
          t.config.timing.scanPeriod - (s.config.timing.scanPeriod - left)) ∧
        let under := if s.monitor.comparator then decide (mV ≤ 1000 * (38 + 1)) else decide (mV < 1000 * 38)
        t.monitor.comparator = under ∧
          ((s.cond 8).asserted = s.monitor.comparator → t.cond 8 =
            ⟨under, if under = true ∧ s.monitor.comparator = false then some 380 else (s.cond 8).detail, under⟩))

/-- COMMIT: the request checks in order, INCONSISTENT with its check result, and RUN. -/
def Obligations.CommitIsJudgedInOrder : Prop :=
  ∀ (p : Station) (payload : List Byte) (s : State), s.takes p →
    (s.device.state ≠ .configure → exec (.commit p false payload) s = .next (s.answered p .wrongState)) ∧
    (s.device.state = .configure → payload ≠ [] →
      exec (.commit p false payload) s = .next (s.answered p .malformed)) ∧
    (s.device.state = .configure → p ≠ .ride → exec (.commit p false []) s = .next (s.answered p .notPermitted)) ∧
    (s.device.state = .configure → p = .ride → ∀ n, firstFailed s.device.topology s.config = some n →
      exec (.commit p false []) s =
        .next (State.answered { s with device := { s.device with check := .failed n } } p .inconsistent)) ∧
    (s.device.state = .configure → p = .ride → firstFailed s.device.topology s.config = none →
      ∃ t, exec (.commit p false []) s = .next t ∧ EntersRun s t ∧ t.config = s.config ∧ t.device.check = .passed ∧
        t.device.way = .commit ∧ (t.port p).verdicts = (s.port p).verdicts ++ [.taken])

/-! ### The links -/

/-- REQ, the heartbeat, the recover quiet time, and a station driving the line in RECOVER. REQ found asserted in RECOVER acts
in HOLD: the model's reading, log 10. -/
def Obligations.RequestHeartbeatAndRecovery : Prop :=
  ∀ (p : Station) (s : State),
    (∀ level, exec (.reqChange p level) s = .next (s.modPort p fun o => { o with
      reqPin := level
      reqSample := if o.state = .hold ∨ o.state = .turn ∨ o.state = .recover then level else o.reqSample
      grantDue := o.grantDue || (level && o.state == .hold) })) ∧
    ((s.port p).heartbeat.isSome = true →
      exec (.heartbeatExpiry p) s = .next (s.modPort p fun o => { o with heartbeat := none, grantDue := true })) ∧
    ((s.port p).state = .recover →
      exec (.stationDrivesLine p) s = .next (s.modPort p fun o => { o with recoverQuiet := some 2 })) ∧
    ((s.port p).state = .recover → p ≠ .front → p ≠ .rear →
      exec (.recoverQuietExpiry p) s = .next (s.modPort p fun o => { o with
        state := .hold, recoverQuiet := none, reqSample := o.reqPin, grantDue := o.grantDue || o.reqPin })) ∧
    ((s.port p).state = .recover → ∃ t, exec (.recoverQuietExpiry p) s = .next t ∧ (t.port p).state = .hold ∧
      (t.port p).recoverQuiet = none ∧ (t.port p).reqSample = (s.port p).reqPin ∧
      ((s.port p).grantDue = true ∨ (s.port p).reqPin = true → (t.port p).grantDue = true) ∧
      (p = .front → t.motion.liveFront = decide ((s.port p).silent = 0)) ∧
      (p = .rear → t.motion.liveRear = decide ((s.port p).silent = 0)))

/-- SYNC frames: sent, cut off, and the sync turn they open. -/
def Obligations.SyncFramesOpenSyncTurns : Prop :=
  ∀ (p : Station) (s : State), (s.port p).state = .sync →
    ((s.port p).sending = none → (s.port p).syncTurn = false → exec (.syncDue p) s = .next (s.modPort p fun o =>
      { o with sending := some ⟨.sync, true, []⟩, syncTimer := some 50, syncBegun := true })) ∧
    ((s.port p).sending.isSome = true → exec (.syncSent p) s = .next (s.modPort p fun o =>
      { o with sending := none, syncTurn := true, turnWindow := some s.config.timing.turnWindow })) ∧
    ((s.port p).syncTurn = true → exec (.syncTurnExpiry p) s = .next (s.modPort p fun o =>
      { o with syncTurn := false, turnWindow := none })) ∧
    ((s.port p).sending.isSome = true →
      exec (.stationDrivesLine p) s = .next (s.modPort p fun o => { o with sending := none }) ∧
      exec (.contention p) s = .next (s.modPort p fun o => { o with sending := none })) ∧
    ((s.port p).syncTurn = true → ∀ k m : Byte, (k.toNat ≠ p.index.val ∨ m.toNat < 32) → ∀ turn,
      exec (.hello p turn [k, m]) s = .next (s.modPort p fun o => { o with syncTurn := false, turnWindow := none })) ∧
    ((s.port p).syncTurn = false → ∀ turn payload, exec (.hello p turn payload) s = .next s)

/-- A HELLO of the right kind and max frame in a sync turn is accepted; in a turn it restarts the station, and any other is
discarded there. That the port's second adoption window has expired is forgotten with a new generation only (log 21). -/
def Obligations.HelloSynchronisesOrRestarts : Prop :=
  (∀ (p : Station) (turn : Bool) (k m : Byte) (s : State), (s.port p).state = .sync → (s.port p).syncTurn = true →
    k.toNat = p.index.val → 32 ≤ m.toNat →
    ∃ t, exec (.hello p turn [k, m]) s = .next t ∧ (t.port p).state = .hold ∧ (t.port p).maxFrame = some m.toNat ∧
      (t.port p).silent = 0 ∧ (t.port p).contentions = 0 ∧ (t.port p).syncTurn = false ∧
      (t.port p).heartbeat = some s.config.timing.heartbeat ∧ (t.port p).grantDue = true ∧
      (t.port p).envelope = some t.ladder.published ∧ t.publication.members.get p = true ∧
      t.publication.complete = false ∧
      t.adoption p = ⟨0, true, .idle, none, (s.adoption p).unresponsive, (t.adoption p).lapsed⟩ ∧
      (t.publication.counter = s.publication.counter → (t.adoption p).lapsed = (s.adoption p).lapsed) ∧
      (t.cond (linkLostCond p)).asserted = false ∧ (t.cond (silentCond p)).asserted = false ∧
      t.config = s.config ∧ t.faults.entries = s.faults.entries ∧ t.pool = s.pool ∧ t.device = s.device ∧
      (p = .front → t.motion.liveFront = true) ∧ (p = .rear → t.motion.liveRear = true)) ∧
  (∀ (p : Station) (k m : Byte) (s : State), s.takes p →
    (k.toNat = p.index.val → 32 ≤ m.toNat →
      ∃ t, exec (.hello p false [k, m]) s = .next t ∧ (t.port p).state = .turn ∧
        (t.port p).frames = (s.port p).frames + 1 ∧ (t.port p).verdicts = (s.port p).verdicts ∧
        (t.port p).maxFrame = some m.toNat ∧ (t.port p).silent = 0 ∧ (t.port p).contentions = 0 ∧
        (t.port p).envelope = some t.ladder.published ∧ (t.port p).grantDue = true ∧
        t.publication.members.get p = true ∧ t.publication.complete = false ∧
        t.adoption p = ⟨0, true, .idle, none, (s.adoption p).unresponsive, (t.adoption p).lapsed⟩ ∧
        (t.publication.counter = s.publication.counter → (t.adoption p).lapsed = (s.adoption p).lapsed) ∧
        t.intake.slots = s.intake.slots ∧ (t.cond (silentCond p)).asserted = false) ∧
    (k.toNat ≠ p.index.val ∨ m.toNat < 32 →
      exec (.hello p false [k, m]) s = .next (s.modPort p fun o => { o with
        frames := o.frames + 1, discards := if o.discards < 255 then o.discards + 1 else 255 })))

/-- A valid STATUS is kept, makes the turn non-silent and gives Motion its wheel speed, with what Motion makes of it; an
invalid one is discarded; and which payloads are valid, by the station. The mismatch detector classes the moment at a change of
a speed or a liveness: log 20. -/
def Obligations.StatusIsKeptOrDiscarded : Prop :=
  (∀ payload r, parseStatus .ride payload = some r ↔ ∃ throttle brake : Byte, payload = [throttle, brake] ∧
    throttle.toNat ≤ 100 ∧ brake.toNat ≤ 1 ∧ r = .ride throttle.toNat (decide (brake.toNat = 1))) ∧
  (∀ p, p = .front ∨ p = .rear → ∀ payload r, parseStatus p payload = some r ↔ ∃ high low temperature : Byte,
    payload = [high, low, temperature] ∧ 256 * high.toNat + low.toNat ≤ 1000 ∧
    r = .inverter (256 * high.toNat + low.toNat) temperature) ∧
  (∀ payload r, parseStatus .pack payload = some r ↔ ∃ v1 v0 i1 i0 charge : Byte, payload = [v1, v0, i1, i0, charge] ∧
    256 * v1.toNat + v0.toNat ≤ 1000 ∧ charge.toNat ≤ 100 ∧
    r = .pack (256 * v1.toNat + v0.toNat) (i1 ++ i0) charge.toNat) ∧
  ∀ (p : Station) (payload : List Byte) (s : State), s.takes p →
    (∀ r, parseStatus p payload = some r → p ≠ .front → p ≠ .rear →
      exec (.status p false payload) s = .next (s.modPort p fun o =>
        { o with frames := o.frames + 1, status := some r, gotStatus := true })) ∧
    (∀ v temperature, parseStatus p payload = some (.inverter v temperature) →
      ∃ t, exec (.status p false payload) s = .next t ∧ (t.port p).status = some (.inverter v temperature) ∧
        (t.port p).gotStatus = true ∧ (t.port p).frames = (s.port p).frames + 1 ∧ (t.port p).state = .turn ∧
        (p = .front → t.motion.speedFront = some v ∧ t.motion.speedRear = s.motion.speedRear) ∧
        (p = .rear → t.motion.speedRear = some v ∧ t.motion.speedFront = s.motion.speedFront) ∧
        t.motion.liveFront = s.motion.liveFront ∧ t.motion.liveRear = s.motion.liveRear ∧ MotionTold s t ∧
        t.config = s.config ∧ t.pool = s.pool ∧ t.intake.queues = s.intake.queues) ∧
    (parseStatus p payload = none →
      exec (.status p false payload) s = .next (s.modPort p fun o => { o with
        frames := o.frames + 1, discards := if o.discards < 255 then o.discards + 1 else 255 }))

/-- An intact frame carrying TURN is disposed of as without it, and then ends the turn: every kind, a 17th frame included. -/
def Obligations.TurnFlagEndsTheTurn : Prop :=
  ∀ (p : Station) (payload : List Byte) (mV : Nat) (s : State), (s.port p).state = .turn →
    (s.port p).turnExpired = false →
    ∀ x ∈ (frameCommands p true payload mV).zip (frameCommands p false payload mV),
      ∃ t, exec x.2 s = .next t ∧ exec x.1 s = .next (t.endTurn .normal p)

/-- How a turn ends by expiry, by the idle line after it, and by a broken frame; and what the end of a turn leaves: the port's
next state, its counts, its heartbeat, its RECEIPT, the silence condition, and Motion with the axle's liveness (log 20). -/
def Obligations.TurnsEndWithTheirReceipt : Prop :=
  (∀ (p : Station) (s : State), (s.port p).state = .turn →
    ((s.port p).turnWindow.isSome = true →
      exec (.turnWindowExpiry p false) s = .next (s.endTurn .expiry p) ∧
      exec (.turnWindowExpiry p true) s =
        .next (s.modPort p fun o => { o with turnWindow := none, turnExpired := true })) ∧
    ((s.port p).turnExpired = true →
      exec (.expiredTurnLineIdle p) s = .next (State.endTurn .expiry p (s.modPort p fun o => { o with
        discards := if o.discards < 255 then o.discards + 1 else 255 }))) ∧
    ((s.port p).turnExpired = false →
      exec (.brokenFrame p) s = .next (State.endTurn .broken p (s.modPort p fun o => { o with
        frames := o.frames + 1, discards := if o.discards < 255 then o.discards + 1 else 255 })))) ∧
  (∀ (how : TurnEnd) (p : Station) (s : State),
    let t := s.endTurn how p
    let o := s.port p
    let silent := how = .expiry ∨ o.gotStatus = false
    (t.port p).state = (if how = .broken then .recover else .hold) ∧
      (silent → (t.port p).silent = if o.silent < 255 then o.silent + 1 else 255) ∧
      (¬silent → (t.port p).silent = 0) ∧
      (t.port p).contentions = (if how = .normal then 0 else o.contentions) ∧
      (t.port p).heartbeat = some s.config.timing.heartbeat ∧ (t.port p).turnWindow = none ∧
      (t.port p).discards = 0 ∧ (t.port p).frames = 0 ∧ (t.port p).verdicts = [] ∧ (t.port p).gotStatus = false ∧
      (how ≠ .broken → (o.reqPin = true → (t.port p).grantDue = true)) ∧
      (how = .broken → (t.port p).recoverQuiet = some 2) ∧
      (o.verdicts = [] → o.discards = 0 → (t.port p).receipts = o.receipts) ∧
      (o.verdicts ≠ [] ∨ 0 < o.discards → (t.port p).receipts =
        (if o.receipts.length < 4 then o.receipts else o.receipts.tail) ++
          [⟨o.verdicts, o.discards, 8 - (s.queue p.source).length, (s.slot p).assembly.isSome, (s.slot p).outcome⟩]) ∧
      (silent → s.config.timing.silenceLimit ≤ (if o.silent < 255 then o.silent + 1 else 255) →
        (t.cond (silentCond p)).asserted = true) ∧
      (¬silent → (t.cond (silentCond p)).asserted = false) ∧
      (p = .front ∨ p = .rear → MotionTold s t ∧ t.motion.speedFront = s.motion.speedFront ∧
        t.motion.speedRear = s.motion.speedRear) ∧
      (p = .front → (t.motion.liveFront = true ↔ how = .normal ∧ o.gotStatus = true) ∧
        t.motion.liveRear = s.motion.liveRear) ∧
      (p = .rear → (t.motion.liveRear = true ↔ how = .normal ∧ o.gotStatus = true) ∧
        t.motion.liveFront = s.motion.liveFront) ∧
      (p ≠ .front → p ≠ .rear → t.motion = s.motion ∧ t.ladder = s.ladder ∧ t.faults = s.faults) ∧
      t.config = s.config ∧ t.pool = s.pool ∧ t.intake.queues = s.intake.queues ∧ t.intake.slots = s.intake.slots ∧
      t.monitor = s.monitor ∧ t.device = s.device)

/-- Frames that no block takes: out of turn, in RECOVER, in OFFLINE, in SYNC but for HELLO, after the 16th of a turn, and
discarded ones. A broken frame in HOLD is counted also when the port has begun a frame at that moment: log 36. -/
def Obligations.FramesThatNoBlockTakes : Prop :=
  ∀ (p : Station) (s : State),
    let discarded := s.modPort p fun o => { o with discards := if o.discards < 255 then o.discards + 1 else 255 }
    let disturbed := discarded.modPort p fun o => { o with recoverQuiet := some 2 }
    (∀ turn payload mV cause, ∀ c ∈ .discardedFrame p cause :: .outOfTurnFrame p :: .brokenFrame p ::
        frameCommands p turn payload mV,
      ((s.port p).state = .hold → (s.port p).sending = none → exec c s = .next discarded) ∧
      ((s.port p).state = .recover → exec c s = .next disturbed) ∧
      ((s.port p).state = .offline → exec c s = .next s)) ∧
    ((s.port p).state = .turn → (s.port p).turnExpired = false → 16 ≤ (s.port p).frames →
      ∀ payload mV, ∀ c ∈ frameCommands p false payload mV,
        exec c s = .next (discarded.modPort p fun o => { o with frames := o.frames + 1 })) ∧
    ((s.port p).state = .turn → (s.port p).turnExpired = false →
      let counted := discarded.modPort p fun o => { o with frames := o.frames + 1 }
      (exec (.discardedFrame p .badCrc) s = .next counted) ∧
      (∀ k, exec (.discardedFrame p (.badLength k false)) s = .next counted ∧
        exec (.discardedFrame p (.badLength k true)) s = .next (counted.endTurn .normal p)) ∧
      exec (.discardedFrame p (.unknownKind false)) s = .next counted ∧
      exec (.discardedFrame p (.unknownKind true)) s = .next (counted.endTurn .normal p)) ∧
    ((s.port p).state = .hold → exec (.brokenFrame p) s = .next discarded) ∧
    ((s.port p).state = .sync →
      (∀ turn payload mV, ∀ c ∈ .outOfTurnFrame p :: .brokenFrame p :: (frameCommands p turn payload mV).tail,
        exec c s = .next s) ∧
      (∀ cause, (∀ turn, cause ≠ .badLength .hello turn) → exec (.discardedFrame p cause) s = .next s) ∧
      ((s.port p).syncTurn = true → ∀ turn, exec (.discardedFrame p (.badLength .hello turn)) s =
        .next (s.modPort p fun o => { o with syncTurn := false, turnWindow := none })))

/-- Contention in HOLD: the frame stays first of its kind in its list, and the third contention loses the link. The model's
choices: a newer ENVELOPE that waits is kept in place of the one cut off (log 11); an ENVELOPE that has joined since is not put
behind a RECEIPT, READ_REPLY or NOTICE cut off (log 38); a READ_REPLY or NOTICE is formed anew when it is sent again (log 34);
for a GRANT, which stands in no list, grant due stays set (log 35). -/
def Obligations.ContentionCutsTheFrameOff : Prop :=
  ∀ (p : Station) (x : Sending) (s : State), (s.port p).state = .hold → (s.port p).sending = some x →
    ((s.port p).contentions + 1 < 3 →
      ∃ t, exec (.contention p) s = .next t ∧ (t.port p).state = .recover ∧ (t.port p).sending = none ∧
        (t.port p).contentions = (s.port p).contentions + 1 ∧ (t.port p).recoverQuiet = some 2 ∧
        (t.port p).receipts = (match x.frame with | .receipt r => [r] | _ => []) ++ (s.port p).receipts ∧
        (t.port p).replies = (match x.frame with | .readReply r => [r] | _ => []) ++ (s.port p).replies ∧
        (t.port p).notice = (match x.frame with | .notice _ => true | _ => (s.port p).notice) ∧
        ((s.port p).grantDue = true → (t.port p).grantDue = true) ∧
        (∀ e, x.frame = .envelope e → (t.port p).envelope.isSome = true) ∧
        (∀ e, x.frame = .envelope e → p ≠ .front → p ≠ .rear →
          (t.port p).envelope = some ((s.port p).envelope.getD e)) ∧
        (p = .front → t.motion.liveFront = false) ∧ (p = .rear → t.motion.liveRear = false) ∧
        t.config = s.config ∧ t.pool = s.pool ∧ t.intake.slots = s.intake.slots) ∧
    (3 ≤ (s.port p).contentions + 1 →
      ∃ t, exec (.contention p) s = .next t ∧ t.port p = { Port.reset with
          state := .sync, silent := (s.port p).silent, contentions := (s.port p).contentions + 1
          maxFrame := (s.port p).maxFrame, reqPin := (s.port p).reqPin, syncTimer := some 2 } ∧
        (t.cond (linkLostCond p)).asserted = true ∧ (t.slot p).assembly = none ∧
        (t.adoption p).window = .idle ∧ (t.adoption p).timer = none ∧
        (p = .front → t.motion.liveFront = false ∧ t.motion.speedFront = none) ∧
        (p = .rear → t.motion.liveRear = false ∧ t.motion.speedRear = none) ∧ t.config = s.config)

/-- The outbound arbiter's choice, and the TURN flag of the frame it begins. -/
def Obligations.OutboundArbiterOrder : Prop :=
  (∀ (p : Station) (s : State), (s.port p).state ≠ .hold ∨ (s.port p).sending.isSome = true →
    exec (.outboundArbiterChoice p) s = .next s) ∧
  ∀ (p : Station) (s : State), (s.port p).state = .hold → (s.port p).sending = none →
    let o := s.port p
    (∀ e, o.envelope = some e → exec (.outboundArbiterChoice p) s =
      .next (s.setPort p { o with envelope := none, sending := some ⟨.envelope e, true, envelopeBytes e⟩ })) ∧
    (∀ r rest, o.envelope = none → o.receipts = r :: rest → exec (.outboundArbiterChoice p) s =
      .next (s.setPort p { o with
        receipts := rest
        sending := some (Sending.mk (.receipt r)
          (o.grantDue && rest.isEmpty && o.replies.isEmpty && !o.notice) (receiptBytes r)) })) ∧
    (∀ r rest, o.envelope = none → o.receipts = [] → o.replies = r :: rest → exec (.outboundArbiterChoice p) s =
      .next (s.setPort p { o with
        replies := rest
        sending := some (Sending.mk (.readReply r) (o.grantDue && rest.isEmpty && !o.notice) (s.replyBytes p r)) })) ∧
    (o.envelope = none → o.receipts = [] → o.replies = [] → o.notice = true → exec (.outboundArbiterChoice p) s =
      .next (s.setPort p { o with
        notice := false
        sending := some (Sending.mk (.notice s.faults.highWater) o.grantDue
          (noticeBytes s.config.overflowLevel s.faults)) })) ∧
    (o.envelope = none → o.receipts = [] → o.replies = [] → o.notice = false → o.grantDue = true →
      exec (.outboundArbiterChoice p) s = .next (s.setPort p { o with sending := some ⟨.grant, true, []⟩ })) ∧
    (o.envelope = none → o.receipts = [] → o.replies = [] → o.notice = false → o.grantDue = false →
      exec (.outboundArbiterChoice p) s = .next s)

/-- A sent frame that carries TURN opens a turn; one without it leaves the port in HOLD. A NOTICE sent with the high-water
flag clears the flag. -/
def Obligations.SentFramesOpenTurns : Prop :=
  ∀ (p : Station) (x : Sending) (s : State), (s.port p).state = .hold → (s.port p).sending = some x →
    let sent := s.modPort p fun o =>
      if x.turn then { o with
        state := .turn, sending := none, grantDue := false, heartbeat := none
        turnWindow := some s.config.timing.turnWindow, turnExpired := false, frames := 0, verdicts := []
        gotStatus := false }
      else { o with sending := none }
    (x.frame = .grant → x.turn = true → exec (.grantSent p) s = .next sent) ∧
    (∀ r, x.frame = .receipt r → exec (.receiptSent p) s = .next sent) ∧
    (∀ r, x.frame = .readReply r → exec (.readReplySent p) s = .next sent) ∧
    (p = .ride → ∀ high, x.frame = .notice high → exec .noticeSent s =
      .next { sent with faults := { s.faults with highWater := if high then false else s.faults.highWater } })

/-- An ENVELOPE sent: the turn it grants, and the adoption window. -/
def Obligations.EnvelopeSentStartsTheAdoptionWindow : Prop :=
  ∀ (p : Station) (e : Envelope) (bytes : List Byte) (s : State), (s.port p).state = .hold →
    (s.port p).sending = some ⟨.envelope e, true, bytes⟩ →
    let a := s.adoption p
    let k := s.config.timing.adoptionWindow
    let current := e.generation = s.publication.counter ∧ a.owing = true
    ∃ t, exec (.envelopeSent p) s = .next t ∧ (t.port p).state = .turn ∧ (t.port p).sending = none ∧
      (t.port p).turnWindow = some s.config.timing.turnWindow ∧ (t.port p).grantDue = false ∧
      (current → a.window = .idle → a.lapsed = false →
        t.adoption p = { a with window := .waiting, timer := some k }) ∧
      (current → a.window = .resent → a.timer = none → t.adoption p = { a with timer := some k }) ∧
      (current → a.window = .idle → a.lapsed = true → t.adoption p = a) ∧
      (current → a.window = .waiting ∨ (a.window = .resent ∧ a.timer ≠ none) → t.adoption p = a) ∧
      (¬current → t.adoption p = a) ∧
      (∀ q, q ≠ p → t.adoption q = s.adoption q ∧ t.port q = s.port q) ∧
      t.publication.counter = s.publication.counter ∧ t.publication.complete = s.publication.complete ∧
      t.publication.members = s.publication.members ∧ t.faults = s.faults ∧ t.ladder = s.ladder ∧ t.lines = s.lines ∧
      t.intake = s.intake ∧ t.pool = s.pool ∧ t.config = s.config ∧ t.monitor = s.monitor ∧ t.motion = s.motion ∧
      t.device = s.device

/-! ### Intake -/

/-- A REPORT's checks in order, and a report that passes them queued and answered. The earlier assembly that an announcing
report ends, and the one it opens, are `openAssembly`. -/
def Obligations.ReportIsJudgedInOrder : Prop :=
  ∀ (p : Station) (payload : List Byte) (s : State), s.takes p →
    (s.running = false → exec (.report p false payload) s = .next (s.answered p .wrongState)) ∧
    (s.running = true → payload.length ≠ 6 → exec (.report p false payload) s = .next (s.answered p .malformed)) ∧
    ∀ z c o d1 d0 n : Byte, payload = [z, c, o, d1, d0, n] → s.running = true →
      (16 ≤ z.toNat ∨ 32 ≤ c.toNat ∨ 8 ≤ o.toNat ∨ (o.getLsbD 2 = true ∧ (n.toNat = 0 ∨ 240 < n.toNat)) →
        exec (.report p false payload) s = .next (s.answered p .malformed)) ∧
      ∀ (zone : Fin 16) (cls : Fin 32), z.toNat = zone.val → c.toNat = cls.val → o.toNat < 8 →
        (o.getLsbD 2 = true → 1 ≤ n.toNat ∧ n.toNat ≤ 240) →
        let open' := (s.counted p).openAssembly p (if o.getLsbD 2 then some n.toNat else none)
        ((s.classOf cls).assigned = false →
          exec (.report p false payload) s = .next (open'.addVerdict p .unknownClass)) ∧
        ((s.classOf cls).assigned = true → (s.zoneOf zone).valid = false →
          exec (.report p false payload) s = .next (open'.addVerdict p .unknownZone)) ∧
        ((s.classOf cls).assigned = true → (s.zoneOf zone).valid = true →
          (s.zoneOf zone).reporters.has p.source = false →
          exec (.report p false payload) s = .next (open'.addVerdict p .notPermitted)) ∧
        ((s.classOf cls).assigned = true → (s.zoneOf zone).valid = true →
          (s.zoneOf zone).reporters.has p.source = true → 8 ≤ (s.queue p.source).length →
          exec (.report p false payload) s = .next (open'.addVerdict p .queueFull)) ∧
        ((s.classOf cls).assigned = true → (s.zoneOf zone).valid = true →
          (s.zoneOf zone).reporters.has p.source = true → (s.queue p.source).length < 8 → o.getLsbD 2 = false →
          exec (.report p false payload) s = .next (State.answered (s.setQueue p.source (s.queue p.source ++
            [⟨p.source, zone, cls, o.getLsbD 0, if o.getLsbD 1 then some (d1 ++ d0) else none, s.device.clock, none⟩]))
            p .taken)) ∧
        ((s.classOf cls).assigned = true → (s.zoneOf zone).valid = true →
          (s.zoneOf zone).reporters.has p.source = true → (s.queue p.source).length < 8 → o.getLsbD 2 = true →
          ∃ t earlier b, exec (.report p false payload) s = .next t ∧ t.queue p.source = earlier ++
              [⟨p.source, zone, cls, o.getLsbD 0, if o.getLsbD 1 then some (d1 ++ d0) else none, s.device.clock, b⟩] ∧
            earlier.length = (s.queue p.source).length ∧
            (t.port p).verdicts = (s.port p).verdicts ++ [if b.isSome then .taken else .takenNoBuffer])

/-- An announcing REPORT on a FREE slot: a new assembly, and the FREE buffer of the lowest index lent to it, if there is one. -/
def Obligations.AnnouncingReportBorrowsABuffer : Prop :=
  ∀ (p : Station) (payload : List Byte) (r : ReportFields) (n : Nat) (s : State), s.takes p → s.running = true →
    parseReport payload = some r → r.announced = some n → (s.slot p).assembly = none →
    s.pairRefusal p.source r.zone r.cls = none → (s.queue p.source).length < 8 →
    (∀ b, (s.buffer b).owner = .free → (∀ b' < b, (s.buffer b').owner ≠ .free) →
      ∃ t, exec (.report p false payload) s = .next t ∧ (t.port p).verdicts = (s.port p).verdicts ++ [.taken] ∧
        t.slot p = ⟨some ⟨n, 0, 0, some b, 50⟩, (s.slot p).outcome⟩ ∧
        t.buffer b = ⟨.pending p, some p, n, [], false⟩ ∧ (∀ b', b' ≠ b → t.buffer b' = s.buffer b') ∧
        t.queue p.source = s.queue p.source ++
          [⟨p.source, r.zone, r.cls, r.present, r.detail, s.device.clock, some b⟩] ∧
        (∀ q, q ≠ p.source → t.queue q = s.queue q) ∧ t.faults = s.faults ∧ t.ladder = s.ladder ∧
        t.publication = s.publication ∧ t.intake.conds = s.intake.conds) ∧
    ((∀ b, (s.buffer b).owner ≠ .free) →
      ∃ t, exec (.report p false payload) s = .next t ∧
        (t.port p).verdicts = (s.port p).verdicts ++ [.takenNoBuffer] ∧
        t.slot p = ⟨some ⟨n, 0, 0, none, 50⟩, (s.slot p).outcome⟩ ∧ t.pool = s.pool ∧
        t.queue p.source = s.queue p.source ++
          [⟨p.source, r.zone, r.cls, r.present, r.detail, s.device.clock, none⟩] ∧
        t.faults = s.faults ∧ t.ladder = s.ladder ∧ t.publication = s.publication)

/-- A SNAPSHOT's six cases; and what ending an assembly by a MALFORMED segment, `truncate`, leaves. -/
def Obligations.SnapshotSegmentCases : Prop :=
  (∀ (p : Station) (s : State),
    ((s.slot p).assembly = none → s.truncate p = s) ∧
    ∀ a, (s.slot p).assembly = some a →
      (a.buffer = none → s.truncate p = s.setSlot p ⟨none, .dropped⟩) ∧
      ∀ b, a.buffer = some b → (s.truncate p).slot p = ⟨none, .truncated⟩ ∧
        (s.truncate p).buffer b = ⟨.free, none, 0, [], false⟩ ∧
        (∀ b', b' ≠ b → (s.truncate p).buffer b' = s.buffer b') ∧ (s.truncate p).ports = s.ports) ∧
  ∀ (p : Station) (payload : List Byte) (s : State), s.takes p →
    (s.running = false → exec (.snapshot p false payload) s = .next (s.answered p .wrongState)) ∧
    (s.running = true → payload.length < 2 ∨ 61 < payload.length →
      exec (.snapshot p false payload) s = .next (((s.counted p).truncate p).addVerdict p .malformed)) ∧
    ∀ (i : Byte) (d : List Byte), payload = i :: d → 1 ≤ d.length → d.length ≤ 60 → s.running = true →
      (3 < i.toNat → exec (.snapshot p false payload) s =
        .next (((s.counted p).truncate p).addVerdict p .malformed)) ∧
      (i.toNat ≤ 3 → (s.slot p).assembly = none →
        exec (.snapshot p false payload) s = .next (s.answered p .snapshotDropped)) ∧
      ∀ a, i.toNat ≤ 3 → (s.slot p).assembly = some a →
        (i.toNat ≠ a.next ∨ a.expected < a.received + d.length → exec (.snapshot p false payload) s =
          .next (((s.counted p).truncate p).addVerdict p .malformed)) ∧
        (i.toNat = a.next → a.received + d.length ≤ a.expected → a.buffer = none →
          exec (.snapshot p false payload) s = .next (State.answered (s.setSlot p
            (if a.received + d.length = a.expected then ⟨none, .dropped⟩
             else ⟨some { a with next := a.next + 1, received := a.received + d.length }, (s.slot p).outcome⟩))
            p .snapshotDropped)) ∧
        (∀ b, i.toNat = a.next → a.received + d.length ≤ a.expected → a.buffer = some b →
          exec (.snapshot p false payload) s = .next (State.answered (if a.received + d.length = a.expected
            then (s.setBuffer b { s.buffer b with data := (s.buffer b).data ++ d, complete := true, writer := none }).setSlot
              p ⟨none, .complete⟩
            else (s.setBuffer b { s.buffer b with data := (s.buffer b).data ++ d }).setSlot
              p ⟨some { a with next := a.next + 1, received := a.received + d.length }, (s.slot p).outcome⟩) p .taken))

/-- The snapshot window expires: the assembly is truncated, or dropped when it has no buffer. -/
def Obligations.SnapshotWindowExpiryTruncates : Prop :=
  ∀ (p : Station) (a : Assembly) (s : State), (s.slot p).assembly = some a →
    (a.buffer = none → exec (.snapshotWindowExpiry p) s = .next (s.setSlot p ⟨none, .dropped⟩)) ∧
    (∀ b, a.buffer = some b → ∃ t, exec (.snapshotWindowExpiry p) s = .next t ∧ t.slot p = ⟨none, .truncated⟩ ∧
      t.buffer b = ⟨.free, none, 0, [], false⟩ ∧ (∀ b', b' ≠ b → t.buffer b' = s.buffer b') ∧
      (∀ q, (s.buffer b).owner = .pending q → (∀ x, ∀ r ∈ t.queue x, r.buffer ≠ some b) ∧
        (∀ r, t.faults.applying = some r → r.buffer ≠ some b) ∧ t.faults.entries = s.faults.entries) ∧
      (∀ e, (s.buffer b).owner = .entry e →
        t.entry e = { s.entry e with snapshot := none, snapshotLost := true } ∧
        (∀ i, i ≠ e → t.entry i = s.entry i) ∧ t.intake.queues = s.intake.queues) ∧
      (∀ q, (t.queue q).length = (s.queue q).length) ∧ t.intake.conds = s.intake.conds ∧ t.ports = s.ports ∧
      t.faults.overflow = s.faults.overflow ∧ t.ladder = s.ladder ∧ t.publication = s.publication ∧
      t.config = s.config ∧ t.device = s.device ∧ t.monitor = s.monitor ∧ t.motion = s.motion ∧ t.lines = s.lines)

/-- A SELF report is formed from the lowest-numbered record with its flag set, and queued or dropped. -/
def Obligations.SelfReportIsFormed : Prop :=
  ∀ (k : Fin 24) (s : State), s.running = true → (s.queue .self).length < 8 → (s.cond k).unsent = true →
    (∀ j < k, (s.cond j).unsent = false) →
    let zone := (condPair s.config k).1
    let cls := (condPair s.config k).2
    let admissible := (s.classOf cls).assigned = true ∧ (s.zoneOf zone).valid = true ∧
      (s.zoneOf zone).reporters.self = true
    ∃ t, exec .selfReportFormed s = .next t ∧ t.cond k = { s.cond k with unsent := false } ∧
      (∀ j, j ≠ k → t.cond j = s.cond j) ∧
      (admissible → t.queue .self = s.queue .self ++
        [⟨.self, zone, cls, (s.cond k).asserted, (s.cond k).detail, s.device.clock, none⟩]) ∧
      (¬admissible → t.queue .self = s.queue .self) ∧ (∀ q, q ≠ .self → t.queue q = s.queue q) ∧
      t = { s with intake := { s.intake with queues := t.intake.queues, conds := t.intake.conds } }

/-- The intake arbiter: the current queue goes on, or the fullest of those with 6 or more, or the next in rotation. That the
allowance is 0 when no queue is current is the model's choice, log 17. -/
def Obligations.ArbiterHandsTheChosenHead : Prop :=
  ∀ (q : Source) (r : QReport) (rest : List QReport) (s : State), s.running = true → s.faults.applying = none →
    s.queue q = r :: rest →
    let handed := fun (left : Nat) (rotation : Source) (t : State) => t.faults = { s.faults with applying := some r } ∧
      t.queue q = rest ∧ (∀ x, x ≠ q → t.queue x = s.queue x) ∧ t.intake.rotation = rotation ∧
      t.intake.current = (if left = 0 ∨ rest = [] then none else some q) ∧
      t.intake.allowance = (if left = 0 ∨ rest = [] then 0 else left) ∧
      t = { s with intake := t.intake, faults := t.faults } ∧ t.intake.conds = s.intake.conds ∧
      t.intake.slots = s.intake.slots
    (s.intake.current = some q →
      ∃ t, exec .arbiterHandOff s = .next t ∧ handed (s.intake.allowance - 1) s.intake.rotation t) ∧
    (s.intake.current = none → 6 ≤ (s.queue q).length →
      (∀ before after, [Source.self, .front, .rear, .pack, .ride] = before ++ q :: after →
        (∀ x ∈ before, (s.queue x).length < (s.queue q).length) ∧
        (∀ x ∈ after, (s.queue x).length ≤ (s.queue q).length)) →
      ∃ t, exec .arbiterHandOff s = .next t ∧ handed (s.config.weights.get q - 1) q t) ∧
    (s.intake.current = none → (∀ x, (s.queue x).length < 6) →
      (∀ before after, rotationAfter s.intake.rotation = before ++ q :: after → ∀ x ∈ before, s.queue x = []) →
      ∃ t, exec .arbiterHandOff s = .next t ∧ handed (s.config.weights.get q - 1) q t)

/-! ### The Fault Table -/

/-- A PRESENT report of a new pair opens the lowest-indexed FREE entry with its buffer, or reclaims the oldest RETIRED one; and
in RUN the roots, the notices and the Ladder follow the event (logs 18 and 19). -/
def Obligations.PresentReportOpensAnEntry : Prop :=
  ∀ (r : QReport) (e : Fin 48) (s : State), s.faults.applying = some r → r.present = true →
    (∀ i, (s.entry i).state ≠ .free → ¬((s.entry i).zone = r.zone ∧ (s.entry i).cls = r.cls)) →
    ((s.entry e).state = .free → (∀ i < e, (s.entry i).state ≠ .free) →
      ∃ t, exec .reportApplied s = .next t ∧
        (t.entry e).unrooted =
          firstEntry s.device.clock (s.classOf r.cls) (s.zoneOf r.zone) r r.buffer ∧
        (∀ i, i ≠ e → (t.entry i).unrooted = (s.entry i).unrooted) ∧ BufferDealt r (some e) s t ∧
        (s.running = true → TableSettles s t) ∧
        t.faults.applying = none ∧ t.faults.overflow = s.faults.overflow ∧ t.intake = s.intake ∧
        t.config = s.config ∧ t.device = s.device ∧ t.monitor = s.monitor ∧ t.motion = s.motion) ∧
    ((∀ i, (s.entry i).state ≠ .free) → (s.entry e).state = .retired →
      (∀ i, (s.entry i).state = .retired →
        (s.device.clock - (s.entry i).stateSince).toNat ≤ (s.device.clock - (s.entry e).stateSince).toNat) →
      (∀ i < e, (s.entry i).state = .retired →
        (s.device.clock - (s.entry i).stateSince).toNat < (s.device.clock - (s.entry e).stateSince).toNat) →
      ∃ t, exec .reportApplied s = .next t ∧
        (t.entry e).unrooted =
          firstEntry s.device.clock (s.classOf r.cls) (s.zoneOf r.zone) r r.buffer ∧
        (∀ i, i ≠ e → (t.entry i).unrooted = (s.entry i).unrooted) ∧
        (∀ b, (s.entry e).snapshot = some b → r.buffer ≠ some b → t.buffer b = ⟨.free, none, 0, [], false⟩) ∧
        (∀ b, r.buffer = some b → (s.entry e).snapshot ≠ some b → t.buffer b = { s.buffer b with owner := .entry e }) ∧
        (∀ b, r.buffer ≠ some b → (s.entry e).snapshot ≠ some b → t.buffer b = s.buffer b) ∧
        (∀ b p a, (s.entry e).snapshot = some b → (s.buffer b).writer = some p → (s.slot p).assembly = some a →
          a.buffer = some b → t.slot p = ⟨some { a with buffer := none }, (s.slot p).outcome⟩) ∧
        (∀ p, (∀ b, (s.entry e).snapshot = some b → (s.buffer b).writer ≠ some p) → t.slot p = s.slot p) ∧
        (s.running = true → TableSettles s t) ∧
        t.faults.applying = none ∧ t.faults.overflow = s.faults.overflow ∧ t.intake.queues = s.intake.queues ∧
        t.intake.conds = s.intake.conds ∧ t.config = s.config ∧ t.device = s.device ∧ t.monitor = s.monitor ∧
        t.motion = s.motion)

/-- A PRESENT report that finds neither an entry of its pair, nor a FREE one, nor a RETIRED one sets its overflow cell; and in
RUN the roots, the notices and the Ladder follow the event (logs 18 and 19). -/
def Obligations.PresentReportOverflows : Prop :=
  ∀ (r : QReport) (s : State), s.faults.applying = some r → r.present = true →
    (∀ i, (s.entry i).state ≠ .free ∧ (s.entry i).state ≠ .retired ∧
      ¬((s.entry i).zone = r.zone ∧ (s.entry i).cls = r.cls)) →
    ∃ t, exec .reportApplied s = .next t ∧
      (∀ c : Fin 64, t.faults.overflow[c] =
        (if c.val = (7 * r.zone.val + r.cls.val) % 64 then true else s.faults.overflow[c])) ∧
      (∀ i, (t.entry i).unrooted = (s.entry i).unrooted) ∧ BufferDealt r none s t ∧ t.faults.applying = none ∧
      (s.running = true → TableSettles s t) ∧
      (s.running = true → s.faults.overflow[cellOf r.zone r.cls] = false →
        t.faults.noticeDelay = some 20 ∧ t.faults.absoluteDelay = some (s.faults.absoluteDelay.getD 100)) ∧
      t.config = s.config ∧ t.device = s.device ∧ t.monitor = s.monitor ∧ t.motion = s.motion

/-- A PRESENT report on an entry of its pair, by the entry's state: its buffer goes to an entry without a snapshot and is freed
otherwise; and in RUN the roots, the notices and the Ladder follow the event (logs 18 and 19). -/
def Obligations.PresentReportOnAnActiveEntry : Prop :=
  ∀ (r : QReport) (e : Fin 48) (s : State), s.faults.applying = some r → r.present = true →
    s.faults.lookup r.zone r.cls = some e →
    let x := s.entry e
    let k := s.classOf x.cls
    let count := if x.reportCount < 65535 then x.reportCount + 1 else 65535
    let y : Entry := { x with
      lastReportAt := r.arrival, reportCount := count, witness := x.witness.insert r.source
      present := x.present.insert r.source, detail := if r.detail.isSome then r.detail else x.detail
      snapshot := if x.snapshot.isSome then x.snapshot else r.buffer }
    ∃ t, exec .reportApplied s = .next t ∧ (∀ i, i ≠ e → (t.entry i).unrooted = (s.entry i).unrooted) ∧
      BufferDealt r (if x.snapshot.isSome then none else some e) s t ∧ (s.running = true → TableSettles s t) ∧
      t.faults.applying = none ∧ t.faults.overflow = s.faults.overflow ∧
      t.config = s.config ∧ t.device = s.device ∧ t.monitor = s.monitor ∧ t.motion = s.motion ∧
      (x.state = .confirmed ∨ x.state = .latched → (t.entry e).unrooted = y.unrooted) ∧
      (x.state = .suspect → count < k.confirmCount → y.witness.size < 2 → (t.entry e).unrooted = y.unrooted) ∧
      (x.state = .suspect → k.confirmCount ≤ count ∨ 2 ≤ y.witness.size →
        (t.entry e).unrooted = Entry.unrooted { y with
          state := if k.latching then .latched else .confirmed
          stateSince := s.device.clock, timer := .none, demand := some (demandOf k (s.zoneOf x.zone)) }) ∧
      (x.state = .healing → (t.entry e).unrooted = Entry.unrooted { y with
        state := if x.recurrence < 2 then .confirmed else .latched
        stateSince := s.device.clock, timer := .none, recurrence := min 3 (x.recurrence + 1) }) ∧
      (x.state = .retired → (t.entry e).unrooted = Entry.unrooted { y with
        state := firstState k
        episode := if x.episode < 255 then x.episode + 1 else 255
        openedAt := s.device.clock, stateSince := s.device.clock, reportCount := 1
        witness := SourceSet.single r.source, present := SourceSet.single r.source, recurrence := 0, outcome := none
        demand := if immediate k then some (demandOf k (s.zoneOf x.zone)) else none
        timer := if immediate k then .none else .confirm k.confirmWindow })

/-- An ABSENT report, by the entry its pair holds and the state of that entry: its buffer goes to an entry without a snapshot
and is freed otherwise; and in RUN the roots, the notices and the Ladder follow the event (logs 18 and 19). -/
def Obligations.AbsentReportWithdrawsItsSource : Prop :=
  ∀ (r : QReport) (s : State), s.faults.applying = some r → r.present = false →
    (s.faults.lookup r.zone r.cls = none →
      ∃ t, exec .reportApplied s = .next t ∧ (∀ i, (t.entry i).unrooted = (s.entry i).unrooted) ∧
        BufferDealt r none s t ∧ (s.running = true → TableSettles s t) ∧
        t.faults.overflow = s.faults.overflow ∧ t.faults.applying = none ∧
        t.config = s.config ∧ t.device = s.device ∧ t.monitor = s.monitor ∧ t.motion = s.motion) ∧
    ∀ e, s.faults.lookup r.zone r.cls = some e →
      let x := s.entry e
      let k := s.classOf x.cls
      let y : Entry := { x with
        lastReportAt := r.arrival, present := x.present.remove r.source
        snapshot := if x.snapshot.isSome then x.snapshot else r.buffer }
      let retired := fun o => Entry.unrooted { y with
        state := .retired, stateSince := s.device.clock, timer := .none, outcome := some o }
      ∃ t, exec .reportApplied s = .next t ∧ (∀ i, i ≠ e → (t.entry i).unrooted = (s.entry i).unrooted) ∧
        BufferDealt r (if x.snapshot.isSome then none else some e) s t ∧ (s.running = true → TableSettles s t) ∧
        t.faults.overflow = s.faults.overflow ∧ t.faults.applying = none ∧
        t.config = s.config ∧ t.device = s.device ∧ t.monitor = s.monitor ∧ t.motion = s.motion ∧
        (x.present.has r.source = false ∨ y.present ≠ SourceSet.empty ∨ x.state = .latched ∨ x.state = .healing ∨
          x.state = .retired → (t.entry e).unrooted = y.unrooted) ∧
        (x.present.has r.source = true → y.present = SourceSet.empty → x.state = .suspect →
          (t.entry e).unrooted = retired .dismissed) ∧
        (x.present.has r.source = true → y.present = SourceSet.empty → x.state = .confirmed → k.healHold = 0 →
          (t.entry e).unrooted = retired .healed) ∧
        (x.present.has r.source = true → y.present = SourceSet.empty → x.state = .confirmed → 0 < k.healHold →
          (t.entry e).unrooted = Entry.unrooted
            { y with state := .healing, stateSince := s.device.clock, timer := .heal k.healHold })

/-- The confirm window dismisses its entry, the heal hold heals it, and in RUN the roots, the notices and the Ladder follow
(logs 18 and 19); either notice timer hands a NOTICE to port 0 and stops both. -/
def Obligations.FaultTableTimersExpire : Prop :=
  (∀ (e : Fin 48) (n : Nat) (s : State),
    let retired := fun o => Entry.unrooted { s.entry e with
      state := .retired, stateSince := s.device.clock, timer := .none, outcome := some o }
    let kept := fun (t : State) => (∀ i, i ≠ e → (t.entry i).unrooted = (s.entry i).unrooted) ∧
      (s.running = true → TableSettles s t) ∧
      t.faults.overflow = s.faults.overflow ∧ t.faults.applying = s.faults.applying ∧ t.pool = s.pool ∧
      t.intake = s.intake ∧ t.config = s.config ∧ t.device = s.device ∧ t.monitor = s.monitor ∧ t.motion = s.motion
    ((s.entry e).timer = .confirm n →
      ∃ t, exec (.confirmWindowExpiry e) s = .next t ∧ (t.entry e).unrooted = retired .dismissed ∧ kept t) ∧
    ((s.entry e).timer = .heal n →
      ∃ t, exec (.healHoldExpiry e) s = .next t ∧ (t.entry e).unrooted = retired .healed ∧ kept t)) ∧
  (∀ s : State,
    let handed := if (s.port .ride).state = .hold ∨ (s.port .ride).state = .turn ∨ (s.port .ride).state = .recover
      then s.modPort .ride fun o => { o with notice := true } else s
    let t := { handed with faults := { s.faults with noticeDelay := none, absoluteDelay := none } }
    (s.faults.noticeDelay.isSome = true → exec .noticeDelayExpiry s = .next t) ∧
    (s.faults.absoluteDelay.isSome = true → exec .absoluteDelayExpiry s = .next t))

/-- CLEAR: the seven checks in order, and the entry retired, with what follows the event (logs 18 and 19). -/
def Obligations.ClearIsJudgedInOrder : Prop :=
  ∀ (p : Station) (payload : List Byte) (s : State), s.takes p →
    (s.running = false → exec (.clear p false payload) s = .next (s.answered p .wrongState)) ∧
    (s.running = true →
      (¬∃ i : Byte, i.toNat < 48 ∧ payload = [0, i]) →
      (¬∃ z c : Byte, z.toNat < 16 ∧ c.toNat < 32 ∧ payload = [1, z, c]) →
      exec (.clear p false payload) s = .next (s.answered p .malformed)) ∧
    (s.running = true → ∀ z c : Byte, z.toNat < 16 → c.toNat < 32 → payload = [1, z, c] →
      (∀ i, (s.entry i).state ≠ .free → ¬((s.entry i).zone.val = z.toNat ∧ (s.entry i).cls.val = c.toNat)) →
      exec (.clear p false payload) s = .next (s.answered p .notFound)) ∧
    ∀ e : Fin 48, s.running = true →
      payload = [0, BitVec.ofNat 8 e.val] ∨
        (∃ z c : Byte, payload = [1, z, c] ∧ (s.entry e).state ≠ .free ∧ (s.entry e).zone.val = z.toNat ∧
          (s.entry e).cls.val = c.toNat ∧
          ∀ i, i ≠ e → (s.entry i).state ≠ .free →
            ¬((s.entry i).zone.val = z.toNat ∧ (s.entry i).cls.val = c.toNat)) →
      ((s.entry e).state = .free → exec (.clear p false payload) s = .next (s.answered p .notFound)) ∧
      ((s.entry e).state ≠ .free → p ≠ .ride → (s.zoneOf (s.entry e).zone).owner ≠ p →
        exec (.clear p false payload) s = .next (s.answered p .notPermitted)) ∧
      ((s.entry e).state ≠ .free → p = .ride ∨ (s.zoneOf (s.entry e).zone).owner = p →
        ((s.entry e).state ≠ .latched → exec (.clear p false payload) s = .next (s.answered p .notLatched)) ∧
        ((s.entry e).state = .latched → s.faults.parked = false →
          exec (.clear p false payload) s = .next (s.answered p .notParked)) ∧
        ((s.entry e).state = .latched → s.faults.parked = true → (s.entry e).present ≠ SourceSet.empty →
          exec (.clear p false payload) s = .next (s.answered p .stillPresent)) ∧
        ((s.entry e).state = .latched → s.faults.parked = true → (s.entry e).present = SourceSet.empty →
          ∃ t, exec (.clear p false payload) s = .next t ∧
            (t.port p).verdicts = (s.port p).verdicts ++ [.taken] ∧
            t.entry e = { s.entry e with
              state := .retired, stateSince := s.device.clock, timer := .none, outcome := some .cleared, root := none } ∧
            (∀ i, i ≠ e → (t.entry i).unrooted = (s.entry i).unrooted) ∧ TableSettles s t ∧
            t.faults.overflow = s.faults.overflow ∧ t.pool = s.pool ∧ t.intake = s.intake ∧ t.config = s.config ∧ t.motion = s.motion))

/-- DISCARD, of one entry and of all RETIRED ones: the checks in order, and the entries freed with their snapshots, an
assembly that wrote into one going on without it, with what follows the event (logs 18 and 19). MALFORMED is said of the
payloads that neither form of DISCARD takes, under either row. -/
def Obligations.DiscardFreesRetiredEntries : Prop :=
  ∀ (p : Station) (payload : List Byte) (s : State), s.takes p →
    (s.running = false → exec (.discardEntry p false payload) s = .next (s.answered p .wrongState) ∧
      exec (.discardAllRetired p false payload) s = .next (s.answered p .wrongState)) ∧
    (s.running = true → (¬∃ i : Byte, i.toNat < 48 ∧ payload = [0, i]) → payload ≠ [1] →
      exec (.discardEntry p false payload) s = .next (s.answered p .malformed) ∧
      exec (.discardAllRetired p false payload) s = .next (s.answered p .malformed)) ∧
    (∀ e : Fin 48, s.running = true → payload = [0, BitVec.ofNat 8 e.val] →
      (p ≠ .ride → exec (.discardEntry p false payload) s = .next (s.answered p .notPermitted)) ∧
      (p = .ride → (s.entry e).state ≠ .retired →
        exec (.discardEntry p false payload) s = .next (s.answered p .notFound)) ∧
      (p = .ride → (s.entry e).state = .retired →
        ∃ t, exec (.discardEntry p false payload) s = .next t ∧
          (t.port p).verdicts = (s.port p).verdicts ++ [.taken] ∧ t.entry e = Entry.free ∧
          (∀ i, i ≠ e → (t.entry i).unrooted = (s.entry i).unrooted) ∧
          BuffersFreed (fun b => (s.entry e).snapshot = some b) s t ∧
          t.faults.noticeDelay = some 20 ∧ t.faults.absoluteDelay = some (s.faults.absoluteDelay.getD 100) ∧
          TableSettles s t ∧ t.faults.overflow = s.faults.overflow ∧ t.config = s.config ∧ t.motion = s.motion)) ∧
    (s.running = true → payload = [1] →
      (p ≠ .ride → exec (.discardAllRetired p false payload) s = .next (s.answered p .notPermitted)) ∧
      (p = .ride → ∃ t, exec (.discardAllRetired p false payload) s = .next t ∧
        (t.port p).verdicts = (s.port p).verdicts ++ [.taken] ∧
        (∀ i, (s.entry i).state = .retired → t.entry i = Entry.free) ∧
        BuffersFreed (fun b => ∃ i, (s.entry i).state = .retired ∧ (s.entry i).snapshot = some b) s t ∧
        (∀ i, (s.entry i).state ≠ .retired → (t.entry i).unrooted = (s.entry i).unrooted) ∧ TableSettles s t ∧
        t.faults.overflow = s.faults.overflow ∧ t.config = s.config ∧ t.motion = s.motion))

/-- CLEAR_OVERFLOW: the four checks in order, and the map cleared, with the Ladder and the notices told (logs 18 and 19). -/
def Obligations.ClearOverflowEmptiesTheMap : Prop :=
  ∀ (p : Station) (payload : List Byte) (s : State), s.takes p →
    (s.running = false → exec (.clearOverflow p false payload) s = .next (s.answered p .wrongState)) ∧
    (s.running = true → payload ≠ [] →
      exec (.clearOverflow p false payload) s = .next (s.answered p .malformed)) ∧
    (s.running = true → p ≠ .ride →
      exec (.clearOverflow p false []) s = .next (s.answered p .notPermitted)) ∧
    (s.running = true → p = .ride → s.faults.parked = false →
      exec (.clearOverflow p false []) s = .next (s.answered p .notParked)) ∧
    (s.running = true → p = .ride → s.faults.parked = true →
      ∃ t, exec (.clearOverflow p false []) s = .next t ∧ (t.port p).verdicts = (s.port p).verdicts ++ [.taken] ∧
        (∀ c : Fin 64, t.faults.overflow[c] = false) ∧
        (∀ i, (t.entry i).unrooted = (s.entry i).unrooted) ∧
        ((∃ c : Fin 64, s.faults.overflow[c] = true) →
          t.faults.noticeDelay = some 20 ∧ t.faults.absoluteDelay = some (s.faults.absoluteDelay.getD 100) ∧
          t.ladder.target.limits = t.formedTarget ∧ t.ladder.target.overflow = false) ∧
        TableSettles s t ∧ t.pool = s.pool ∧ t.intake = s.intake ∧ t.config = s.config ∧ t.motion = s.motion ∧ t.device = s.device)

/-! ### The Ladder and Publication -/

/-- The relax hold expires: relaxation is due, and one step is published when its conditions hold. -/
def Obligations.RelaxHoldExpiryTakesOneStep : Prop :=
  ∀ s : State, s.ladder.hold.isSome = true →
    let pub := s.ladder.published.limits
    let tgt := s.ladder.target.limits
    let parked := s.ladder.parked
    let ready := s.running = true ∧ s.publication.complete = true ∧ (pub.level.val < 4 ∨ parked = true) ∧
      pub.someStricter (Limits.step parked pub tgt) = true
    (¬ready → exec .relaxHoldExpiry s = .next { s with ladder := { s.ladder with relax := .due, hold := none } }) ∧
    (ready → ∃ t, exec .relaxHoldExpiry s = .next t ∧ Publishes (Limits.step parked pub tgt) tgt s t ∧
      t.ladder.target = s.ladder.target ∧
      t.faults = s.faults ∧ t.intake = s.intake ∧ t.pool = s.pool ∧ t.config = s.config ∧ t.device = s.device ∧
      t.monitor = s.monitor ∧ t.motion = s.motion)

/-- What one relaxation step makes of each field. -/
def Obligations.RelaxationStepLoosensFieldByField : Prop :=
  ∀ (parked : Bool) (pub tgt : Limits),
    let l := Limits.step parked pub tgt
    let axle := fun (now goal : AxleState) => match now, goal with
      | .cut, .drive | .cut, .regenOnly => if parked then AxleState.regenOnly else .cut
      | .regenOnly, .drive => .drive
      | x, _ => x
    (pub.front ≠ .absent → tgt.front ≠ .absent → l.front = axle pub.front tgt.front) ∧
    (pub.rear ≠ .absent → tgt.rear ≠ .absent → l.rear = axle pub.rear tgt.rear) ∧
    l.regenPermitted = (pub.regenPermitted || tgt.regenPermitted) ∧
    l.packCeiling = max pub.packCeiling tgt.packCeiling ∧
    (pub.packOpen = true → tgt.packOpen = false → l.packOpen = !parked) ∧
    (pub.packOpen = tgt.packOpen → l.packOpen = pub.packOpen) ∧
    (l.front = .drive ∨ l.rear = .drive → tgt.level.val < pub.level.val → l.level.val + 1 = pub.level.val) ∧
    (l.front ≠ .drive → l.rear ≠ .drive → tgt.level.val < pub.level.val →
      l.level.val = max 4 (pub.level.val - 1)) ∧
    (l.front = .drive ∨ l.rear = .drive → pub.level.val ≤ tgt.level.val → l.level = pub.level)

/-- ADOPT of the current generation: what it leaves, and, where it completes the generation with a relaxation due, the step
that is taken. -/
def Obligations.AdoptOfTheCurrentGeneration : Prop :=
  ∀ (p : Station) (a b c d : Byte) (s : State), s.takes p → u32 a b c d = s.publication.counter →
    let others := ∃ q, q ≠ p ∧ s.publication.members.get q = true ∧ (s.adoption q).owing = true
    let completes := ¬others ∧ s.publication.complete = false
    let pub := s.ladder.published.limits
    let tgt := s.ladder.target.limits
    let step := Limits.step s.ladder.parked pub tgt
    let ready := s.running = true ∧ s.ladder.relax = .due ∧ (pub.level.val < 4 ∨ s.ladder.parked = true) ∧
      pub.someStricter step = true
    ∃ t, exec (.adopt p false [a, b, c, d]) s = .next t ∧ (t.adoption p).unresponsive = false ∧
      ((s.adoption p).unresponsive = true → (t.cond (adoptCond p)).asserted = false) ∧
      ((s.adoption p).unresponsive = false → t.intake = s.intake) ∧
      (t.port p).frames = (s.port p).frames + 1 ∧ (t.port p).verdicts = (s.port p).verdicts ∧
      t.faults = s.faults ∧ t.pool = s.pool ∧ t.config = s.config ∧ t.device = s.device ∧ t.motion = s.motion ∧
      (¬(completes ∧ ready) →
        t.adoption p = ⟨s.publication.counter, false, .idle, none, false, false⟩ ∧
        (∀ q, q ≠ p → t.adoption q = s.adoption q) ∧ t.publication.counter = s.publication.counter ∧
        t.publication.members = s.publication.members) ∧
      (¬completes → t.publication.complete = s.publication.complete ∧ t.ladder = s.ladder ∧ t.lines = s.lines) ∧
      (completes → ¬ready → t.publication.complete = true ∧ t.ladder.adopted = s.ladder.published ∧
        t.ladder.published = s.ladder.published ∧ t.ladder.target = s.ladder.target ∧
        t.ladder.relax = s.ladder.relax ∧ t.ladder.hold = s.ladder.hold) ∧
      (completes → ready → Publishes step tgt s t ∧ t.ladder.target = s.ladder.target ∧
        t.ladder.adopted = s.ladder.published ∧
        (t.adoption p).adopted = (if s.publication.counter < 4294967295 then s.publication.counter else 0))

/-- A stale ADOPT, and one that names a generation never published. -/
def Obligations.StaleAndUnknownAdopts : Prop :=
  ∀ (p : Station) (a b c d : Byte) (s : State), s.takes p →
    (u32 a b c d < s.publication.counter → exec (.adopt p false [a, b, c, d]) s =
      .next ((s.counted p).setAdoption p { s.adoption p with adopted := u32 a b c d })) ∧
    (s.publication.counter < u32 a b c d → exec (.adopt p false [a, b, c, d]) s = .next (s.counted p))

/-- The adoption window: a first expiry sends the ENVELOPE again, a second one makes the port unresponsive. -/
def Obligations.AdoptionWindowExpiries : Prop :=
  ∀ (p : Station) (s : State), (s.adoption p).timer.isSome = true →
    ((s.adoption p).window = .waiting → exec (.adoptionWindowExpiry p) s =
      .next ((s.setAdoption p { s.adoption p with window := .resent, timer := none }).modPort p fun o =>
        { o with envelope := some s.ladder.published, grantDue := true })) ∧
    ((s.adoption p).window = .resent → ∃ t, exec (.adoptionWindowExpiry p) s = .next t ∧
      (t.adoption p).window = .idle ∧ (t.adoption p).timer = none ∧ (t.adoption p).unresponsive = true ∧
      (t.adoption p).owing = (s.adoption p).owing ∧ (t.adoption p).adopted = (s.adoption p).adopted ∧
      (∀ q, q ≠ p → t.adoption q = s.adoption q) ∧
      ((s.adoption p).unresponsive = false → (t.cond (adoptCond p)).asserted = true ∧
        ((s.cond (adoptCond p)).asserted = false → (t.cond (adoptCond p)).detail =
          some (BitVec.ofNat 16 (min (s.publication.counter - (s.adoption p).adopted) 32767)))) ∧
      ((s.adoption p).unresponsive = true → t.intake = s.intake) ∧
      (∀ k, k ≠ adoptCond p → t.cond k = s.cond k) ∧ t.ports = s.ports ∧ t.faults = s.faults ∧
      t.ladder = s.ladder ∧ t.publication.complete = s.publication.complete ∧ t.intake.queues = s.intake.queues ∧
      t.config = s.config ∧ t.lines = s.lines)

/-! ### The Self Monitor and Motion -/

/-- A scan begins, with the used slots on enabled channels in order and then the enabled channels, each to be sampled on its
own unless a slot has sampled it by then (log 15), in place of one still in progress (the model's choice, log 16); and the
bus comparator takes a fall or a rise against its threshold, with its record. That FALLING and RISING carry the voltage is
log 6. -/
def Obligations.ScansAndTheComparator : Prop :=
  ∀ (s : State) (mV : Nat), s.device.state = .configure ∨ s.device.state = .run →
    let volts := (#v[30, 33, 36, 38, 40, 42, 44, 46] : Vector Nat 8)[s.config.threshold]
    (∃ (slots : List (Fin 8)) (channels : List (Fin 7)),
      slots.Pairwise (· < ·) ∧ channels.Pairwise (· < ·) ∧
      (∀ k, k ∈ slots ↔ s.config.scan[k].used = true ∧ s.config.enable[s.config.scan[k].channel] = true) ∧
      (∀ c : Fin 7, c ∈ channels ↔ s.config.enable[c] = true) ∧
      exec .scanDue s = .next { s with monitor := { s.monitor with
        scan := slots.map (fun k => .slot k s.config.scan[k].channel) ++ channels.map .alone
        scanTimer := some s.config.timing.scanPeriod } }) ∧
    (s.monitor.comparator = false → mV < 1000 * volts →
      ∃ t, exec (.falling mV) s = .next t ∧ t.monitor = { s.monitor with comparator := true } ∧
        (t.cond 8).asserted = true ∧
        ((s.cond 8).asserted = false →
          (t.cond 8).detail = some (BitVec.ofNat 16 (10 * volts)) ∧ (t.cond 8).unsent = !(s.cond 8).unsent) ∧
        (∀ k, k ≠ 8 → t.cond k = s.cond k) ∧
        t = { s with monitor := t.monitor, intake := { s.intake with conds := t.intake.conds } }) ∧
    (s.monitor.comparator = true ∨ 1000 * volts ≤ mV → exec (.falling mV) s = .next s) ∧
    (s.monitor.comparator = true → 1000 * (volts + 1) < mV →
      ∃ t, exec (.rising mV) s = .next t ∧
        t.monitor = { s.monitor with comparator := false } ∧ (t.cond 8).asserted = false ∧
        (t.cond 8).detail = (s.cond 8).detail ∧
        ((s.cond 8).asserted = true → (t.cond 8).unsent = !(s.cond 8).unsent) ∧
        (∀ k, k ≠ 8 → t.cond k = s.cond k) ∧
        t = { s with monitor := t.monitor, intake := { s.intake with conds := t.intake.conds } }) ∧
    (s.monitor.comparator = false ∨ mV ≤ 1000 * (volts + 1) → exec (.rising mV) s = .next s)

/-- A sample completes, of a channel on its own or of a slot: the latest sample, the rest of the scan, and for a slot that is
CLEAR or ASSERTED its filter and condition record; one that is lost gives no value. That the rest of a scan follows the records
as they stand is log 15. -/
def Obligations.SamplesAreFiltered : Prop :=
  (∀ (v : Counts) (i : ScanItem) (rest : List ScanItem) (s : State),
    s.device.state = .configure ∨ s.device.state = .run → s.monitor.scan = i :: rest →
    let ch := match i with | .slot _ c => c | .alone c => c | .lost c => c
    ∃ t, exec (.sampleComplete v) s = .next t ∧
      (i ≠ .lost ch → s.config.enable[ch] = true → t.monitor.latest[ch] = some v) ∧
      (i = .lost ch ∨ s.config.enable[ch] = false → t.monitor.latest = s.monitor.latest) ∧
      (∀ c : Fin 7, c ≠ ch → t.monitor.latest[c] = s.monitor.latest[c]) ∧
      .alone ch ∉ t.monitor.scan ∧
      (∀ c : Fin 7, c ≠ ch → s.config.enable[c] = true → .alone c ∈ rest → .alone c ∈ t.monitor.scan) ∧
      (∀ (k : Fin 8) (c : Fin 7), s.config.scan[k].used = true → s.config.scan[k].channel = c →
        s.config.enable[c] = true → .slot k c ∈ rest → .slot k c ∈ t.monitor.scan) ∧
      (∀ j ∈ t.monitor.scan, j ∈ rest) ∧ (∀ j, t.monitor.scan.head? = some j → j.valid s.config = true) ∧
      (i = .alone ch ∨ i = .lost ch → t = { s with monitor := { s.monitor with
        latest := t.monitor.latest, scan := t.monitor.scan } })) ∧
  ∀ (v : Counts) (k : Fin 8) (ch : Fin 7) (rest : List ScanItem) (s : State),
    s.device.state = .configure ∨ s.device.state = .run → s.monitor.scan = .slot k ch :: rest →
    s.config.scan[k].used = true → s.config.scan[k].channel = ch → s.config.enable[ch] = true →
    let r := s.config.scan[k]
    let f := s.filter k
    let inside := r.low ≤ v.toNat ∧ v.toNat ≤ r.high
    ∃ t, exec (.sampleComplete v) s = .next t ∧ t.monitor.latest[ch] = some v ∧
      (∀ c : Fin 7, c ≠ ch → t.monitor.latest[c] = s.monitor.latest[c]) ∧
      (∀ j, j ≠ k → t.filter j = s.filter j) ∧ (∀ j, j ≠ slotCond k → t.cond j = s.cond j) ∧
      t.config = s.config ∧ t.faults = s.faults ∧ t.ports = s.ports ∧ t.ladder = s.ladder ∧
      t.monitor.comparator = s.monitor.comparator ∧ t.monitor.scanTimer = s.monitor.scanTimer ∧
      (f.state = .clear → (s.cond (slotCond k)).asserted = false →
        (inside → t.filter k = { f with outCount := 0 } ∧ t.cond (slotCond k) = s.cond (slotCond k)) ∧
        (¬inside → f.outCount + 1 ≠ r.assertCount →
          t.filter k = { f with outCount := f.outCount + 1 } ∧ t.cond (slotCond k) = s.cond (slotCond k)) ∧
        (¬inside → f.outCount + 1 = r.assertCount → t.filter k = ⟨.asserted, 0, 0⟩ ∧
          t.cond (slotCond k) = ⟨true, some (v.setWidth 16), !(s.cond (slotCond k)).unsent⟩)) ∧
      (f.state = .asserted → (s.cond (slotCond k)).asserted = true →
        (¬inside → t.filter k = { f with inCount := 0 } ∧ t.cond (slotCond k) = s.cond (slotCond k)) ∧
        (inside → f.inCount + 1 ≠ r.releaseCount →
          t.filter k = { f with inCount := f.inCount + 1 } ∧ t.cond (slotCond k) = s.cond (slotCond k)) ∧
        (inside → f.inCount + 1 = r.releaseCount → t.filter k = ⟨.clear, 0, 0⟩ ∧
          t.cond (slotCond k) = ⟨false, (s.cond (slotCond k)).detail, !(s.cond (slotCond k)).unsent⟩))

/-- The parked hold raises PARKED, and in RUN the Ladder forms its target with PARKED, tightens at once where it is stricter,
and else takes a relaxation step that is due; the mismatch timer asserts or settles. -/
def Obligations.MotionTimersExpire : Prop :=
  ∀ s : State,
    (s.motion.parkedHold.isSome = true → ∃ t, exec .parkedHoldExpiry s = .next t ∧
      t.motion = { s.motion with parked := true, parkedHold := none } ∧ t.ladder.parked = true ∧
      t.faults = { s.faults with parked := true } ∧ t.config = s.config ∧ t.intake = s.intake ∧ t.pool = s.pool ∧
      t.monitor = s.monitor ∧ t.device = s.device ∧
      (s.running = false → t.ladder = { s.ladder with parked := true } ∧ t.publication = s.publication ∧
        t.ports = s.ports) ∧
      (s.running = true →
        let pub := s.ladder.published.limits
        let tgt := t.formedTarget
        let step := Limits.step true pub tgt
        let steps := tgt ≠ pub ∧ tgt = s.ladder.target.limits ∧ s.ladder.relax = .due ∧
          s.publication.complete = true ∧ pub.someStricter step = true
        (tgt.someStricter pub = true → Publishes (pub.stricter tgt).escalate tgt s t) ∧
        (tgt.someStricter pub = false → steps → Publishes step tgt s t) ∧
        (tgt.someStricter pub = false → ¬steps → Waits tgt s t))) ∧
    (∀ axle, s.motion.mismatchTimer.isSome = true → s.motion.mismatch = .arming → s.motion.mismatchAxle = some axle →
      (s.cond (mismatchCond axle)).asserted = false →
      ∃ t, exec .mismatchTimerExpiry s = .next t ∧
        t.motion = { s.motion with mismatch := .asserted, mismatchTimer := none } ∧
        t.cond (mismatchCond axle) = ⟨true, some (BitVec.ofNat 16
          (max (s.motion.speedFront.getD 0) (s.motion.speedRear.getD 0) -
            min (s.motion.speedFront.getD 0) (s.motion.speedRear.getD 0))), !(s.cond (mismatchCond axle)).unsent⟩ ∧
        (∀ k, k ≠ mismatchCond axle → t.cond k = s.cond k) ∧
        t = { s with motion := t.motion, intake := { s.intake with conds := t.intake.conds } }) ∧
    (∀ axle, s.motion.mismatchTimer.isSome = true → s.motion.mismatch = .settling →
      s.motion.mismatchAxle = some axle →
      ∃ t, exec .mismatchTimerExpiry s = .next t ∧
        t.motion = { s.motion with mismatch := .quiet, mismatchAxle := none, mismatchTimer := none } ∧
        (t.cond (mismatchCond axle)).asserted = false ∧ (∀ k, k ≠ mismatchCond axle → t.cond k = s.cond k) ∧
        t = { s with motion := t.motion, intake := { s.intake with conds := t.intake.conds } })

/-! ### Configuration and READ -/

/-- A CONFIG refused: outside CONFIGURE, on another port, or, for each of the nine targets, of a wrong index or length, of a
fixed record, or with a field out of range; and of no target at all. -/
def Obligations.ConfigIsRefusedInOrder : Prop :=
  (∀ (p : Station) (payload : List Byte) (mV : Nat) (s : State), s.takes p →
    ∀ c ∈ configCommands p false payload mV,
      (s.device.state ≠ .configure → exec c s = .next (s.answered p .wrongState)) ∧
      (s.device.state = .configure → p ≠ .ride → exec c s = .next (s.answered p .notPermitted)) ∧
      (s.device.state = .configure → p = .ride → payload.length < 3 → exec c s = .next (s.answered p .malformed)) ∧
      (s.device.state = .configure → p = .ride → (∃ (code : Byte) (rest : List Byte), payload = code :: rest ∧ 9 ≤ code.toNat) →
        exec c s = .next (s.answered p .malformed))) ∧
  ∀ (code i : Byte) (record : List Byte) (mV : Nat) (s : State), s.takes .ride → s.device.state = .configure →
    ∀ x ∈ configTargets .ride (code :: i :: record) mV, x.1 = code.toNat →
      let known := x.2.2.1 i.toNat = some record.length
      (¬known → exec x.2.1 s = .next (s.answered .ride .malformed)) ∧
      (known → s.fixedRecord code.toNat i.toNat → exec x.2.1 s = .next (s.answered .ride .notPermitted)) ∧
      (known → ¬s.fixedRecord code.toNat i.toNat → ¬x.2.2.2 i.toNat record →
        exec x.2.1 s = .next (s.answered .ride .malformed))

/-- An accepted CONFIG writes its record, field by field, and changes no other: the nine targets. What a running scan timer has
left under a new scan period, and what a scan in progress goes on with, are the model's readings, logs 25 and 15. -/
def Obligations.ConfigWritesItsRecord : Prop :=
  ∀ (mV : Nat) (s : State), s.takes .ride → s.device.state = .configure →
    let written := fun (c : Tables) => Host.Outcome.next (State.answered { s with config := c } .ride .taken)
    (∀ (i : Fin 16) (v pa rs ow ax ll la : Byte), i ≠ 15 → zoneInRange i.val [v, pa, rs, ow, ax, ll, la] →
      ∃ z : Zone, exec (.zoneRecord .ride false [0, BitVec.ofNat 8 i.val, v, pa, rs, ow, ax, ll, la]) s =
          written { s.config with zones := putAt s.config.zones i z } ∧
        z.valid = decide (v.toNat = 1) ∧ (pa.toNat = 255 → z.parent = none) ∧
        (∀ q : Fin 16, pa.toNat = q.val → z.parent = some q) ∧
        z.reporters = ⟨rs.getLsbD 0, rs.getLsbD 1, rs.getLsbD 2, rs.getLsbD 3, rs.getLsbD 4⟩ ∧
        z.owner.index.val = ow.toNat ∧ axleFieldCode z.axle = ax.toNat ∧ z.lossLevel.val = ll.toNat ∧
        axleActionCode z.lossAction = la.toNat) ∧
    (∀ (i : Fin 32) (as n w1 w0 la pr h1 h0 k l a r c pk : Byte), i ≠ 21 →
      classInRange [as, n, w1, w0, la, pr, h1, h0, k, l, a, r, c, pk] →
      ∃ x : FaultClass,
        exec (.classRecord .ride false [1, BitVec.ofNat 8 i.val, as, n, w1, w0, la, pr, h1, h0, k, l, a, r, c, pk]) s =
          written { s.config with classes := putAt s.config.classes i x } ∧
        (as.toNat = 0 → x = ⟨false, 1, 0, false, false, 0, .zoneLoss⟩) ∧
        (as.toNat = 1 → x.assigned = true ∧ x.confirmCount = n.toNat ∧ x.confirmWindow = 256 * w1.toNat + w0.toNat ∧
          x.latching = decide (la.toNat = 1) ∧ x.propagating = decide (pr.toNat = 1) ∧
          x.healHold = 256 * h1.toNat + h0.toNat ∧ storesResponse k l a r c pk x.response)) ∧
    (∀ (i : Fin 6) (torque speed : Byte), torque.toNat ≤ 100 →
      exec (.levelRecord .ride false [2, BitVec.ofNat 8 i.val, torque, speed]) s =
        written { s.config with levels := putAt s.config.levels i ⟨torque.toNat, speed.toNat⟩ }) ∧
    (∀ l : Fin 6, exec (.levelRecord .ride false [2, 6, BitVec.ofNat 8 l.val]) s =
        written { s.config with overflowLevel := l }) ∧
    (∀ (i : Fin 32) (k l a r c pk : Byte), i ≠ 21 → (s.classOf i).assigned = true →
      responseInRange [k, l, a, r, c, pk] →
      ∃ x : Response, exec (.responseRecord .ride false [3, BitVec.ofNat 8 i.val, k, l, a, r, c, pk]) s =
          written { s.config with classes := putAt s.config.classes i { s.classOf i with response := x } } ∧
        storesResponse k l a r c pk x) ∧
    (∀ (i : Fin 8) (u ch l1 l0 h1 h0 z c ac rc : Byte), scanInRange [u, ch, l1, l0, h1, h0, z, c, ac, rc] →
      ∃ t r, exec (.scanRecord .ride false [4, BitVec.ofNat 8 i.val, u, ch, l1, l0, h1, h0, z, c, ac, rc]) s = .next t ∧
        (t.port .ride).verdicts = (s.port .ride).verdicts ++ [.taken] ∧
        t.config = { s.config with scan := putAt s.config.scan i r } ∧
        (u.toNat = 0 → r = ⟨false, 0, 0, 4095, 0, 0, 1, 1⟩) ∧
        (u.toNat = 1 → r.used = true ∧ r.channel.val = ch.toNat ∧ r.low = 256 * l1.toNat + l0.toNat ∧
          r.high = 256 * h1.toNat + h0.toNat ∧ r.zone.val = z.toNat ∧ r.cls.val = c.toNat ∧
          r.assertCount = ac.toNat ∧ r.releaseCount = rc.toNat) ∧
        t.filter i = ⟨if r.used then (if s.config.enable[r.channel] then .clear else .idle) else .unused, 0, 0⟩ ∧
        (t.cond (slotCond i)).asserted = false ∧ (t.cond (slotCond i)).detail = (s.cond (slotCond i)).detail ∧
        (∀ j, j ≠ i → t.filter j = s.filter j) ∧ (∀ j, j ≠ slotCond i → t.cond j = s.cond j) ∧
        ScanGoesOn t.config s.monitor.scan t.monitor.scan ∧ t.monitor.latest = s.monitor.latest) ∧
    (∀ e : Byte, e.toNat < 128 →
      ∃ t, exec (.channelsRecord .ride false [5, 0, e]) s = .next t ∧
        (t.port .ride).verdicts = (s.port .ride).verdicts ++ [.taken] ∧
        t.config = { s.config with enable := t.config.enable } ∧
        (∀ c : Fin 7, t.config.enable[c] = (c.val == 6 || e.getLsbD c.val)) ∧
        (∀ c : Fin 7, t.monitor.latest[c] = (if t.config.enable[c] then s.monitor.latest[c] else none)) ∧
        ScanGoesOn t.config s.monitor.scan t.monitor.scan ∧
        (∀ k : Fin 8, s.config.scan[k].used = true →
          s.config.enable[s.config.scan[k].channel] ≠ t.config.enable[s.config.scan[k].channel] →
          t.filter k = ⟨if t.config.enable[s.config.scan[k].channel] then .clear else .idle, 0, 0⟩ ∧
          (t.cond (slotCond k)).asserted = false)) ∧
    (∀ i : Fin 8,
      let volts := (#v[30, 33, 36, 38, 40, 42, 44, 46] : Vector Nat 8)[i]
      let under := if s.monitor.comparator then decide (mV ≤ 1000 * (volts + 1)) else decide (mV < 1000 * volts)
      ∃ t, exec (.comparatorRecord .ride false [6, 0, BitVec.ofNat 8 i.val] mV) s = .next t ∧
        (t.port .ride).verdicts = (s.port .ride).verdicts ++ [.taken] ∧
        t.config = { s.config with threshold := i } ∧ t.monitor = { s.monitor with comparator := under } ∧
        (∀ k, k ≠ 8 → t.cond k = s.cond k) ∧ (under = s.monitor.comparator → t.cond 8 = s.cond 8) ∧
        ((s.cond 8).asserted = s.monitor.comparator → under ≠ s.monitor.comparator → t.cond 8 =
          ⟨under, if under then some (BitVec.ofNat 16 (10 * volts)) else (s.cond 8).detail, !(s.cond 8).unsent⟩)) ∧
    (∀ hb tw r1 r0 aw sp p1 p0 sl ml : Byte, timingInRange [hb, tw, r1, r0, aw, sp, p1, p0, sl, ml] →
      ∃ t, exec (.timingRecord .ride false [7, 0, hb, tw, r1, r0, aw, sp, p1, p0, sl, ml]) s = .next t ∧
        (t.port .ride).verdicts = (s.port .ride).verdicts ++ [.taken] ∧
        t.config = { s.config with timing := ⟨hb.toNat, tw.toNat, 256 * r1.toNat + r0.toNat, aw.toNat, sp.toNat,
          256 * p1.toNat + p0.toNat, sl.toNat, ml.toNat⟩ } ∧
        t.monitor = { s.monitor with
          scanTimer := s.monitor.scanTimer.map (fun left => sp.toNat - (s.config.timing.scanPeriod - left)) } ∧
        t.ladder = s.ladder ∧ t.motion = s.motion ∧ t.publication = s.publication ∧ t.faults = s.faults ∧
        t.intake = s.intake ∧ t.device = s.device) ∧
    (∀ a b c d e : Byte, weightInRange [a, b, c, d, e] → exec (.weightRecord .ride false [8, 0, a, b, c, d, e]) s =
        written { s.config with weights := ⟨a.toNat, b.toNat, c.toNat, d.toNat, e.toNat⟩ })

/-- A READ: MALFORMED, QUEUE_FULL, or its reply queued; and which payloads a READ of each target takes. MALFORMED is said of
the payloads that a READ of no target takes, under each row. -/
def Obligations.ReadsAreAnswered : Prop :=
  (∀ (p : Station) (payload : List Byte) (s : State), s.takes p → ∀ x ∈ readCommands p false payload,
    ((∀ y ∈ readCommands p false payload, y.2 = none) → exec x.1 s = .next (s.answered p .malformed)) ∧
    (∀ r, x.2 = some r →
      (16 ≤ (s.port p).replies.length → exec x.1 s = .next (s.answered p .queueFull)) ∧
      ((s.port p).replies.length < 16 → exec x.1 s =
        .next (State.answered (s.modPort p fun o => { o with replies := o.replies ++ [r] }) p .taken)))) ∧
  (∀ (first : Fin 48) (n : Nat), 1 ≤ n → n ≤ 48 →
    parseReadTable [0, BitVec.ofNat 8 first.val, BitVec.ofNat 8 n] = some (.table first n)) ∧
  (∀ e : Fin 48, parseReadEntry [1, BitVec.ofNat 8 e.val] = some (.entry e)) ∧
  (∀ (b : Fin 8) (offset : Nat), offset ≤ 239 →
    parseReadSnapshot [2, BitVec.ofNat 8 b.val, BitVec.ofNat 8 offset] = some (.snapshot b offset)) ∧
  (∀ payload r, parseReadTable payload = some r → ∃ f n : Byte, payload = [0, f, n] ∧ f.toNat < 48 ∧
    1 ≤ n.toNat ∧ n.toNat ≤ 48) ∧
  (∀ payload r, parseReadEntry payload = some r → ∃ e : Byte, payload = [1, e] ∧ e.toNat < 48) ∧
  (∀ payload r, parseReadSnapshot payload = some r → ∃ b o : Byte, payload = [2, b, o] ∧ b.toNat < 8 ∧ o.toNat ≤ 239) ∧
  (∀ payload r, parseReadPlain 3 .envelope payload = some r ↔ payload = [3] ∧ r = .envelope) ∧
  (∀ payload r, parseReadPlain 4 .monitor payload = some r ↔ payload = [4] ∧ r = .monitor) ∧
  (∀ payload r, parseReadPlain 5 .overflow payload = some r ↔ payload = [5] ∧ r = .overflow) ∧
  (∀ payload r, parseReadPlain 6 .ident payload = some r ↔ payload = [6] ∧ r = .ident)

/-- A READ_REPLY never exceeds the port's declared max frame. -/
def Obligations.RepliesFitTheMaxFrame : Prop :=
  ∀ (s : State) (p : Station) (m : Nat) (r : ReadTarget), (s.port p).maxFrame = some m → 32 ≤ m →
    (s.replyBytes p r).length ≤ m

/-- What the replies hold byte by byte: TABLE, ENTRY, SNAPSHOT, ENVELOPE, MONITOR, OVERFLOW and IDENT, cut where a field no
longer fits; and the payloads of ENVELOPE, RECEIPT and NOTICE. -/
def Obligations.RepliesHoldTheirFields : Prop :=
  let yes := fun (b : Bool) => if b then (1 : Byte) else 0
  let index := fun (o : Option Nat) => match o with | some i => byteOf i | none => (0xFF : Byte)
  let four := fun (n : Nat) => [byteOf (n / 16777216), byteOf (n / 65536), byteOf (n / 256), byteOf n]
  let two := fun (n : Nat) => [byteOf (n / 256), byteOf n]
  let sources := fun (t : SourceSet) => byteOf
    (t.ride.toNat + 2 * t.front.toNat + 4 * t.rear.toNat + 8 * t.pack.toNat + 16 * t.self.toNat)
  let axle := fun (a : AxleState) => match a with
    | .drive => (0 : Byte) | .regenOnly => 1 | .cut => 2 | .absent => 3
  let six := fun (l : Limits) => [byteOf l.level.val, axle l.front, axle l.rear, yes l.regenPermitted,
    byteOf l.packCeiling, yes l.packOpen]
  (∀ (s : State) (p : Station) (m : Nat), (s.port p).maxFrame = some m → 32 ≤ m →
    (∀ (first : Fin 48) (count : Nat), 1 ≤ count → count ≤ 48 →
      let n := min (min count (48 - first.val)) ((m - 3) / 4)
      (s.replyBytes p (.table first count)).length = 3 + 4 * n ∧
        (s.replyBytes p (.table first count)).take 3 = [0, byteOf first.val, byteOf n] ∧
        ∀ e : Fin 48, first.val ≤ e.val → e.val < first.val + n →
          ((s.replyBytes p (.table first count)).drop (3 + 4 * (e.val - first.val))).take 4 =
            [byteOf (s.entry e).state.code, byteOf (s.entry e).zone.val, byteOf (s.entry e).cls.val,
              index ((s.entry e).root.map Fin.val)]) ∧
    (∀ i : Fin 48,
      let e := s.entry i
      s.replyBytes p (.entry i) = List.take (if m = 33 then 32 else m)
        ([1, byteOf i.val, byteOf e.state.code, byteOf e.zone.val, byteOf e.cls.val, byteOf e.episode] ++
          four e.openedAt.toNat ++ four e.stateSince.toNat ++ four e.lastReportAt.toNat ++ two e.reportCount ++
          [sources e.witness, sources e.present, byteOf e.recurrence, index (e.root.map Fin.val)] ++
          (match e.demand with
            | none => [0xFF, 0, 0, 0, 0, 0]
            | some d => [byteOf d.level.val, byteOf (axleActionCode d.action), byteOf (axleFieldCode d.axles),
                yes d.regenInhibit, byteOf d.packCeiling, byteOf (packActionCode d.packAction)]) ++
          [match e.outcome with | none => 0 | some .dismissed => 1 | some .healed => 2 | some .cleared => 3,
            yes e.detail.isSome] ++ two (e.detail.getD 0).toNat ++
          [index (e.snapshot.map Fin.val), yes e.snapshotLost])) ∧
    (∀ (b : Fin 8) (offset : Nat), s.replyBytes p (.snapshot b offset) =
      [2, byteOf b.val, byteOf offset,
        match (s.buffer b).owner with | .free => 0 | .pending _ => 1 | .entry _ => 2,
        match (s.buffer b).owner with | .entry e => byteOf e.val | _ => 0xFF,
        byteOf (s.buffer b).data.length, yes (s.buffer b).complete] ++
          ((s.buffer b).data.drop offset).take (m - 7)) ∧
    (s.replyBytes p .envelope = 3 :: envelopeBytes s.ladder.published ++ four s.ladder.adopted.generation ++
      six s.ladder.inForce.limits ++ six s.ladder.target.limits ++
      [match s.ladder.relax with | .idle => 0 | .holding => 1 | .due => 2]) ∧
    (StatusFormsHold s →
      let held := fun (o : Option StatusRec) (n : Nat) => match o with
        | some (.ride throttle brake) => [1, byteOf throttle, yes brake]
        | some (.inverter speed temperature) => 1 :: two speed ++ [temperature]
        | some (.pack voltage current charge) => 1 :: two voltage ++ two current.toNat ++ [byteOf charge]
        | none => List.replicate n 0
      let groups := [4, byteOf ((List.finRange 7).foldr (fun c n => s.config.enable[c].toNat + 2 * n) 0)] ::
        (List.finRange 7).flatMap (fun c => match s.monitor.latest[c] with
          | some v => two v.toNat
          | none => [0xFF, 0xFF]) ::
        (List.finRange 8).map (fun k => match (s.filter k).state with
          | .unused => 0 | .idle => 1 | .clear => 2 | .asserted => 3) ::
        [byteOf s.config.threshold.val, yes s.monitor.comparator] ::
        held s.ports.ride.status 3 :: held s.ports.front.status 4 :: held s.ports.rear.status 4 ::
        [held s.ports.pack.status 6]
      (43 ≤ m → s.replyBytes p .monitor = groups.flatten) ∧
        s.replyBytes p .monitor <+: groups.flatten ∧
        (m < 43 → (s.replyBytes p .monitor).length = (if m = 35 ∨ m = 39 ∨ m = 41 then m - 1 else m))) ∧
    ((s.replyBytes p .overflow).length = 10 ∧ (s.replyBytes p .overflow).take 2 =
        [5, byteOf ((List.finRange 64).countP fun c => s.faults.overflow[c])] ∧
      ∀ c : Fin 64, ((s.replyBytes p .overflow).getD (2 + c.val / 8) 0).getLsbD (c.val % 8) = s.faults.overflow[c]) ∧
    (s.device.state = .configure ∨ s.device.state = .run → s.replyBytes p .ident = [6,
      if s.device.state = .configure then 1 else 2,
      match s.device.topology with | .rearOnly => 0 | .frontOnly => 1 | .dual => 2 | .dualUnsupervised => 3,
      byteOf ((if s.device.topology.present .ride then 1 else 0) + (if s.device.topology.present .front then 2 else 0) +
        (if s.device.topology.present .rear then 4 else 0) + (if s.device.topology.present .pack then 8 else 0)),
      match s.device.check with | .none => 0 | .failed n => byteOf n | .passed => 8,
      match s.device.way with | .notYet => 0 | .commit => 1 | .expiryPassed => 2 | .expiryDefaults => 3] ++
        two (s.device.configureWindow.getD 0))) ∧
  (∀ e : Envelope, envelopeBytes e = four e.generation ++
    [byteOf e.limits.level.val, axle e.limits.front, axle e.limits.rear, byteOf e.torque, byteOf e.speed,
      yes e.limits.regenPermitted, byteOf e.limits.packCeiling, yes e.limits.packOpen, index (e.cause.map Fin.val),
      yes e.overflow]) ∧
  (∀ r : Receipt, receiptBytes r = byteOf r.verdicts.length :: r.verdicts.map (fun v => byteOf
      ([Verdict.taken, .takenNoBuffer, .queueFull, .malformed, .unknownZone, .unknownClass, .notPermitted, .wrongState,
        .notParked, .stillPresent, .notFound, .notLatched, .snapshotDropped, .inconsistent].idxOf v)) ++
    [byteOf r.discards, byteOf r.free, yes r.filling,
      match r.outcome with | .none => 0 | .complete => 1 | .truncated => 2 | .dropped => 3]) ∧
  ∀ (overflowLevel : Level) (f : FaultTable),
    let among := fun (x : EntryState) => byteOf ((List.finRange 48).countP fun e => f.entries[e].state == x)
    ∃ high : Level, noticeBytes overflowLevel f =
        [among .free, among .suspect, among .confirmed, among .healing, among .latched, among .retired, byteOf high.val,
          byteOf ((List.finRange 64).countP fun c => f.overflow[c]), yes f.highWater] ∧
      (∀ (e : Fin 48) d, f.entries[e].contributing = true → f.entries[e].demand = some d → d.level ≤ high) ∧
      ((∃ c : Fin 64, f.overflow[c] = true) → overflowLevel ≤ high) ∧
      (high = 0 ∨ ((∃ c : Fin 64, f.overflow[c] = true) ∧ high = overflowLevel) ∨
        ∃ (e : Fin 48) (d : Demand), f.entries[e].contributing = true ∧ f.entries[e].demand = some d ∧ high = d.level)

/-! ### The line -/

/-- The CRC: its start, its step, its check value, that a receiver ends at zero, and that a received frame is judged so. -/
def Obligations.CrcOfAnIntactFrameIsZero : Prop :=
  crc16 [] = 0xFFFF ∧
    (∀ (l : List Byte) (b : Byte), crc16 (l ++ [b]) =
      (List.range 8).foldl (fun r _ => if r.msb then (r <<< 1) ^^^ 0x1021 else r <<< 1)
        (crc16 l ^^^ (b.setWidth 16 <<< 8))) ∧
    crc16 [0x31, 0x32, 0x33, 0x34, 0x35, 0x36, 0x37, 0x38, 0x39] = 0x29B1 ∧
    (∀ l : List Byte, crc16 (l ++ bytes16 (crc16 l).toNat) = 0) ∧
    (∀ (kind : Byte) (turn : Bool) (payload : List Byte),
      let body := [kind, byteOf turn.toNat, byteOf payload.length] ++ payload
      frameBytes kind turn payload = 0xB7 :: body ++ [byteOf ((crc16 body).toNat / 256), byteOf (crc16 body).toNat]) ∧
    (∀ (kind flags hi lo : Byte) (payload : List Byte), payload.length ≤ 255 →
      let covered := [kind, flags, byteOf payload.length] ++ payload ++ [hi, lo]
      receive (0xB7 :: covered) = [.frame kind flags payload (decide (crc16 covered = 0))]) ∧
    (∀ (p : Station) (mV : Nat) (kind flags : Byte) (payload : List Byte),
      commandOf p mV (.frame kind flags payload false) = .discardedFrame p .badCrc)

/-- What the E410 puts on the line, its own receiver takes back whole: kind, TURN flag and payload, with the CRC passing; and
bytes sent as bits, with the line then idle, are read back as those bytes. The levels of the bits are presumed, log 37. -/
def Obligations.FramesReadBackWhole : Prop :=
  (∀ (kind : Byte) (turn : Bool) (payload : List Byte), payload.length ≤ 255 →
    receive (frameBytes kind turn payload) = [.frame kind (byteOf turn.toNat) payload true]) ∧
  (∀ b : Byte, byteLevels b = [false, b.getLsbD 0, b.getLsbD 1, b.getLsbD 2, b.getLsbD 3, b.getLsbD 4, b.getLsbD 5,
    b.getLsbD 6, b.getLsbD 7, true]) ∧
  (∀ (l : List Byte) (n : Nat), l ≠ [] → 40 ≤ n →
    LineReader.idle.read (lineLevels l ++ List.replicate n true) = [l]) ∧
  ∀ (l : List Byte) (n : Nat), n < 40 → LineReader.idle.read (lineLevels l ++ List.replicate n true) = []

/-! ### Conditions that every step keeps -/

/-- The hard lines follow the in-force envelope, and that envelope is the stricter of the published and the adopted one. -/
def Obligations.EveryStepKeepsTheHardLines : Prop :=
  ∀ s t : State, LinesFollow s → InForceIsStricter s → step s = .next t → LinesFollow t ∧ InForceIsStricter t

/-- In RUN the published envelope covers the target that the demands in force ask, and so each of those demands. -/
def Obligations.EveryStepCoversTheDemands : Prop :=
  (∀ s t : State, DemandsCovered s → step s = .next t → DemandsCovered t) ∧
  (∀ s : State, DemandsCovered s → s.device.state = .run →
    (∀ e d, (s.entry e).contributing = true → (s.entry e).demand = some d →
      (d.asks s.device.topology s.ladder.parked).someStricter s.ladder.published.limits = false) ∧
    (s.faults.anyCell = true → s.config.overflowLevel.val ≤ s.ladder.published.limits.level.val))

/-- The published level is at least L4 while no axle of the published envelope drives. -/
def Obligations.EveryStepKeepsTheAxleLossLevel : Prop :=
  ∀ s t : State, AxleLossHolds s → step s = .next t → AxleLossHolds t

/-- Zone 15 and class 21 keep their fixed values, and no short queue holds more than 8 reports. -/
def Obligations.EveryStepKeepsFixedRecordsAndQueues : Prop :=
  ∀ s t : State, FixedRecordsHold s → QueuesFit s → step s = .next t → FixedRecordsHold t ∧ QueuesFit t

/-- No port has adopted a generation that was not published, and the completion flag tells whether a port owes. -/
def Obligations.EveryStepKeepsTheAdoptionRecords : Prop :=
  ∀ s t : State, GenerationsFit s → CompletionAgrees s → step s = .next t → GenerationsFit t ∧ CompletionAgrees t

/-- No two entries hold one pair, a FREE entry runs no timer, and in RUN every active entry has the root that the supply tree
gives it and no other entry has one (R82, R103: when the roots are found is log 18). -/
def Obligations.EveryStepKeepsPairsAndRoots : Prop :=
  ∀ s t : State, step s = .next t → (PairsDistinct s → PairsDistinct t) ∧ (RootsHold s → RootsHold t)

/-- The snapshot buffers and the assemblies that write them agree, no buffer exceeds its 240 bytes, and buffers and the entries
and reports that own them name each other. -/
def Obligations.EveryStepKeepsTheSnapshotPool : Prop :=
  ∀ s t : State, step s = .next t → (SnapshotsFit s → SnapshotsFit t) ∧ (BuffersOwned s → BuffersOwned t)

/-- Ports are OFFLINE in RESET and STANDBY, and the ports of absent stations in every state; the Ladder and the Fault Table
hold the PARKED state of Motion; each port holds a STATUS of its own station's form; and the configure window runs in CONFIGURE
only. -/
def Obligations.EveryStepKeepsPortsAndParked : Prop :=
  ∀ s t : State, step s = .next t → (PortsFollow s → PortsFollow t) ∧ (ParkedAgrees s → ParkedAgrees t) ∧
    (StatusFormsHold s → StatusFormsHold t) ∧ (WindowInConfigure s → WindowInConfigure t)

/-- The configurable records change only in CONFIGURE and at a reset, and the latched topology only at a reset. -/
def Obligations.RecordsChangeOnlyInConfigure : Prop :=
  ∀ s t : State, step s = .next t → WindowInConfigure s →
    (∀ c, s.pending.head? = some c → c ≠ .powerOn ∧ c ≠ .resetNLow ∧ ∀ a b k v, c ≠ .resetEnd a b k v) →
    t.device.topology = s.device.topology ∧ (s.device.state ≠ .configure → t.config = s.config)

/-- Every one of these conditions holds at reset. -/
def Obligations.ConditionsHoldAtReset : Prop :=
  LinesFollow State.reset ∧ InForceIsStricter State.reset ∧ DemandsCovered State.reset ∧ AxleLossHolds State.reset ∧
    FixedRecordsHold State.reset ∧ QueuesFit State.reset ∧ GenerationsFit State.reset ∧ CompletionAgrees State.reset ∧
    ParkedAgrees State.reset ∧ PairsDistinct State.reset ∧ RootsHold State.reset ∧ SnapshotsFit State.reset ∧
    BuffersOwned State.reset ∧ PortsFollow State.reset ∧ StatusFormsHold State.reset ∧ WindowInConfigure State.reset
end

