-- ==== Sys2Proof/Laws/State.lean ====
section
/-!
SUPPORT. Reading after writing: the small containers, and each field of State after each accessor's update.
-/
namespace Sys2Proof

/-! ### Containers -/

@[simp] theorem PerStation.get_put_same {α : Type} (t : PerStation α) (p : Station) (x : α) : (t.put p x).get p = x := by
  cases p <;> rfl

theorem PerStation.get_put_ne {α : Type} (t : PerStation α) {p q : Station} (x : α) (h : q ≠ p) :
    (t.put p x).get q = t.get q := by
  cases p <;> cases q <;> first | rfl | exact absurd rfl h

theorem PerStation.get_put {α : Type} (t : PerStation α) (p q : Station) (x : α) :
    (t.put p x).get q = if q = p then x else t.get q := by
  cases p <;> cases q <;> rfl

@[simp] theorem PerStation.get_map {α β : Type} (f : α → β) (t : PerStation α) (p : Station) :
    (t.map f).get p = f (t.get p) := by
  cases p <;> rfl

@[simp] theorem PerStation.get_tabulate {α : Type} (f : Station → α) (p : Station) :
    (PerStation.tabulate f).get p = f p := by
  cases p <;> rfl

@[simp] theorem PerSource.get_put_same {α : Type} (t : PerSource α) (q : Source) (x : α) : (t.put q x).get q = x := by
  cases q <;> rfl

theorem PerSource.get_put_ne {α : Type} (t : PerSource α) {p q : Source} (x : α) (h : q ≠ p) :
    (t.put p x).get q = t.get q := by
  cases p <;> cases q <;> first | rfl | exact absurd rfl h

theorem PerSource.get_put {α : Type} (t : PerSource α) (p q : Source) (x : α) :
    (t.put p x).get q = if q = p then x else t.get q := by
  cases p <;> cases q <;> rfl

@[simp] theorem PerSource.get_map {α β : Type} (f : α → β) (t : PerSource α) (q : Source) :
    (t.map f).get q = f (t.get q) := by
  cases q <;> rfl

theorem getElem_putAt {α : Type} {n : Nat} (v : Vector α n) (i j : Fin n) (x : α) :
    (putAt v i x)[j] = if j = i then x else v[j] := by
  simp [putAt, Vector.getElem_set, Fin.ext_iff, eq_comm]

theorem getElem_putAt_same {α : Type} {n : Nat} (v : Vector α n) (i : Fin n) (x : α) : (putAt v i x)[i] = x := by
  simp [putAt]

theorem getElem_putAt_ne {α : Type} {n : Nat} (v : Vector α n) {i j : Fin n} (x : α) (h : j ≠ i) :
    (putAt v i x)[j] = v[j] := by
  rw [getElem_putAt, if_neg h]

theorem getElem_tabulate {α : Type} {n : Nat} (f : Fin n → α) (i : Fin n) : (tabulate f)[i] = f i := by
  simp [tabulate]

theorem getElem_mapTable {α β : Type} {n : Nat} (f : α → β) (v : Vector α n) (i : Fin n) :
    (mapTable f v)[i] = f v[i] := by
  simp [mapTable]

/-- The forms simp reads, with the index as a number. -/
@[simp] theorem getElem_putAt_val {α : Type} {n : Nat} (v : Vector α n) (i : Fin n) (x : α) :
    (putAt v i x)[i.val] = x := by
  simp [putAt]

@[simp] theorem getElem_tabulate_val {α : Type} {n : Nat} (f : Fin n → α) (k : Nat) (h : k < n) :
    (tabulate f)[k] = f ⟨k, h⟩ := by
  simp [tabulate]

@[simp] theorem getElem_mapTable_val {α β : Type} {n : Nat} (f : α → β) (v : Vector α n) (k : Nat) (h : k < n) :
    (mapTable f v)[k] = f v[k] := by
  simp [mapTable]

/-- A projection that every pass of a loop keeps is kept by the loop. -/
theorem foldl_keep {σ α β : Type} (f : σ → β) {g : σ → α → σ} (h : ∀ s a, f (g s a) = f s) (l : List α) (s : σ) :
    f (l.foldl g s) = f s := by
  induction l generalizing s with
  | nil => rfl
  | cons a l ih => rw [List.foldl_cons, ih, h]

/-- A condition that every pass of a loop keeps is kept by the loop. -/
theorem foldl_holds {σ α : Type} (P : σ → Prop) {g : σ → α → σ} (h : ∀ s a, P s → P (g s a)) (l : List α) (s : σ)
    (hs : P s) : P (l.foldl g s) := by
  induction l generalizing s with
  | nil => exact hs
  | cons a l ih => exact ih _ (h s a hs)

namespace Machine

/-! ### setPort -/

@[simp] theorem State.setPort_device (s : State) (p : Station) (x : Port) : (s.setPort p x).device = s.device := rfl
@[simp] theorem State.setPort_config (s : State) (p : Station) (x : Port) : (s.setPort p x).config = s.config := rfl
@[simp] theorem State.setPort_intake (s : State) (p : Station) (x : Port) : (s.setPort p x).intake = s.intake := rfl
@[simp] theorem State.setPort_pool (s : State) (p : Station) (x : Port) : (s.setPort p x).pool = s.pool := rfl
@[simp] theorem State.setPort_faults (s : State) (p : Station) (x : Port) : (s.setPort p x).faults = s.faults := rfl
@[simp] theorem State.setPort_ladder (s : State) (p : Station) (x : Port) : (s.setPort p x).ladder = s.ladder := rfl
@[simp] theorem State.setPort_lines (s : State) (p : Station) (x : Port) : (s.setPort p x).lines = s.lines := rfl
@[simp] theorem State.setPort_publication (s : State) (p : Station) (x : Port) : (s.setPort p x).publication = s.publication := rfl
@[simp] theorem State.setPort_monitor (s : State) (p : Station) (x : Port) : (s.setPort p x).monitor = s.monitor := rfl
@[simp] theorem State.setPort_motion (s : State) (p : Station) (x : Port) : (s.setPort p x).motion = s.motion := rfl
@[simp] theorem State.setPort_pending (s : State) (p : Station) (x : Port) : (s.setPort p x).pending = s.pending := rfl

/-! ### modPort -/

@[simp] theorem State.modPort_device (s : State) (p : Station) (f : Port → Port) : (s.modPort p f).device = s.device := rfl
@[simp] theorem State.modPort_config (s : State) (p : Station) (f : Port → Port) : (s.modPort p f).config = s.config := rfl
@[simp] theorem State.modPort_intake (s : State) (p : Station) (f : Port → Port) : (s.modPort p f).intake = s.intake := rfl
@[simp] theorem State.modPort_pool (s : State) (p : Station) (f : Port → Port) : (s.modPort p f).pool = s.pool := rfl
@[simp] theorem State.modPort_faults (s : State) (p : Station) (f : Port → Port) : (s.modPort p f).faults = s.faults := rfl
@[simp] theorem State.modPort_ladder (s : State) (p : Station) (f : Port → Port) : (s.modPort p f).ladder = s.ladder := rfl
@[simp] theorem State.modPort_lines (s : State) (p : Station) (f : Port → Port) : (s.modPort p f).lines = s.lines := rfl
@[simp] theorem State.modPort_publication (s : State) (p : Station) (f : Port → Port) : (s.modPort p f).publication = s.publication := rfl
@[simp] theorem State.modPort_monitor (s : State) (p : Station) (f : Port → Port) : (s.modPort p f).monitor = s.monitor := rfl
@[simp] theorem State.modPort_motion (s : State) (p : Station) (f : Port → Port) : (s.modPort p f).motion = s.motion := rfl
@[simp] theorem State.modPort_pending (s : State) (p : Station) (f : Port → Port) : (s.modPort p f).pending = s.pending := rfl

/-! ### setEntry -/

@[simp] theorem State.setEntry_device (s : State) (e : Fin 48) (x : Entry) : (s.setEntry e x).device = s.device := rfl
@[simp] theorem State.setEntry_config (s : State) (e : Fin 48) (x : Entry) : (s.setEntry e x).config = s.config := rfl
@[simp] theorem State.setEntry_ports (s : State) (e : Fin 48) (x : Entry) : (s.setEntry e x).ports = s.ports := rfl
@[simp] theorem State.setEntry_intake (s : State) (e : Fin 48) (x : Entry) : (s.setEntry e x).intake = s.intake := rfl
@[simp] theorem State.setEntry_pool (s : State) (e : Fin 48) (x : Entry) : (s.setEntry e x).pool = s.pool := rfl
@[simp] theorem State.setEntry_ladder (s : State) (e : Fin 48) (x : Entry) : (s.setEntry e x).ladder = s.ladder := rfl
@[simp] theorem State.setEntry_lines (s : State) (e : Fin 48) (x : Entry) : (s.setEntry e x).lines = s.lines := rfl
@[simp] theorem State.setEntry_publication (s : State) (e : Fin 48) (x : Entry) : (s.setEntry e x).publication = s.publication := rfl
@[simp] theorem State.setEntry_monitor (s : State) (e : Fin 48) (x : Entry) : (s.setEntry e x).monitor = s.monitor := rfl
@[simp] theorem State.setEntry_motion (s : State) (e : Fin 48) (x : Entry) : (s.setEntry e x).motion = s.motion := rfl
@[simp] theorem State.setEntry_pending (s : State) (e : Fin 48) (x : Entry) : (s.setEntry e x).pending = s.pending := rfl
@[simp] theorem State.setEntry_faults_overflow (s : State) (e : Fin 48) (x : Entry) : (s.setEntry e x).faults.overflow = s.faults.overflow := rfl
@[simp] theorem State.setEntry_faults_parked (s : State) (e : Fin 48) (x : Entry) : (s.setEntry e x).faults.parked = s.faults.parked := rfl
@[simp] theorem State.setEntry_faults_applying (s : State) (e : Fin 48) (x : Entry) : (s.setEntry e x).faults.applying = s.faults.applying := rfl
@[simp] theorem State.setEntry_faults_highWater (s : State) (e : Fin 48) (x : Entry) : (s.setEntry e x).faults.highWater = s.faults.highWater := rfl
@[simp] theorem State.setEntry_faults_noticeDelay (s : State) (e : Fin 48) (x : Entry) : (s.setEntry e x).faults.noticeDelay = s.faults.noticeDelay := rfl
@[simp] theorem State.setEntry_faults_absoluteDelay (s : State) (e : Fin 48) (x : Entry) : (s.setEntry e x).faults.absoluteDelay = s.faults.absoluteDelay := rfl

/-! ### setBuffer -/

@[simp] theorem State.setBuffer_device (s : State) (b : Fin 8) (x : Buffer) : (s.setBuffer b x).device = s.device := rfl
@[simp] theorem State.setBuffer_config (s : State) (b : Fin 8) (x : Buffer) : (s.setBuffer b x).config = s.config := rfl
@[simp] theorem State.setBuffer_ports (s : State) (b : Fin 8) (x : Buffer) : (s.setBuffer b x).ports = s.ports := rfl
@[simp] theorem State.setBuffer_intake (s : State) (b : Fin 8) (x : Buffer) : (s.setBuffer b x).intake = s.intake := rfl
@[simp] theorem State.setBuffer_faults (s : State) (b : Fin 8) (x : Buffer) : (s.setBuffer b x).faults = s.faults := rfl
@[simp] theorem State.setBuffer_ladder (s : State) (b : Fin 8) (x : Buffer) : (s.setBuffer b x).ladder = s.ladder := rfl
@[simp] theorem State.setBuffer_lines (s : State) (b : Fin 8) (x : Buffer) : (s.setBuffer b x).lines = s.lines := rfl
@[simp] theorem State.setBuffer_publication (s : State) (b : Fin 8) (x : Buffer) : (s.setBuffer b x).publication = s.publication := rfl
@[simp] theorem State.setBuffer_monitor (s : State) (b : Fin 8) (x : Buffer) : (s.setBuffer b x).monitor = s.monitor := rfl
@[simp] theorem State.setBuffer_motion (s : State) (b : Fin 8) (x : Buffer) : (s.setBuffer b x).motion = s.motion := rfl
@[simp] theorem State.setBuffer_pending (s : State) (b : Fin 8) (x : Buffer) : (s.setBuffer b x).pending = s.pending := rfl

/-! ### setSlot -/

@[simp] theorem State.setSlot_device (s : State) (p : Station) (x : LongSlot) : (s.setSlot p x).device = s.device := rfl
@[simp] theorem State.setSlot_config (s : State) (p : Station) (x : LongSlot) : (s.setSlot p x).config = s.config := rfl
@[simp] theorem State.setSlot_ports (s : State) (p : Station) (x : LongSlot) : (s.setSlot p x).ports = s.ports := rfl
@[simp] theorem State.setSlot_pool (s : State) (p : Station) (x : LongSlot) : (s.setSlot p x).pool = s.pool := rfl
@[simp] theorem State.setSlot_faults (s : State) (p : Station) (x : LongSlot) : (s.setSlot p x).faults = s.faults := rfl
@[simp] theorem State.setSlot_ladder (s : State) (p : Station) (x : LongSlot) : (s.setSlot p x).ladder = s.ladder := rfl
@[simp] theorem State.setSlot_lines (s : State) (p : Station) (x : LongSlot) : (s.setSlot p x).lines = s.lines := rfl
@[simp] theorem State.setSlot_publication (s : State) (p : Station) (x : LongSlot) : (s.setSlot p x).publication = s.publication := rfl
@[simp] theorem State.setSlot_monitor (s : State) (p : Station) (x : LongSlot) : (s.setSlot p x).monitor = s.monitor := rfl
@[simp] theorem State.setSlot_motion (s : State) (p : Station) (x : LongSlot) : (s.setSlot p x).motion = s.motion := rfl
@[simp] theorem State.setSlot_pending (s : State) (p : Station) (x : LongSlot) : (s.setSlot p x).pending = s.pending := rfl
@[simp] theorem State.setSlot_intake_queues (s : State) (p : Station) (x : LongSlot) : (s.setSlot p x).intake.queues = s.intake.queues := rfl
@[simp] theorem State.setSlot_intake_conds (s : State) (p : Station) (x : LongSlot) : (s.setSlot p x).intake.conds = s.intake.conds := rfl
@[simp] theorem State.setSlot_intake_current (s : State) (p : Station) (x : LongSlot) : (s.setSlot p x).intake.current = s.intake.current := rfl
@[simp] theorem State.setSlot_intake_allowance (s : State) (p : Station) (x : LongSlot) : (s.setSlot p x).intake.allowance = s.intake.allowance := rfl
@[simp] theorem State.setSlot_intake_rotation (s : State) (p : Station) (x : LongSlot) : (s.setSlot p x).intake.rotation = s.intake.rotation := rfl

/-! ### setQueue -/

@[simp] theorem State.setQueue_device (s : State) (q : Source) (l : List QReport) : (s.setQueue q l).device = s.device := rfl
@[simp] theorem State.setQueue_config (s : State) (q : Source) (l : List QReport) : (s.setQueue q l).config = s.config := rfl
@[simp] theorem State.setQueue_ports (s : State) (q : Source) (l : List QReport) : (s.setQueue q l).ports = s.ports := rfl
@[simp] theorem State.setQueue_pool (s : State) (q : Source) (l : List QReport) : (s.setQueue q l).pool = s.pool := rfl
@[simp] theorem State.setQueue_faults (s : State) (q : Source) (l : List QReport) : (s.setQueue q l).faults = s.faults := rfl
@[simp] theorem State.setQueue_ladder (s : State) (q : Source) (l : List QReport) : (s.setQueue q l).ladder = s.ladder := rfl
@[simp] theorem State.setQueue_lines (s : State) (q : Source) (l : List QReport) : (s.setQueue q l).lines = s.lines := rfl
@[simp] theorem State.setQueue_publication (s : State) (q : Source) (l : List QReport) : (s.setQueue q l).publication = s.publication := rfl
@[simp] theorem State.setQueue_monitor (s : State) (q : Source) (l : List QReport) : (s.setQueue q l).monitor = s.monitor := rfl
@[simp] theorem State.setQueue_motion (s : State) (q : Source) (l : List QReport) : (s.setQueue q l).motion = s.motion := rfl
@[simp] theorem State.setQueue_pending (s : State) (q : Source) (l : List QReport) : (s.setQueue q l).pending = s.pending := rfl
@[simp] theorem State.setQueue_intake_slots (s : State) (q : Source) (l : List QReport) : (s.setQueue q l).intake.slots = s.intake.slots := rfl
@[simp] theorem State.setQueue_intake_conds (s : State) (q : Source) (l : List QReport) : (s.setQueue q l).intake.conds = s.intake.conds := rfl
@[simp] theorem State.setQueue_intake_current (s : State) (q : Source) (l : List QReport) : (s.setQueue q l).intake.current = s.intake.current := rfl
@[simp] theorem State.setQueue_intake_allowance (s : State) (q : Source) (l : List QReport) : (s.setQueue q l).intake.allowance = s.intake.allowance := rfl
@[simp] theorem State.setQueue_intake_rotation (s : State) (q : Source) (l : List QReport) : (s.setQueue q l).intake.rotation = s.intake.rotation := rfl

/-! ### setAdoption -/

@[simp] theorem State.setAdoption_device (s : State) (p : Station) (x : Adoption) : (s.setAdoption p x).device = s.device := rfl
@[simp] theorem State.setAdoption_config (s : State) (p : Station) (x : Adoption) : (s.setAdoption p x).config = s.config := rfl
@[simp] theorem State.setAdoption_ports (s : State) (p : Station) (x : Adoption) : (s.setAdoption p x).ports = s.ports := rfl
@[simp] theorem State.setAdoption_intake (s : State) (p : Station) (x : Adoption) : (s.setAdoption p x).intake = s.intake := rfl
@[simp] theorem State.setAdoption_pool (s : State) (p : Station) (x : Adoption) : (s.setAdoption p x).pool = s.pool := rfl
@[simp] theorem State.setAdoption_faults (s : State) (p : Station) (x : Adoption) : (s.setAdoption p x).faults = s.faults := rfl
@[simp] theorem State.setAdoption_ladder (s : State) (p : Station) (x : Adoption) : (s.setAdoption p x).ladder = s.ladder := rfl
@[simp] theorem State.setAdoption_lines (s : State) (p : Station) (x : Adoption) : (s.setAdoption p x).lines = s.lines := rfl
@[simp] theorem State.setAdoption_monitor (s : State) (p : Station) (x : Adoption) : (s.setAdoption p x).monitor = s.monitor := rfl
@[simp] theorem State.setAdoption_motion (s : State) (p : Station) (x : Adoption) : (s.setAdoption p x).motion = s.motion := rfl
@[simp] theorem State.setAdoption_pending (s : State) (p : Station) (x : Adoption) : (s.setAdoption p x).pending = s.pending := rfl
@[simp] theorem State.setAdoption_publication_counter (s : State) (p : Station) (x : Adoption) : (s.setAdoption p x).publication.counter = s.publication.counter := rfl
@[simp] theorem State.setAdoption_publication_members (s : State) (p : Station) (x : Adoption) : (s.setAdoption p x).publication.members = s.publication.members := rfl
@[simp] theorem State.setAdoption_publication_complete (s : State) (p : Station) (x : Adoption) : (s.setAdoption p x).publication.complete = s.publication.complete := rfl

/-! ### The item written, and the others -/

@[simp] theorem State.port_setPort (s : State) (p : Station) (x : Port) : (s.setPort p x).port p = x := by
  simp [State.port, State.setPort]

theorem State.port_setPort_ne (s : State) {p q : Station} (x : Port) (h : q ≠ p) : (s.setPort p x).port q = s.port q := by
  simp [State.port, State.setPort, PerStation.get_put_ne _ _ h]

@[simp] theorem State.port_modPort (s : State) (p : Station) (f : Port → Port) : (s.modPort p f).port p = f (s.port p) := by
  simp [State.modPort]

theorem State.port_modPort_ne (s : State) {p q : Station} (f : Port → Port) (h : q ≠ p) :
    (s.modPort p f).port q = s.port q := by
  simp [State.modPort, State.port_setPort_ne _ _ h]

@[simp] theorem State.entry_setEntry (s : State) (e : Fin 48) (x : Entry) : (s.setEntry e x).entry e = x := by
  simp [State.entry, State.setEntry]

theorem State.entry_setEntry_ne (s : State) {e i : Fin 48} (x : Entry) (h : i ≠ e) : (s.setEntry e x).entry i = s.entry i := by
  simp only [State.entry, State.setEntry]
  exact getElem_putAt_ne _ _ h

@[simp] theorem State.buffer_setBuffer (s : State) (b : Fin 8) (x : Buffer) : (s.setBuffer b x).buffer b = x := by
  simp [State.buffer, State.setBuffer]

theorem State.buffer_setBuffer_ne (s : State) {b i : Fin 8} (x : Buffer) (h : i ≠ b) :
    (s.setBuffer b x).buffer i = s.buffer i := by
  simp only [State.buffer, State.setBuffer]
  exact getElem_putAt_ne _ _ h

@[simp] theorem State.slot_setSlot (s : State) (p : Station) (x : LongSlot) : (s.setSlot p x).slot p = x := by
  simp [State.slot, State.setSlot]

theorem State.slot_setSlot_ne (s : State) {p q : Station} (x : LongSlot) (h : q ≠ p) :
    (s.setSlot p x).slot q = s.slot q := by
  simp [State.slot, State.setSlot, PerStation.get_put_ne _ _ h]

@[simp] theorem State.queue_setQueue (s : State) (q : Source) (l : List QReport) : (s.setQueue q l).queue q = l := by
  simp [State.queue, State.setQueue]

theorem State.queue_setQueue_ne (s : State) {q r : Source} (l : List QReport) (h : r ≠ q) :
    (s.setQueue q l).queue r = s.queue r := by
  simp [State.queue, State.setQueue, PerSource.get_put_ne _ _ h]

@[simp] theorem State.adoption_setAdoption (s : State) (p : Station) (x : Adoption) :
    (s.setAdoption p x).adoption p = x := by
  simp [State.adoption, State.setAdoption]

theorem State.adoption_setAdoption_ne (s : State) {p q : Station} (x : Adoption) (h : q ≠ p) :
    (s.setAdoption p x).adoption q = s.adoption q := by
  simp [State.adoption, State.setAdoption, PerStation.get_put_ne _ _ h]

/-! ### What one field decides -/

theorem State.port_congr {s t : State} (h : t.ports = s.ports) (p : Station) : t.port p = s.port p := by
  simp [State.port, h]

theorem State.entry_congr {s t : State} (h : t.faults = s.faults) (e : Fin 48) : t.entry e = s.entry e := by
  simp only [State.entry, h]

theorem State.buffer_congr {s t : State} (h : t.pool = s.pool) (b : Fin 8) : t.buffer b = s.buffer b := by
  simp only [State.buffer, h]

theorem State.slot_congr {s t : State} (h : t.intake = s.intake) (p : Station) : t.slot p = s.slot p := by
  simp [State.slot, h]

theorem State.queue_congr {s t : State} (h : t.intake = s.intake) (q : Source) : t.queue q = s.queue q := by
  simp [State.queue, h]

theorem State.cond_congr {s t : State} (h : t.intake = s.intake) (k : Fin 24) : t.cond k = s.cond k := by
  simp only [State.cond, h]

theorem State.adoption_congr {s t : State} (h : t.publication = s.publication) (p : Station) :
    t.adoption p = s.adoption p := by
  simp [State.adoption, h]

theorem State.running_congr {s t : State} (h : t.device = s.device) : t.running = s.running := by
  simp [State.running, h]

end Machine

end Sys2Proof
end

