-- ==== Sys2Proof/Laws/Frames.lean ====
section
/-!
SUPPORT. What each operation leaves alone: for every operation, the fields (and parts of fields) of State that it never
changes, as one lemma that simp splits. Loops keep what each pass keeps.
-/
set_option linter.unusedTactic false
set_option linter.unreachableTactic false
set_option linter.unnecessarySeqFocus false

namespace Sys2Proof.Machine

/-! ### Loops -/

@[simp] theorem foldl_config {α : Type} {g : State → α → State} (h : ∀ s a, (g s a).config = s.config)
    (l : List α) (s : State) : (l.foldl g s).config = s.config :=
  foldl_keep (fun x : State => x.config) h l s

@[simp] theorem foldl_config_classes {α : Type} {g : State → α → State} (h : ∀ s a, (g s a).config.classes = s.config.classes)
    (l : List α) (s : State) : (l.foldl g s).config.classes = s.config.classes :=
  foldl_keep (fun x : State => x.config.classes) h l s

@[simp] theorem foldl_config_levels {α : Type} {g : State → α → State} (h : ∀ s a, (g s a).config.levels = s.config.levels)
    (l : List α) (s : State) : (l.foldl g s).config.levels = s.config.levels :=
  foldl_keep (fun x : State => x.config.levels) h l s

@[simp] theorem foldl_config_scan {α : Type} {g : State → α → State} (h : ∀ s a, (g s a).config.scan = s.config.scan)
    (l : List α) (s : State) : (l.foldl g s).config.scan = s.config.scan :=
  foldl_keep (fun x : State => x.config.scan) h l s

@[simp] theorem foldl_config_timing {α : Type} {g : State → α → State} (h : ∀ s a, (g s a).config.timing = s.config.timing)
    (l : List α) (s : State) : (l.foldl g s).config.timing = s.config.timing :=
  foldl_keep (fun x : State => x.config.timing) h l s

@[simp] theorem foldl_config_zones {α : Type} {g : State → α → State} (h : ∀ s a, (g s a).config.zones = s.config.zones)
    (l : List α) (s : State) : (l.foldl g s).config.zones = s.config.zones :=
  foldl_keep (fun x : State => x.config.zones) h l s

@[simp] theorem foldl_device {α : Type} {g : State → α → State} (h : ∀ s a, (g s a).device = s.device)
    (l : List α) (s : State) : (l.foldl g s).device = s.device :=
  foldl_keep (fun x : State => x.device) h l s

@[simp] theorem foldl_device_clock {α : Type} {g : State → α → State} (h : ∀ s a, (g s a).device.clock = s.device.clock)
    (l : List α) (s : State) : (l.foldl g s).device.clock = s.device.clock :=
  foldl_keep (fun x : State => x.device.clock) h l s

@[simp] theorem foldl_device_state {α : Type} {g : State → α → State} (h : ∀ s a, (g s a).device.state = s.device.state)
    (l : List α) (s : State) : (l.foldl g s).device.state = s.device.state :=
  foldl_keep (fun x : State => x.device.state) h l s

@[simp] theorem foldl_device_topology {α : Type} {g : State → α → State} (h : ∀ s a, (g s a).device.topology = s.device.topology)
    (l : List α) (s : State) : (l.foldl g s).device.topology = s.device.topology :=
  foldl_keep (fun x : State => x.device.topology) h l s

@[simp] theorem foldl_faults {α : Type} {g : State → α → State} (h : ∀ s a, (g s a).faults = s.faults)
    (l : List α) (s : State) : (l.foldl g s).faults = s.faults :=
  foldl_keep (fun x : State => x.faults) h l s

@[simp] theorem foldl_faults_applying {α : Type} {g : State → α → State} (h : ∀ s a, (g s a).faults.applying = s.faults.applying)
    (l : List α) (s : State) : (l.foldl g s).faults.applying = s.faults.applying :=
  foldl_keep (fun x : State => x.faults.applying) h l s

@[simp] theorem foldl_faults_entries {α : Type} {g : State → α → State} (h : ∀ s a, (g s a).faults.entries = s.faults.entries)
    (l : List α) (s : State) : (l.foldl g s).faults.entries = s.faults.entries :=
  foldl_keep (fun x : State => x.faults.entries) h l s

@[simp] theorem foldl_faults_highWater {α : Type} {g : State → α → State} (h : ∀ s a, (g s a).faults.highWater = s.faults.highWater)
    (l : List α) (s : State) : (l.foldl g s).faults.highWater = s.faults.highWater :=
  foldl_keep (fun x : State => x.faults.highWater) h l s

@[simp] theorem foldl_faults_overflow {α : Type} {g : State → α → State} (h : ∀ s a, (g s a).faults.overflow = s.faults.overflow)
    (l : List α) (s : State) : (l.foldl g s).faults.overflow = s.faults.overflow :=
  foldl_keep (fun x : State => x.faults.overflow) h l s

@[simp] theorem foldl_faults_parked {α : Type} {g : State → α → State} (h : ∀ s a, (g s a).faults.parked = s.faults.parked)
    (l : List α) (s : State) : (l.foldl g s).faults.parked = s.faults.parked :=
  foldl_keep (fun x : State => x.faults.parked) h l s

@[simp] theorem foldl_intake {α : Type} {g : State → α → State} (h : ∀ s a, (g s a).intake = s.intake)
    (l : List α) (s : State) : (l.foldl g s).intake = s.intake :=
  foldl_keep (fun x : State => x.intake) h l s

@[simp] theorem foldl_intake_conds {α : Type} {g : State → α → State} (h : ∀ s a, (g s a).intake.conds = s.intake.conds)
    (l : List α) (s : State) : (l.foldl g s).intake.conds = s.intake.conds :=
  foldl_keep (fun x : State => x.intake.conds) h l s

@[simp] theorem foldl_intake_queues {α : Type} {g : State → α → State} (h : ∀ s a, (g s a).intake.queues = s.intake.queues)
    (l : List α) (s : State) : (l.foldl g s).intake.queues = s.intake.queues :=
  foldl_keep (fun x : State => x.intake.queues) h l s

@[simp] theorem foldl_intake_slots {α : Type} {g : State → α → State} (h : ∀ s a, (g s a).intake.slots = s.intake.slots)
    (l : List α) (s : State) : (l.foldl g s).intake.slots = s.intake.slots :=
  foldl_keep (fun x : State => x.intake.slots) h l s

@[simp] theorem foldl_ladder {α : Type} {g : State → α → State} (h : ∀ s a, (g s a).ladder = s.ladder)
    (l : List α) (s : State) : (l.foldl g s).ladder = s.ladder :=
  foldl_keep (fun x : State => x.ladder) h l s

@[simp] theorem foldl_ladder_adopted {α : Type} {g : State → α → State} (h : ∀ s a, (g s a).ladder.adopted = s.ladder.adopted)
    (l : List α) (s : State) : (l.foldl g s).ladder.adopted = s.ladder.adopted :=
  foldl_keep (fun x : State => x.ladder.adopted) h l s

@[simp] theorem foldl_ladder_parked {α : Type} {g : State → α → State} (h : ∀ s a, (g s a).ladder.parked = s.ladder.parked)
    (l : List α) (s : State) : (l.foldl g s).ladder.parked = s.ladder.parked :=
  foldl_keep (fun x : State => x.ladder.parked) h l s

@[simp] theorem foldl_ladder_published {α : Type} {g : State → α → State} (h : ∀ s a, (g s a).ladder.published = s.ladder.published)
    (l : List α) (s : State) : (l.foldl g s).ladder.published = s.ladder.published :=
  foldl_keep (fun x : State => x.ladder.published) h l s

@[simp] theorem foldl_lines {α : Type} {g : State → α → State} (h : ∀ s a, (g s a).lines = s.lines)
    (l : List α) (s : State) : (l.foldl g s).lines = s.lines :=
  foldl_keep (fun x : State => x.lines) h l s

@[simp] theorem foldl_monitor {α : Type} {g : State → α → State} (h : ∀ s a, (g s a).monitor = s.monitor)
    (l : List α) (s : State) : (l.foldl g s).monitor = s.monitor :=
  foldl_keep (fun x : State => x.monitor) h l s

@[simp] theorem foldl_monitor_comparator {α : Type} {g : State → α → State} (h : ∀ s a, (g s a).monitor.comparator = s.monitor.comparator)
    (l : List α) (s : State) : (l.foldl g s).monitor.comparator = s.monitor.comparator :=
  foldl_keep (fun x : State => x.monitor.comparator) h l s

@[simp] theorem foldl_monitor_filters {α : Type} {g : State → α → State} (h : ∀ s a, (g s a).monitor.filters = s.monitor.filters)
    (l : List α) (s : State) : (l.foldl g s).monitor.filters = s.monitor.filters :=
  foldl_keep (fun x : State => x.monitor.filters) h l s

@[simp] theorem foldl_motion {α : Type} {g : State → α → State} (h : ∀ s a, (g s a).motion = s.motion)
    (l : List α) (s : State) : (l.foldl g s).motion = s.motion :=
  foldl_keep (fun x : State => x.motion) h l s

@[simp] theorem foldl_pending {α : Type} {g : State → α → State} (h : ∀ s a, (g s a).pending = s.pending)
    (l : List α) (s : State) : (l.foldl g s).pending = s.pending :=
  foldl_keep (fun x : State => x.pending) h l s

@[simp] theorem foldl_pool {α : Type} {g : State → α → State} (h : ∀ s a, (g s a).pool = s.pool)
    (l : List α) (s : State) : (l.foldl g s).pool = s.pool :=
  foldl_keep (fun x : State => x.pool) h l s

@[simp] theorem foldl_ports {α : Type} {g : State → α → State} (h : ∀ s a, (g s a).ports = s.ports)
    (l : List α) (s : State) : (l.foldl g s).ports = s.ports :=
  foldl_keep (fun x : State => x.ports) h l s

@[simp] theorem foldl_publication {α : Type} {g : State → α → State} (h : ∀ s a, (g s a).publication = s.publication)
    (l : List α) (s : State) : (l.foldl g s).publication = s.publication :=
  foldl_keep (fun x : State => x.publication) h l s

@[simp] theorem foldl_publication_counter {α : Type} {g : State → α → State} (h : ∀ s a, (g s a).publication.counter = s.publication.counter)
    (l : List α) (s : State) : (l.foldl g s).publication.counter = s.publication.counter :=
  foldl_keep (fun x : State => x.publication.counter) h l s

/-! ### The blocks behind the ports -/

@[simp] theorem State.setCond_frame (k : Fin 24) (asserted : Bool) (detail : Option Detail) (s : State) :
    (State.setCond k asserted detail s).device = s.device ∧ (State.setCond k asserted detail s).config = s.config ∧
    (State.setCond k asserted detail s).ports = s.ports ∧ (State.setCond k asserted detail s).pool = s.pool ∧
    (State.setCond k asserted detail s).faults = s.faults ∧ (State.setCond k asserted detail s).ladder = s.ladder ∧
    (State.setCond k asserted detail s).lines = s.lines ∧
    (State.setCond k asserted detail s).publication = s.publication ∧
    (State.setCond k asserted detail s).monitor = s.monitor ∧
    (State.setCond k asserted detail s).motion = s.motion ∧
    (State.setCond k asserted detail s).pending = s.pending ∧
    (State.setCond k asserted detail s).intake.queues = s.intake.queues ∧
    (State.setCond k asserted detail s).intake.slots = s.intake.slots := by
  and_intros <;> first
    | rfl
    | (simp [State.setCond]; done)
    | (unfold State.setCond; (repeat' split) <;> simp; done)
    | (unfold State.setCond; simp only []; (repeat' split) <;> simp [*])

@[simp] theorem State.detach_frame (b : Fin 8) (p : Station) (s : State) :
    (State.detach b p s).device = s.device ∧ (State.detach b p s).config = s.config ∧
    (State.detach b p s).ports = s.ports ∧ (State.detach b p s).pool = s.pool ∧
    (State.detach b p s).faults = s.faults ∧ (State.detach b p s).ladder = s.ladder ∧
    (State.detach b p s).lines = s.lines ∧ (State.detach b p s).publication = s.publication ∧
    (State.detach b p s).monitor = s.monitor ∧ (State.detach b p s).motion = s.motion ∧
    (State.detach b p s).pending = s.pending ∧ (State.detach b p s).intake.queues = s.intake.queues ∧
    (State.detach b p s).intake.conds = s.intake.conds := by
  and_intros <;> first
    | rfl
    | (simp [State.detach]; done)
    | (unfold State.detach; (repeat' split) <;> simp; done)
    | (unfold State.detach; simp only []; (repeat' split) <;> simp [*])

@[simp] theorem State.freeBuffer_frame (b : Fin 8) (s : State) :
    (State.freeBuffer b s).device = s.device ∧ (State.freeBuffer b s).config = s.config ∧
    (State.freeBuffer b s).ports = s.ports ∧ (State.freeBuffer b s).faults = s.faults ∧
    (State.freeBuffer b s).ladder = s.ladder ∧ (State.freeBuffer b s).lines = s.lines ∧
    (State.freeBuffer b s).publication = s.publication ∧ (State.freeBuffer b s).monitor = s.monitor ∧
    (State.freeBuffer b s).motion = s.motion ∧ (State.freeBuffer b s).pending = s.pending ∧
    (State.freeBuffer b s).intake.queues = s.intake.queues ∧
    (State.freeBuffer b s).intake.conds = s.intake.conds := by
  and_intros <;> first
    | rfl
    | (simp [State.freeBuffer]; done)
    | (unfold State.freeBuffer; (repeat' split) <;> simp; done)
    | (unfold State.freeBuffer; simp only []; (repeat' split) <;> simp [*])

@[simp] theorem State.freeSnapshot_frame (o : Option (Fin 8)) (s : State) :
    (State.freeSnapshot o s).device = s.device ∧ (State.freeSnapshot o s).config = s.config ∧
    (State.freeSnapshot o s).ports = s.ports ∧ (State.freeSnapshot o s).faults = s.faults ∧
    (State.freeSnapshot o s).ladder = s.ladder ∧ (State.freeSnapshot o s).lines = s.lines ∧
    (State.freeSnapshot o s).publication = s.publication ∧ (State.freeSnapshot o s).monitor = s.monitor ∧
    (State.freeSnapshot o s).motion = s.motion ∧ (State.freeSnapshot o s).pending = s.pending ∧
    (State.freeSnapshot o s).intake.queues = s.intake.queues ∧
    (State.freeSnapshot o s).intake.conds = s.intake.conds := by
  and_intros <;> first
    | rfl
    | (simp [State.freeSnapshot]; done)
    | (unfold State.freeSnapshot; (repeat' split) <;> simp; done)
    | (unfold State.freeSnapshot; simp only []; (repeat' split) <;> simp [*])

@[simp] theorem State.unbind_frame (b : Fin 8) (s : State) :
    (State.unbind b s).device = s.device ∧ (State.unbind b s).config = s.config ∧
    (State.unbind b s).ports = s.ports ∧ (State.unbind b s).pool = s.pool ∧ (State.unbind b s).ladder = s.ladder ∧
    (State.unbind b s).lines = s.lines ∧ (State.unbind b s).publication = s.publication ∧
    (State.unbind b s).monitor = s.monitor ∧ (State.unbind b s).motion = s.motion ∧
    (State.unbind b s).pending = s.pending ∧ (State.unbind b s).intake.slots = s.intake.slots ∧
    (State.unbind b s).intake.conds = s.intake.conds ∧ (State.unbind b s).faults.parked = s.faults.parked ∧
    (State.unbind b s).faults.entries = s.faults.entries ∧ (State.unbind b s).faults.overflow = s.faults.overflow ∧
    (State.unbind b s).faults.highWater = s.faults.highWater := by
  and_intros <;> first
    | rfl
    | (simp [State.unbind]; done)
    | (unfold State.unbind; (repeat' split) <;> simp; done)
    | (unfold State.unbind; simp only []; (repeat' split) <;> simp [*])

@[simp] theorem State.loseSnapshot_frame (e : Fin 48) (s : State) :
    (State.loseSnapshot e s).device = s.device ∧ (State.loseSnapshot e s).config = s.config ∧
    (State.loseSnapshot e s).ports = s.ports ∧ (State.loseSnapshot e s).intake = s.intake ∧
    (State.loseSnapshot e s).pool = s.pool ∧ (State.loseSnapshot e s).ladder = s.ladder ∧
    (State.loseSnapshot e s).lines = s.lines ∧ (State.loseSnapshot e s).publication = s.publication ∧
    (State.loseSnapshot e s).monitor = s.monitor ∧ (State.loseSnapshot e s).motion = s.motion ∧
    (State.loseSnapshot e s).pending = s.pending ∧ (State.loseSnapshot e s).faults.parked = s.faults.parked ∧
    (State.loseSnapshot e s).faults.overflow = s.faults.overflow ∧
    (State.loseSnapshot e s).faults.applying = s.faults.applying ∧
    (State.loseSnapshot e s).faults.highWater = s.faults.highWater := by
  and_intros <;> first
    | rfl
    | (simp [State.loseSnapshot]; done)
    | (unfold State.loseSnapshot; (repeat' split) <;> simp; done)
    | (unfold State.loseSnapshot; simp only []; (repeat' split) <;> simp [*])

@[simp] theorem State.dropOwner_frame (b : Fin 8) (s : State) :
    (State.dropOwner b s).device = s.device ∧ (State.dropOwner b s).config = s.config ∧
    (State.dropOwner b s).ports = s.ports ∧ (State.dropOwner b s).pool = s.pool ∧
    (State.dropOwner b s).ladder = s.ladder ∧ (State.dropOwner b s).lines = s.lines ∧
    (State.dropOwner b s).publication = s.publication ∧ (State.dropOwner b s).monitor = s.monitor ∧
    (State.dropOwner b s).motion = s.motion ∧ (State.dropOwner b s).pending = s.pending ∧
    (State.dropOwner b s).intake.slots = s.intake.slots ∧ (State.dropOwner b s).intake.conds = s.intake.conds ∧
    (State.dropOwner b s).faults.parked = s.faults.parked ∧
    (State.dropOwner b s).faults.overflow = s.faults.overflow ∧
    (State.dropOwner b s).faults.highWater = s.faults.highWater := by
  and_intros <;> first
    | rfl
    | (simp [State.dropOwner]; done)
    | (unfold State.dropOwner; (repeat' split) <;> simp; done)
    | (unfold State.dropOwner; simp only []; (repeat' split) <;> simp [*])

@[simp] theorem State.endAssembly_frame (p : Station) (o : SlotOutcome) (s : State) :
    (State.endAssembly p o s).device = s.device ∧ (State.endAssembly p o s).config = s.config ∧
    (State.endAssembly p o s).ports = s.ports ∧ (State.endAssembly p o s).pool = s.pool ∧
    (State.endAssembly p o s).faults = s.faults ∧ (State.endAssembly p o s).ladder = s.ladder ∧
    (State.endAssembly p o s).lines = s.lines ∧ (State.endAssembly p o s).publication = s.publication ∧
    (State.endAssembly p o s).monitor = s.monitor ∧ (State.endAssembly p o s).motion = s.motion ∧
    (State.endAssembly p o s).pending = s.pending ∧ (State.endAssembly p o s).intake.queues = s.intake.queues ∧
    (State.endAssembly p o s).intake.conds = s.intake.conds := by
  and_intros <;> first
    | rfl
    | (simp [State.endAssembly]; done)
    | (unfold State.endAssembly; (repeat' split) <;> simp; done)
    | (unfold State.endAssembly; simp only []; (repeat' split) <;> simp [*])

@[simp] theorem State.truncate_frame (p : Station) (s : State) :
    (State.truncate p s).device = s.device ∧ (State.truncate p s).config = s.config ∧
    (State.truncate p s).ports = s.ports ∧ (State.truncate p s).ladder = s.ladder ∧
    (State.truncate p s).lines = s.lines ∧ (State.truncate p s).publication = s.publication ∧
    (State.truncate p s).monitor = s.monitor ∧ (State.truncate p s).motion = s.motion ∧
    (State.truncate p s).pending = s.pending ∧ (State.truncate p s).intake.conds = s.intake.conds ∧
    (State.truncate p s).faults.parked = s.faults.parked ∧
    (State.truncate p s).faults.overflow = s.faults.overflow ∧
    (State.truncate p s).faults.highWater = s.faults.highWater := by
  and_intros <;> first
    | rfl
    | (simp [State.truncate]; done)
    | (unfold State.truncate; (repeat' split) <;> simp; done)
    | (unfold State.truncate; simp only []; (repeat' split) <;> simp [*])

@[simp] theorem State.driveLines_frame (s : State) :
    (State.driveLines s).device = s.device ∧ (State.driveLines s).config = s.config ∧
    (State.driveLines s).ports = s.ports ∧ (State.driveLines s).intake = s.intake ∧
    (State.driveLines s).pool = s.pool ∧ (State.driveLines s).faults = s.faults ∧
    (State.driveLines s).ladder = s.ladder ∧ (State.driveLines s).publication = s.publication ∧
    (State.driveLines s).monitor = s.monitor ∧ (State.driveLines s).motion = s.motion ∧
    (State.driveLines s).pending = s.pending := by
  and_intros <;> first
    | rfl
    | (simp [State.driveLines]; done)
    | (unfold State.driveLines; (repeat' split) <;> simp; done)
    | (unfold State.driveLines; simp only []; (repeat' split) <;> simp [*])

@[simp] theorem State.refreshInForce_frame (s : State) :
    (State.refreshInForce s).device = s.device ∧ (State.refreshInForce s).config = s.config ∧
    (State.refreshInForce s).ports = s.ports ∧ (State.refreshInForce s).intake = s.intake ∧
    (State.refreshInForce s).pool = s.pool ∧ (State.refreshInForce s).faults = s.faults ∧
    (State.refreshInForce s).publication = s.publication ∧ (State.refreshInForce s).monitor = s.monitor ∧
    (State.refreshInForce s).motion = s.motion ∧ (State.refreshInForce s).pending = s.pending ∧
    (State.refreshInForce s).ladder.parked = s.ladder.parked ∧
    (State.refreshInForce s).ladder.published = s.ladder.published ∧
    (State.refreshInForce s).ladder.adopted = s.ladder.adopted := by
  and_intros <;> first
    | rfl
    | (simp [State.refreshInForce]; done)
    | (unfold State.refreshInForce; (repeat' split) <;> simp; done)
    | (unfold State.refreshInForce; simp only []; (repeat' split) <;> simp [*])

@[simp] theorem State.completeAdoption_frame (s : State) :
    (State.completeAdoption s).device = s.device ∧ (State.completeAdoption s).config = s.config ∧
    (State.completeAdoption s).ports = s.ports ∧ (State.completeAdoption s).intake = s.intake ∧
    (State.completeAdoption s).pool = s.pool ∧ (State.completeAdoption s).faults = s.faults ∧
    (State.completeAdoption s).publication = s.publication ∧ (State.completeAdoption s).monitor = s.monitor ∧
    (State.completeAdoption s).motion = s.motion ∧ (State.completeAdoption s).pending = s.pending ∧
    (State.completeAdoption s).ladder.parked = s.ladder.parked ∧
    (State.completeAdoption s).ladder.published = s.ladder.published := by
  and_intros <;> first
    | rfl
    | (simp [State.completeAdoption]; done)
    | (unfold State.completeAdoption; (repeat' split) <;> simp; done)
    | (unfold State.completeAdoption; simp only []; (repeat' split) <;> simp [*])

@[simp] theorem State.placeEnvelope_frame (p : Station) (s : State) :
    (State.placeEnvelope p s).device = s.device ∧ (State.placeEnvelope p s).config = s.config ∧
    (State.placeEnvelope p s).intake = s.intake ∧ (State.placeEnvelope p s).pool = s.pool ∧
    (State.placeEnvelope p s).faults = s.faults ∧ (State.placeEnvelope p s).ladder = s.ladder ∧
    (State.placeEnvelope p s).lines = s.lines ∧ (State.placeEnvelope p s).publication = s.publication ∧
    (State.placeEnvelope p s).monitor = s.monitor ∧ (State.placeEnvelope p s).motion = s.motion ∧
    (State.placeEnvelope p s).pending = s.pending := by
  and_intros <;> first
    | rfl
    | (simp [State.placeEnvelope]; done)
    | (unfold State.placeEnvelope; (repeat' split) <;> simp; done)
    | (unfold State.placeEnvelope; simp only []; (repeat' split) <;> simp [*])

@[simp] theorem State.publish_frame (l : Limits) (cause : Option (Fin 48)) (s : State) :
    (State.publish l cause s).device = s.device ∧ (State.publish l cause s).config = s.config ∧
    (State.publish l cause s).intake = s.intake ∧ (State.publish l cause s).pool = s.pool ∧
    (State.publish l cause s).faults = s.faults ∧ (State.publish l cause s).monitor = s.monitor ∧
    (State.publish l cause s).motion = s.motion ∧ (State.publish l cause s).pending = s.pending ∧
    (State.publish l cause s).ladder.parked = s.ladder.parked := by
  and_intros <;> first
    | rfl
    | (simp [State.publish]; done)
    | (unfold State.publish; (repeat' split) <;> simp; done)
    | (unfold State.publish; simp only []; (repeat' split) <;> simp [*])

@[simp] theorem State.depart_frame (p : Station) (s : State) :
    (State.depart p s).device = s.device ∧ (State.depart p s).config = s.config ∧
    (State.depart p s).ports = s.ports ∧ (State.depart p s).intake = s.intake ∧ (State.depart p s).pool = s.pool ∧
    (State.depart p s).faults = s.faults ∧ (State.depart p s).ladder = s.ladder ∧
    (State.depart p s).lines = s.lines ∧ (State.depart p s).monitor = s.monitor ∧
    (State.depart p s).motion = s.motion ∧ (State.depart p s).pending = s.pending ∧
    (State.depart p s).publication.counter = s.publication.counter := by
  and_intros <;> first
    | rfl
    | (simp [State.depart]; done)
    | (unfold State.depart; (repeat' split) <;> simp; done)
    | (unfold State.depart; simp only []; (repeat' split) <;> simp [*])

@[simp] theorem State.join_frame (p : Station) (s : State) :
    (State.join p s).device = s.device ∧ (State.join p s).config = s.config ∧ (State.join p s).intake = s.intake ∧
    (State.join p s).pool = s.pool ∧ (State.join p s).faults = s.faults ∧ (State.join p s).ladder = s.ladder ∧
    (State.join p s).lines = s.lines ∧ (State.join p s).monitor = s.monitor ∧ (State.join p s).motion = s.motion ∧
    (State.join p s).pending = s.pending ∧ (State.join p s).publication.counter = s.publication.counter := by
  and_intros <;> first
    | rfl
    | (simp [State.join]; done)
    | (unfold State.join; (repeat' split) <;> simp; done)
    | (unfold State.join; simp only []; (repeat' split) <;> simp [*])

@[simp] theorem State.setRelax_frame (moved : Bool) (s : State) :
    (State.setRelax moved s).device = s.device ∧ (State.setRelax moved s).config = s.config ∧
    (State.setRelax moved s).ports = s.ports ∧ (State.setRelax moved s).intake = s.intake ∧
    (State.setRelax moved s).pool = s.pool ∧ (State.setRelax moved s).faults = s.faults ∧
    (State.setRelax moved s).lines = s.lines ∧ (State.setRelax moved s).publication = s.publication ∧
    (State.setRelax moved s).monitor = s.monitor ∧ (State.setRelax moved s).motion = s.motion ∧
    (State.setRelax moved s).pending = s.pending ∧ (State.setRelax moved s).ladder.parked = s.ladder.parked ∧
    (State.setRelax moved s).ladder.published = s.ladder.published ∧
    (State.setRelax moved s).ladder.adopted = s.ladder.adopted := by
  and_intros <;> first
    | rfl
    | (simp [State.setRelax]; done)
    | (unfold State.setRelax; (repeat' split) <;> simp; done)
    | (unfold State.setRelax; simp only []; (repeat' split) <;> simp [*])

@[simp] theorem State.tighten_frame (s : State) :
    (State.tighten s).device = s.device ∧ (State.tighten s).config = s.config ∧
    (State.tighten s).intake = s.intake ∧ (State.tighten s).pool = s.pool ∧ (State.tighten s).faults = s.faults ∧
    (State.tighten s).monitor = s.monitor ∧ (State.tighten s).motion = s.motion ∧
    (State.tighten s).pending = s.pending ∧ (State.tighten s).ladder.parked = s.ladder.parked := by
  and_intros <;> first
    | rfl
    | (simp [State.tighten]; done)
    | (unfold State.tighten; (repeat' split) <;> simp; done)
    | (unfold State.tighten; simp only []; (repeat' split) <;> simp [*])

@[simp] theorem State.reform_frame (s : State) :
    (State.reform s).device = s.device ∧ (State.reform s).config = s.config ∧ (State.reform s).intake = s.intake ∧
    (State.reform s).pool = s.pool ∧ (State.reform s).faults = s.faults ∧ (State.reform s).monitor = s.monitor ∧
    (State.reform s).motion = s.motion ∧ (State.reform s).pending = s.pending ∧
    (State.reform s).ladder.parked = s.ladder.parked := by
  and_intros <;> first
    | rfl
    | (simp [State.reform]; done)
    | (unfold State.reform; (repeat' split) <;> simp; done)
    | (unfold State.reform; simp only []; (repeat' split) <;> simp [*])

@[simp] theorem State.tryStep_frame (s : State) :
    (State.tryStep s).device = s.device ∧ (State.tryStep s).config = s.config ∧
    (State.tryStep s).intake = s.intake ∧ (State.tryStep s).pool = s.pool ∧ (State.tryStep s).faults = s.faults ∧
    (State.tryStep s).monitor = s.monitor ∧ (State.tryStep s).motion = s.motion ∧
    (State.tryStep s).pending = s.pending ∧ (State.tryStep s).ladder.parked = s.ladder.parked := by
  and_intros <;> first
    | rfl
    | (simp [State.tryStep]; done)
    | (unfold State.tryStep; (repeat' split) <;> simp; done)
    | (unfold State.tryStep; simp only []; (repeat' split) <;> simp [*])

@[simp] theorem State.adoptionComplete_frame (s : State) :
    (State.adoptionComplete s).device = s.device ∧ (State.adoptionComplete s).config = s.config ∧
    (State.adoptionComplete s).intake = s.intake ∧ (State.adoptionComplete s).pool = s.pool ∧
    (State.adoptionComplete s).faults = s.faults ∧ (State.adoptionComplete s).monitor = s.monitor ∧
    (State.adoptionComplete s).motion = s.motion ∧ (State.adoptionComplete s).pending = s.pending ∧
    (State.adoptionComplete s).ladder.parked = s.ladder.parked := by
  and_intros <;> first
    | rfl
    | (simp [State.adoptionComplete]; done)
    | (unfold State.adoptionComplete; (repeat' split) <;> simp; done)
    | (unfold State.adoptionComplete; simp only []; (repeat' split) <;> simp [*])

@[simp] theorem State.reportParked_frame (b : Bool) (s : State) :
    (State.reportParked b s).device = s.device ∧ (State.reportParked b s).config = s.config ∧
    (State.reportParked b s).intake = s.intake ∧ (State.reportParked b s).pool = s.pool ∧
    (State.reportParked b s).monitor = s.monitor ∧ (State.reportParked b s).motion = s.motion ∧
    (State.reportParked b s).pending = s.pending ∧ (State.reportParked b s).faults.entries = s.faults.entries ∧
    (State.reportParked b s).faults.overflow = s.faults.overflow ∧
    (State.reportParked b s).faults.applying = s.faults.applying ∧
    (State.reportParked b s).faults.highWater = s.faults.highWater := by
  and_intros <;> first
    | rfl
    | (simp [State.reportParked]; done)
    | (unfold State.reportParked; (repeat' split) <;> simp; done)
    | (unfold State.reportParked; simp only []; (repeat' split) <;> simp [*])

@[simp] theorem State.settleRoots_frame (s : State) :
    (State.settleRoots s).device = s.device ∧ (State.settleRoots s).config = s.config ∧
    (State.settleRoots s).ports = s.ports ∧ (State.settleRoots s).intake = s.intake ∧
    (State.settleRoots s).pool = s.pool ∧ (State.settleRoots s).ladder = s.ladder ∧
    (State.settleRoots s).lines = s.lines ∧ (State.settleRoots s).publication = s.publication ∧
    (State.settleRoots s).monitor = s.monitor ∧ (State.settleRoots s).motion = s.motion ∧
    (State.settleRoots s).pending = s.pending ∧ (State.settleRoots s).faults.parked = s.faults.parked ∧
    (State.settleRoots s).faults.overflow = s.faults.overflow ∧
    (State.settleRoots s).faults.applying = s.faults.applying ∧
    (State.settleRoots s).faults.highWater = s.faults.highWater := by
  and_intros <;> first
    | rfl
    | (simp [State.settleRoots]; done)
    | (unfold State.settleRoots; (repeat' split) <;> simp; done)
    | (unfold State.settleRoots; simp only []; (repeat' split) <;> simp [*])

@[simp] theorem State.handNotice_frame (s : State) :
    (State.handNotice s).device = s.device ∧ (State.handNotice s).config = s.config ∧
    (State.handNotice s).intake = s.intake ∧ (State.handNotice s).pool = s.pool ∧
    (State.handNotice s).faults = s.faults ∧ (State.handNotice s).ladder = s.ladder ∧
    (State.handNotice s).lines = s.lines ∧ (State.handNotice s).publication = s.publication ∧
    (State.handNotice s).monitor = s.monitor ∧ (State.handNotice s).motion = s.motion ∧
    (State.handNotice s).pending = s.pending := by
  and_intros <;> first
    | rfl
    | (simp [State.handNotice]; done)
    | (unfold State.handNotice; (repeat' split) <;> simp; done)
    | (unfold State.handNotice; simp only []; (repeat' split) <;> simp [*])

@[simp] theorem State.stopNoticeTimers_frame (s : State) :
    (State.stopNoticeTimers s).device = s.device ∧ (State.stopNoticeTimers s).config = s.config ∧
    (State.stopNoticeTimers s).ports = s.ports ∧ (State.stopNoticeTimers s).intake = s.intake ∧
    (State.stopNoticeTimers s).pool = s.pool ∧ (State.stopNoticeTimers s).ladder = s.ladder ∧
    (State.stopNoticeTimers s).lines = s.lines ∧ (State.stopNoticeTimers s).publication = s.publication ∧
    (State.stopNoticeTimers s).monitor = s.monitor ∧ (State.stopNoticeTimers s).motion = s.motion ∧
    (State.stopNoticeTimers s).pending = s.pending ∧ (State.stopNoticeTimers s).faults.parked = s.faults.parked ∧
    (State.stopNoticeTimers s).faults.entries = s.faults.entries ∧
    (State.stopNoticeTimers s).faults.overflow = s.faults.overflow ∧
    (State.stopNoticeTimers s).faults.applying = s.faults.applying ∧
    (State.stopNoticeTimers s).faults.highWater = s.faults.highWater := by
  and_intros <;> first
    | rfl
    | (simp [State.stopNoticeTimers]; done)
    | (unfold State.stopNoticeTimers; (repeat' split) <;> simp; done)
    | (unfold State.stopNoticeTimers; simp only []; (repeat' split) <;> simp [*])

@[simp] theorem State.startNoticeTimers_frame (s : State) :
    (State.startNoticeTimers s).device = s.device ∧ (State.startNoticeTimers s).config = s.config ∧
    (State.startNoticeTimers s).ports = s.ports ∧ (State.startNoticeTimers s).intake = s.intake ∧
    (State.startNoticeTimers s).pool = s.pool ∧ (State.startNoticeTimers s).ladder = s.ladder ∧
    (State.startNoticeTimers s).lines = s.lines ∧ (State.startNoticeTimers s).publication = s.publication ∧
    (State.startNoticeTimers s).monitor = s.monitor ∧ (State.startNoticeTimers s).motion = s.motion ∧
    (State.startNoticeTimers s).pending = s.pending ∧ (State.startNoticeTimers s).faults.parked = s.faults.parked ∧
    (State.startNoticeTimers s).faults.entries = s.faults.entries ∧
    (State.startNoticeTimers s).faults.overflow = s.faults.overflow ∧
    (State.startNoticeTimers s).faults.applying = s.faults.applying ∧
    (State.startNoticeTimers s).faults.highWater = s.faults.highWater := by
  and_intros <;> first
    | rfl
    | (simp [State.startNoticeTimers]; done)
    | (unfold State.startNoticeTimers; (repeat' split) <;> simp; done)
    | (unfold State.startNoticeTimers; simp only []; (repeat' split) <;> simp [*])

@[simp] theorem State.reachHighWater_frame (s : State) :
    (State.reachHighWater s).device = s.device ∧ (State.reachHighWater s).config = s.config ∧
    (State.reachHighWater s).intake = s.intake ∧ (State.reachHighWater s).pool = s.pool ∧
    (State.reachHighWater s).ladder = s.ladder ∧ (State.reachHighWater s).lines = s.lines ∧
    (State.reachHighWater s).publication = s.publication ∧ (State.reachHighWater s).monitor = s.monitor ∧
    (State.reachHighWater s).motion = s.motion ∧ (State.reachHighWater s).pending = s.pending ∧
    (State.reachHighWater s).faults.parked = s.faults.parked ∧
    (State.reachHighWater s).faults.entries = s.faults.entries ∧
    (State.reachHighWater s).faults.overflow = s.faults.overflow ∧
    (State.reachHighWater s).faults.applying = s.faults.applying := by
  and_intros <;> first
    | rfl
    | (simp [State.reachHighWater]; done)
    | (unfold State.reachHighWater; (repeat' split) <;> simp; done)
    | (unfold State.reachHighWater; simp only []; (repeat' split) <;> simp [*])

@[simp] theorem State.notify_frame (old : FaultTable) (s : State) :
    (State.notify old s).device = s.device ∧ (State.notify old s).config = s.config ∧
    (State.notify old s).intake = s.intake ∧ (State.notify old s).pool = s.pool ∧
    (State.notify old s).ladder = s.ladder ∧ (State.notify old s).lines = s.lines ∧
    (State.notify old s).publication = s.publication ∧ (State.notify old s).monitor = s.monitor ∧
    (State.notify old s).motion = s.motion ∧ (State.notify old s).pending = s.pending ∧
    (State.notify old s).faults.parked = s.faults.parked ∧ (State.notify old s).faults.entries = s.faults.entries ∧
    (State.notify old s).faults.overflow = s.faults.overflow ∧
    (State.notify old s).faults.applying = s.faults.applying := by
  and_intros <;> first
    | rfl
    | (simp [State.notify]; done)
    | (unfold State.notify; (repeat' split) <;> simp; done)
    | (unfold State.notify; simp only []; (repeat' split) <;> simp [*])

@[simp] theorem State.tellLadder_frame (old : FaultTable) (s : State) :
    (State.tellLadder old s).device = s.device ∧ (State.tellLadder old s).config = s.config ∧
    (State.tellLadder old s).intake = s.intake ∧ (State.tellLadder old s).pool = s.pool ∧
    (State.tellLadder old s).faults = s.faults ∧ (State.tellLadder old s).monitor = s.monitor ∧
    (State.tellLadder old s).motion = s.motion ∧ (State.tellLadder old s).pending = s.pending ∧
    (State.tellLadder old s).ladder.parked = s.ladder.parked := by
  and_intros <;> first
    | rfl
    | (simp [State.tellLadder]; done)
    | (unfold State.tellLadder; (repeat' split) <;> simp; done)
    | (unfold State.tellLadder; simp only []; (repeat' split) <;> simp [*])

@[simp] theorem State.settle_frame (old : FaultTable) (s : State) :
    (State.settle old s).device = s.device ∧ (State.settle old s).config = s.config ∧
    (State.settle old s).intake = s.intake ∧ (State.settle old s).pool = s.pool ∧
    (State.settle old s).monitor = s.monitor ∧ (State.settle old s).motion = s.motion ∧
    (State.settle old s).pending = s.pending ∧ (State.settle old s).faults.parked = s.faults.parked ∧
    (State.settle old s).faults.overflow = s.faults.overflow ∧
    (State.settle old s).faults.applying = s.faults.applying ∧
    (State.settle old s).ladder.parked = s.ladder.parked := by
  and_intros <;> first
    | rfl
    | (simp [State.settle]; done)
    | (unfold State.settle; (repeat' split) <;> simp; done)
    | (unfold State.settle; simp only []; (repeat' split) <;> simp [*])

/-! ### Motion -/

@[simp] theorem State.releaseMismatch_frame (old : Motion) (s : State) :
    (State.releaseMismatch old s).device = s.device ∧ (State.releaseMismatch old s).config = s.config ∧
    (State.releaseMismatch old s).ports = s.ports ∧ (State.releaseMismatch old s).pool = s.pool ∧
    (State.releaseMismatch old s).faults = s.faults ∧ (State.releaseMismatch old s).ladder = s.ladder ∧
    (State.releaseMismatch old s).lines = s.lines ∧ (State.releaseMismatch old s).publication = s.publication ∧
    (State.releaseMismatch old s).monitor = s.monitor ∧ (State.releaseMismatch old s).motion = s.motion ∧
    (State.releaseMismatch old s).pending = s.pending ∧
    (State.releaseMismatch old s).intake.queues = s.intake.queues ∧
    (State.releaseMismatch old s).intake.slots = s.intake.slots := by
  and_intros <;> first
    | rfl
    | (simp [State.releaseMismatch]; done)
    | (unfold State.releaseMismatch; (repeat' split) <;> simp; done)
    | (unfold State.releaseMismatch; simp only []; (repeat' split) <;> simp [*])

@[simp] theorem State.moveMotion_frame (m : Motion) (s : State) :
    (State.moveMotion m s).device = s.device ∧ (State.moveMotion m s).config = s.config ∧
    (State.moveMotion m s).pool = s.pool ∧ (State.moveMotion m s).monitor = s.monitor ∧
    (State.moveMotion m s).pending = s.pending ∧ (State.moveMotion m s).intake.queues = s.intake.queues ∧
    (State.moveMotion m s).intake.slots = s.intake.slots ∧
    (State.moveMotion m s).faults.entries = s.faults.entries ∧
    (State.moveMotion m s).faults.overflow = s.faults.overflow ∧
    (State.moveMotion m s).faults.applying = s.faults.applying ∧
    (State.moveMotion m s).faults.highWater = s.faults.highWater := by
  and_intros <;> first
    | rfl
    | (simp [State.moveMotion]; done)
    | (unfold State.moveMotion; (repeat' split) <;> simp; done)
    | (unfold State.moveMotion; simp only []; (repeat' split) <;> simp [*])

@[simp] theorem State.motionPort_frame (p : Station) (s : State) :
    (State.motionPort p s).device = s.device ∧ (State.motionPort p s).config = s.config ∧
    (State.motionPort p s).pool = s.pool ∧ (State.motionPort p s).monitor = s.monitor ∧
    (State.motionPort p s).pending = s.pending ∧ (State.motionPort p s).intake.queues = s.intake.queues ∧
    (State.motionPort p s).intake.slots = s.intake.slots ∧
    (State.motionPort p s).faults.entries = s.faults.entries ∧
    (State.motionPort p s).faults.overflow = s.faults.overflow ∧
    (State.motionPort p s).faults.applying = s.faults.applying ∧
    (State.motionPort p s).faults.highWater = s.faults.highWater := by
  and_intros <;> first
    | rfl
    | (simp [State.motionPort]; done)
    | (unfold State.motionPort; (repeat' split) <;> simp; done)
    | (unfold State.motionPort; simp only []; (repeat' split) <;> simp [*])

@[simp] theorem State.motionSilence_frame (p : Station) (silent : Bool) (s : State) :
    (State.motionSilence p silent s).device = s.device ∧ (State.motionSilence p silent s).config = s.config ∧
    (State.motionSilence p silent s).ports = s.ports ∧ (State.motionSilence p silent s).pool = s.pool ∧
    (State.motionSilence p silent s).faults = s.faults ∧ (State.motionSilence p silent s).ladder = s.ladder ∧
    (State.motionSilence p silent s).lines = s.lines ∧
    (State.motionSilence p silent s).publication = s.publication ∧
    (State.motionSilence p silent s).monitor = s.monitor ∧ (State.motionSilence p silent s).motion = s.motion ∧
    (State.motionSilence p silent s).pending = s.pending ∧
    (State.motionSilence p silent s).intake.queues = s.intake.queues ∧
    (State.motionSilence p silent s).intake.slots = s.intake.slots := by
  and_intros <;> first
    | rfl
    | (simp [State.motionSilence]; done)
    | (unfold State.motionSilence; (repeat' split) <;> simp; done)
    | (unfold State.motionSilence; simp only []; (repeat' split) <;> simp [*])

/-! ### The ports -/

@[simp] theorem State.countDiscard_frame (p : Station) (s : State) :
    (State.countDiscard p s).device = s.device ∧ (State.countDiscard p s).config = s.config ∧
    (State.countDiscard p s).intake = s.intake ∧ (State.countDiscard p s).pool = s.pool ∧
    (State.countDiscard p s).faults = s.faults ∧ (State.countDiscard p s).ladder = s.ladder ∧
    (State.countDiscard p s).lines = s.lines ∧ (State.countDiscard p s).publication = s.publication ∧
    (State.countDiscard p s).monitor = s.monitor ∧ (State.countDiscard p s).motion = s.motion ∧
    (State.countDiscard p s).pending = s.pending := by
  and_intros <;> first
    | rfl
    | (simp [State.countDiscard]; done)
    | (unfold State.countDiscard; (repeat' split) <;> simp; done)
    | (unfold State.countDiscard; simp only []; (repeat' split) <;> simp [*])

@[simp] theorem State.leaveExchange_frame (p : Station) (s : State) :
    (State.leaveExchange p s).device = s.device ∧ (State.leaveExchange p s).config = s.config ∧
    (State.leaveExchange p s).ports = s.ports ∧ (State.leaveExchange p s).ladder = s.ladder ∧
    (State.leaveExchange p s).lines = s.lines ∧ (State.leaveExchange p s).monitor = s.monitor ∧
    (State.leaveExchange p s).motion = s.motion ∧ (State.leaveExchange p s).pending = s.pending ∧
    (State.leaveExchange p s).intake.conds = s.intake.conds ∧
    (State.leaveExchange p s).faults.parked = s.faults.parked ∧
    (State.leaveExchange p s).faults.overflow = s.faults.overflow ∧
    (State.leaveExchange p s).faults.highWater = s.faults.highWater ∧
    (State.leaveExchange p s).publication.counter = s.publication.counter := by
  and_intros <;> first
    | rfl
    | (simp [State.leaveExchange]; done)
    | (unfold State.leaveExchange; (repeat' split) <;> simp; done)
    | (unfold State.leaveExchange; simp only []; (repeat' split) <;> simp [*])

@[simp] theorem State.enterOffline_frame (p : Station) (s : State) :
    (State.enterOffline p s).device = s.device ∧ (State.enterOffline p s).config = s.config ∧
    (State.enterOffline p s).monitor = s.monitor ∧ (State.enterOffline p s).pending = s.pending ∧
    (State.enterOffline p s).faults.overflow = s.faults.overflow ∧
    (State.enterOffline p s).faults.highWater = s.faults.highWater := by
  and_intros <;> first
    | rfl
    | (simp [State.enterOffline]; done)
    | (unfold State.enterOffline; (repeat' split) <;> simp; done)
    | (unfold State.enterOffline; simp only []; (repeat' split) <;> simp [*])

@[simp] theorem State.enterSync_frame (p : Station) (s : State) :
    (State.enterSync p s).device = s.device ∧ (State.enterSync p s).config = s.config ∧
    (State.enterSync p s).monitor = s.monitor ∧ (State.enterSync p s).pending = s.pending ∧
    (State.enterSync p s).faults.overflow = s.faults.overflow ∧
    (State.enterSync p s).faults.highWater = s.faults.highWater := by
  and_intros <;> first
    | rfl
    | (simp [State.enterSync]; done)
    | (unfold State.enterSync; (repeat' split) <;> simp; done)
    | (unfold State.enterSync; simp only []; (repeat' split) <;> simp [*])

@[simp] theorem State.endTurn_frame (how : TurnEnd) (p : Station) (s : State) :
    (State.endTurn how p s).device = s.device ∧ (State.endTurn how p s).config = s.config ∧
    (State.endTurn how p s).pool = s.pool ∧ (State.endTurn how p s).monitor = s.monitor ∧
    (State.endTurn how p s).pending = s.pending ∧ (State.endTurn how p s).intake.queues = s.intake.queues ∧
    (State.endTurn how p s).intake.slots = s.intake.slots ∧
    (State.endTurn how p s).faults.entries = s.faults.entries ∧
    (State.endTurn how p s).faults.overflow = s.faults.overflow ∧
    (State.endTurn how p s).faults.applying = s.faults.applying ∧
    (State.endTurn how p s).faults.highWater = s.faults.highWater := by
  and_intros <;> first
    | rfl
    | (simp [State.endTurn]; done)
    | (unfold State.endTurn; (repeat' split) <;> simp; done)
    | (unfold State.endTurn; simp only []; (repeat' split) <;> simp [*])

@[simp] theorem State.restartQuiet_frame (p : Station) (s : State) :
    (State.restartQuiet p s).device = s.device ∧ (State.restartQuiet p s).config = s.config ∧
    (State.restartQuiet p s).intake = s.intake ∧ (State.restartQuiet p s).pool = s.pool ∧
    (State.restartQuiet p s).faults = s.faults ∧ (State.restartQuiet p s).ladder = s.ladder ∧
    (State.restartQuiet p s).lines = s.lines ∧ (State.restartQuiet p s).publication = s.publication ∧
    (State.restartQuiet p s).monitor = s.monitor ∧ (State.restartQuiet p s).motion = s.motion ∧
    (State.restartQuiet p s).pending = s.pending := by
  and_intros <;> first
    | rfl
    | (simp [State.restartQuiet]; done)
    | (unfold State.restartQuiet; (repeat' split) <;> simp; done)
    | (unfold State.restartQuiet; simp only []; (repeat' split) <;> simp [*])

@[simp] theorem State.refuseFrame_frame (p : Station) (s : State) :
    (State.refuseFrame p s).device = s.device ∧ (State.refuseFrame p s).config = s.config ∧
    (State.refuseFrame p s).intake = s.intake ∧ (State.refuseFrame p s).pool = s.pool ∧
    (State.refuseFrame p s).faults = s.faults ∧ (State.refuseFrame p s).ladder = s.ladder ∧
    (State.refuseFrame p s).lines = s.lines ∧ (State.refuseFrame p s).publication = s.publication ∧
    (State.refuseFrame p s).monitor = s.monitor ∧ (State.refuseFrame p s).motion = s.motion ∧
    (State.refuseFrame p s).pending = s.pending := by
  and_intros <;> first
    | rfl
    | (simp [State.refuseFrame]; done)
    | (unfold State.refuseFrame; (repeat' split) <;> simp; done)
    | (unfold State.refuseFrame; simp only []; (repeat' split) <;> simp [*])

@[simp] theorem State.refuseBroken_frame (p : Station) (s : State) :
    (State.refuseBroken p s).device = s.device ∧ (State.refuseBroken p s).config = s.config ∧
    (State.refuseBroken p s).intake = s.intake ∧ (State.refuseBroken p s).pool = s.pool ∧
    (State.refuseBroken p s).faults = s.faults ∧ (State.refuseBroken p s).ladder = s.ladder ∧
    (State.refuseBroken p s).lines = s.lines ∧ (State.refuseBroken p s).publication = s.publication ∧
    (State.refuseBroken p s).monitor = s.monitor ∧ (State.refuseBroken p s).motion = s.motion ∧
    (State.refuseBroken p s).pending = s.pending := by
  and_intros <;> first
    | rfl
    | (simp [State.refuseBroken]; done)
    | (unfold State.refuseBroken; (repeat' split) <;> simp; done)
    | (unfold State.refuseBroken; simp only []; (repeat' split) <;> simp [*])

@[simp] theorem State.addVerdict_frame (p : Station) (v : Verdict) (s : State) :
    (State.addVerdict p v s).device = s.device ∧ (State.addVerdict p v s).config = s.config ∧
    (State.addVerdict p v s).intake = s.intake ∧ (State.addVerdict p v s).pool = s.pool ∧
    (State.addVerdict p v s).faults = s.faults ∧ (State.addVerdict p v s).ladder = s.ladder ∧
    (State.addVerdict p v s).lines = s.lines ∧ (State.addVerdict p v s).publication = s.publication ∧
    (State.addVerdict p v s).monitor = s.monitor ∧ (State.addVerdict p v s).motion = s.motion ∧
    (State.addVerdict p v s).pending = s.pending := by
  and_intros <;> first
    | rfl
    | (simp [State.addVerdict]; done)
    | (unfold State.addVerdict; (repeat' split) <;> simp; done)
    | (unfold State.addVerdict; simp only []; (repeat' split) <;> simp [*])

@[simp] theorem State.synchronised_frame (p : Station) (s : State) :
    (State.synchronised p s).device = s.device ∧ (State.synchronised p s).config = s.config ∧
    (State.synchronised p s).pool = s.pool ∧ (State.synchronised p s).monitor = s.monitor ∧
    (State.synchronised p s).pending = s.pending ∧ (State.synchronised p s).intake.queues = s.intake.queues ∧
    (State.synchronised p s).intake.slots = s.intake.slots ∧
    (State.synchronised p s).faults.entries = s.faults.entries ∧
    (State.synchronised p s).faults.overflow = s.faults.overflow ∧
    (State.synchronised p s).faults.applying = s.faults.applying ∧
    (State.synchronised p s).faults.highWater = s.faults.highWater := by
  and_intros <;> first
    | rfl
    | (simp [State.synchronised]; done)
    | (unfold State.synchronised; (repeat' split) <;> simp; done)
    | (unfold State.synchronised; simp only []; (repeat' split) <;> simp [*])

@[simp] theorem State.frameSent_frame (p : Station) (turn : Bool) (s : State) :
    (State.frameSent p turn s).device = s.device ∧ (State.frameSent p turn s).config = s.config ∧
    (State.frameSent p turn s).intake = s.intake ∧ (State.frameSent p turn s).pool = s.pool ∧
    (State.frameSent p turn s).faults = s.faults ∧ (State.frameSent p turn s).ladder = s.ladder ∧
    (State.frameSent p turn s).lines = s.lines ∧ (State.frameSent p turn s).publication = s.publication ∧
    (State.frameSent p turn s).monitor = s.monitor ∧ (State.frameSent p turn s).motion = s.motion ∧
    (State.frameSent p turn s).pending = s.pending := by
  and_intros <;> first
    | rfl
    | (simp [State.frameSent]; done)
    | (unfold State.frameSent; (repeat' split) <;> simp; done)
    | (unfold State.frameSent; simp only []; (repeat' split) <;> simp [*])

/-! ### The Fault Table -/

@[simp] theorem State.freeEntry_frame (e : Fin 48) (s : State) :
    (State.freeEntry e s).device = s.device ∧ (State.freeEntry e s).config = s.config ∧
    (State.freeEntry e s).ports = s.ports ∧ (State.freeEntry e s).ladder = s.ladder ∧
    (State.freeEntry e s).lines = s.lines ∧ (State.freeEntry e s).publication = s.publication ∧
    (State.freeEntry e s).monitor = s.monitor ∧ (State.freeEntry e s).motion = s.motion ∧
    (State.freeEntry e s).pending = s.pending ∧ (State.freeEntry e s).intake.queues = s.intake.queues ∧
    (State.freeEntry e s).intake.conds = s.intake.conds ∧ (State.freeEntry e s).faults.parked = s.faults.parked ∧
    (State.freeEntry e s).faults.overflow = s.faults.overflow ∧
    (State.freeEntry e s).faults.applying = s.faults.applying ∧
    (State.freeEntry e s).faults.highWater = s.faults.highWater := by
  and_intros <;> first
    | rfl
    | (simp [State.freeEntry]; done)
    | (unfold State.freeEntry; (repeat' split) <;> simp; done)
    | (unfold State.freeEntry; simp only []; (repeat' split) <;> simp [*])

@[simp] theorem State.openEntry_frame (e : Fin 48) (r : QReport) (s : State) :
    (State.openEntry e r s).device = s.device ∧ (State.openEntry e r s).config = s.config ∧
    (State.openEntry e r s).ports = s.ports ∧ (State.openEntry e r s).intake = s.intake ∧
    (State.openEntry e r s).pool = s.pool ∧ (State.openEntry e r s).ladder = s.ladder ∧
    (State.openEntry e r s).lines = s.lines ∧ (State.openEntry e r s).publication = s.publication ∧
    (State.openEntry e r s).monitor = s.monitor ∧ (State.openEntry e r s).motion = s.motion ∧
    (State.openEntry e r s).pending = s.pending ∧ (State.openEntry e r s).faults.parked = s.faults.parked ∧
    (State.openEntry e r s).faults.overflow = s.faults.overflow ∧
    (State.openEntry e r s).faults.applying = s.faults.applying ∧
    (State.openEntry e r s).faults.highWater = s.faults.highWater := by
  and_intros <;> first
    | rfl
    | (simp [State.openEntry]; done)
    | (unfold State.openEntry; (repeat' split) <;> simp; done)
    | (unfold State.openEntry; simp only []; (repeat' split) <;> simp [*])

@[simp] theorem State.setCell_frame (r : QReport) (s : State) :
    (State.setCell r s).device = s.device ∧ (State.setCell r s).config = s.config ∧
    (State.setCell r s).ports = s.ports ∧ (State.setCell r s).intake = s.intake ∧
    (State.setCell r s).pool = s.pool ∧ (State.setCell r s).ladder = s.ladder ∧
    (State.setCell r s).lines = s.lines ∧ (State.setCell r s).publication = s.publication ∧
    (State.setCell r s).monitor = s.monitor ∧ (State.setCell r s).motion = s.motion ∧
    (State.setCell r s).pending = s.pending ∧ (State.setCell r s).faults.parked = s.faults.parked ∧
    (State.setCell r s).faults.entries = s.faults.entries ∧
    (State.setCell r s).faults.applying = s.faults.applying ∧
    (State.setCell r s).faults.highWater = s.faults.highWater := by
  and_intros <;> first
    | rfl
    | (simp [State.setCell]; done)
    | (unfold State.setCell; (repeat' split) <;> simp; done)
    | (unfold State.setCell; simp only []; (repeat' split) <;> simp [*])

@[simp] theorem State.landPresent_frame (r : QReport) (s : State) :
    (State.landPresent r s).1.device = s.device ∧ (State.landPresent r s).1.config = s.config ∧
    (State.landPresent r s).1.ports = s.ports ∧ (State.landPresent r s).1.ladder = s.ladder ∧
    (State.landPresent r s).1.lines = s.lines ∧ (State.landPresent r s).1.publication = s.publication ∧
    (State.landPresent r s).1.monitor = s.monitor ∧ (State.landPresent r s).1.motion = s.motion ∧
    (State.landPresent r s).1.pending = s.pending ∧ (State.landPresent r s).1.intake.queues = s.intake.queues ∧
    (State.landPresent r s).1.intake.conds = s.intake.conds ∧
    (State.landPresent r s).1.faults.parked = s.faults.parked ∧
    (State.landPresent r s).1.faults.applying = s.faults.applying ∧
    (State.landPresent r s).1.faults.highWater = s.faults.highWater := by
  and_intros <;> first
    | rfl
    | (simp [State.landPresent]; done)
    | (unfold State.landPresent; (repeat' split) <;> simp; done)
    | (unfold State.landPresent; simp only []; (repeat' split) <;> simp [*])

@[simp] theorem State.landAbsent_frame (r : QReport) (s : State) :
    (State.landAbsent r s).1.device = s.device ∧ (State.landAbsent r s).1.config = s.config ∧
    (State.landAbsent r s).1.ports = s.ports ∧ (State.landAbsent r s).1.intake = s.intake ∧
    (State.landAbsent r s).1.pool = s.pool ∧ (State.landAbsent r s).1.ladder = s.ladder ∧
    (State.landAbsent r s).1.lines = s.lines ∧ (State.landAbsent r s).1.publication = s.publication ∧
    (State.landAbsent r s).1.monitor = s.monitor ∧ (State.landAbsent r s).1.motion = s.motion ∧
    (State.landAbsent r s).1.pending = s.pending ∧ (State.landAbsent r s).1.faults.parked = s.faults.parked ∧
    (State.landAbsent r s).1.faults.overflow = s.faults.overflow ∧
    (State.landAbsent r s).1.faults.applying = s.faults.applying ∧
    (State.landAbsent r s).1.faults.highWater = s.faults.highWater := by
  and_intros <;> first
    | rfl
    | (simp [State.landAbsent]; done)
    | (unfold State.landAbsent; (repeat' split) <;> simp; done)
    | (unfold State.landAbsent; simp only []; (repeat' split) <;> simp [*])

@[simp] theorem State.land_frame (r : QReport) (s : State) :
    (State.land r s).1.device = s.device ∧ (State.land r s).1.config = s.config ∧
    (State.land r s).1.ports = s.ports ∧ (State.land r s).1.ladder = s.ladder ∧
    (State.land r s).1.lines = s.lines ∧ (State.land r s).1.publication = s.publication ∧
    (State.land r s).1.monitor = s.monitor ∧ (State.land r s).1.motion = s.motion ∧
    (State.land r s).1.pending = s.pending ∧ (State.land r s).1.intake.queues = s.intake.queues ∧
    (State.land r s).1.intake.conds = s.intake.conds ∧ (State.land r s).1.faults.parked = s.faults.parked ∧
    (State.land r s).1.faults.applying = s.faults.applying ∧
    (State.land r s).1.faults.highWater = s.faults.highWater := by
  and_intros <;> first
    | rfl
    | (simp [State.land]; done)
    | (unfold State.land; (repeat' split) <;> simp; done)
    | (unfold State.land; simp only []; (repeat' split) <;> simp [*])

@[simp] theorem State.bindBuffer_frame (b : Fin 8) (e : Fin 48) (s : State) :
    (State.bindBuffer b e s).device = s.device ∧ (State.bindBuffer b e s).config = s.config ∧
    (State.bindBuffer b e s).ports = s.ports ∧ (State.bindBuffer b e s).intake = s.intake ∧
    (State.bindBuffer b e s).ladder = s.ladder ∧ (State.bindBuffer b e s).lines = s.lines ∧
    (State.bindBuffer b e s).publication = s.publication ∧ (State.bindBuffer b e s).monitor = s.monitor ∧
    (State.bindBuffer b e s).motion = s.motion ∧ (State.bindBuffer b e s).pending = s.pending ∧
    (State.bindBuffer b e s).faults.parked = s.faults.parked ∧
    (State.bindBuffer b e s).faults.overflow = s.faults.overflow ∧
    (State.bindBuffer b e s).faults.applying = s.faults.applying ∧
    (State.bindBuffer b e s).faults.highWater = s.faults.highWater := by
  and_intros <;> first
    | rfl
    | (simp [State.bindBuffer]; done)
    | (unfold State.bindBuffer; (repeat' split) <;> simp; done)
    | (unfold State.bindBuffer; simp only []; (repeat' split) <;> simp [*])

@[simp] theorem State.dealBuffer_frame (buffer : Option (Fin 8)) (landing : Option (Fin 48)) (s : State) :
    (State.dealBuffer buffer landing s).device = s.device ∧ (State.dealBuffer buffer landing s).config = s.config ∧
    (State.dealBuffer buffer landing s).ports = s.ports ∧ (State.dealBuffer buffer landing s).ladder = s.ladder ∧
    (State.dealBuffer buffer landing s).lines = s.lines ∧
    (State.dealBuffer buffer landing s).publication = s.publication ∧
    (State.dealBuffer buffer landing s).monitor = s.monitor ∧
    (State.dealBuffer buffer landing s).motion = s.motion ∧
    (State.dealBuffer buffer landing s).pending = s.pending ∧
    (State.dealBuffer buffer landing s).intake.queues = s.intake.queues ∧
    (State.dealBuffer buffer landing s).intake.conds = s.intake.conds ∧
    (State.dealBuffer buffer landing s).faults.parked = s.faults.parked ∧
    (State.dealBuffer buffer landing s).faults.overflow = s.faults.overflow ∧
    (State.dealBuffer buffer landing s).faults.applying = s.faults.applying ∧
    (State.dealBuffer buffer landing s).faults.highWater = s.faults.highWater := by
  and_intros <;> first
    | rfl
    | (simp [State.dealBuffer]; done)
    | (unfold State.dealBuffer; (repeat' split) <;> simp; done)
    | (unfold State.dealBuffer; simp only []; (repeat' split) <;> simp [*])

@[simp] theorem State.applyReport_frame (r : QReport) (s : State) :
    (State.applyReport r s).device = s.device ∧ (State.applyReport r s).config = s.config ∧
    (State.applyReport r s).ports = s.ports ∧ (State.applyReport r s).ladder = s.ladder ∧
    (State.applyReport r s).lines = s.lines ∧ (State.applyReport r s).publication = s.publication ∧
    (State.applyReport r s).monitor = s.monitor ∧ (State.applyReport r s).motion = s.motion ∧
    (State.applyReport r s).pending = s.pending ∧ (State.applyReport r s).intake.queues = s.intake.queues ∧
    (State.applyReport r s).intake.conds = s.intake.conds ∧
    (State.applyReport r s).faults.parked = s.faults.parked ∧
    (State.applyReport r s).faults.highWater = s.faults.highWater := by
  and_intros <;> first
    | rfl
    | (simp [State.applyReport]; done)
    | (unfold State.applyReport; (repeat' split) <;> simp; done)
    | (unfold State.applyReport; simp only []; (repeat' split) <;> simp [*])

@[simp] theorem State.retireEntry_frame (e : Fin 48) (o : EpisodeEnd) (s : State) :
    (State.retireEntry e o s).device = s.device ∧ (State.retireEntry e o s).config = s.config ∧
    (State.retireEntry e o s).intake = s.intake ∧ (State.retireEntry e o s).pool = s.pool ∧
    (State.retireEntry e o s).monitor = s.monitor ∧ (State.retireEntry e o s).motion = s.motion ∧
    (State.retireEntry e o s).pending = s.pending ∧ (State.retireEntry e o s).faults.parked = s.faults.parked ∧
    (State.retireEntry e o s).faults.overflow = s.faults.overflow ∧
    (State.retireEntry e o s).faults.applying = s.faults.applying ∧
    (State.retireEntry e o s).ladder.parked = s.ladder.parked := by
  and_intros <;> first
    | rfl
    | (simp [State.retireEntry]; done)
    | (unfold State.retireEntry; (repeat' split) <;> simp; done)
    | (unfold State.retireEntry; simp only []; (repeat' split) <;> simp [*])

@[simp] theorem State.freeIfRetired_frame (e : Fin 48) (s : State) :
    (State.freeIfRetired e s).device = s.device ∧ (State.freeIfRetired e s).config = s.config ∧
    (State.freeIfRetired e s).ports = s.ports ∧ (State.freeIfRetired e s).ladder = s.ladder ∧
    (State.freeIfRetired e s).lines = s.lines ∧ (State.freeIfRetired e s).publication = s.publication ∧
    (State.freeIfRetired e s).monitor = s.monitor ∧ (State.freeIfRetired e s).motion = s.motion ∧
    (State.freeIfRetired e s).pending = s.pending ∧ (State.freeIfRetired e s).intake.queues = s.intake.queues ∧
    (State.freeIfRetired e s).intake.conds = s.intake.conds ∧
    (State.freeIfRetired e s).faults.parked = s.faults.parked ∧
    (State.freeIfRetired e s).faults.overflow = s.faults.overflow ∧
    (State.freeIfRetired e s).faults.applying = s.faults.applying ∧
    (State.freeIfRetired e s).faults.highWater = s.faults.highWater := by
  and_intros <;> first
    | rfl
    | (simp [State.freeIfRetired]; done)
    | (unfold State.freeIfRetired; (repeat' split) <;> simp; done)
    | (unfold State.freeIfRetired; simp only []; (repeat' split) <;> simp [*])

@[simp] theorem State.freeRetired_frame (s : State) :
    (State.freeRetired s).device = s.device ∧ (State.freeRetired s).config = s.config ∧
    (State.freeRetired s).ports = s.ports ∧ (State.freeRetired s).ladder = s.ladder ∧
    (State.freeRetired s).lines = s.lines ∧ (State.freeRetired s).publication = s.publication ∧
    (State.freeRetired s).monitor = s.monitor ∧ (State.freeRetired s).motion = s.motion ∧
    (State.freeRetired s).pending = s.pending ∧ (State.freeRetired s).intake.queues = s.intake.queues ∧
    (State.freeRetired s).intake.conds = s.intake.conds ∧ (State.freeRetired s).faults.parked = s.faults.parked ∧
    (State.freeRetired s).faults.overflow = s.faults.overflow ∧
    (State.freeRetired s).faults.applying = s.faults.applying ∧
    (State.freeRetired s).faults.highWater = s.faults.highWater := by
  and_intros <;> first
    | (unfold State.freeRetired; simp; done)
    | (unfold State.freeRetired; (repeat' split) <;> simp; done)
    | (unfold State.freeRetired; simp only []; (repeat' split) <;> simp [*])

@[simp] theorem State.purgeEntry_frame (e : Fin 48) (s : State) :
    (State.purgeEntry e s).device = s.device ∧ (State.purgeEntry e s).config = s.config ∧
    (State.purgeEntry e s).ports = s.ports ∧ (State.purgeEntry e s).ladder = s.ladder ∧
    (State.purgeEntry e s).lines = s.lines ∧ (State.purgeEntry e s).publication = s.publication ∧
    (State.purgeEntry e s).monitor = s.monitor ∧ (State.purgeEntry e s).motion = s.motion ∧
    (State.purgeEntry e s).pending = s.pending ∧ (State.purgeEntry e s).intake.queues = s.intake.queues ∧
    (State.purgeEntry e s).intake.conds = s.intake.conds ∧ (State.purgeEntry e s).faults.parked = s.faults.parked ∧
    (State.purgeEntry e s).faults.overflow = s.faults.overflow ∧
    (State.purgeEntry e s).faults.applying = s.faults.applying ∧
    (State.purgeEntry e s).faults.highWater = s.faults.highWater := by
  and_intros <;> first
    | rfl
    | (simp [State.purgeEntry]; done)
    | (unfold State.purgeEntry; (repeat' split) <;> simp; done)
    | (unfold State.purgeEntry; simp only []; (repeat' split) <;> simp [*])

@[simp] theorem State.purgeTable_frame (s : State) :
    (State.purgeTable s).device = s.device ∧ (State.purgeTable s).config = s.config ∧
    (State.purgeTable s).ports = s.ports ∧ (State.purgeTable s).ladder = s.ladder ∧
    (State.purgeTable s).lines = s.lines ∧ (State.purgeTable s).publication = s.publication ∧
    (State.purgeTable s).monitor = s.monitor ∧ (State.purgeTable s).motion = s.motion ∧
    (State.purgeTable s).pending = s.pending ∧ (State.purgeTable s).intake.queues = s.intake.queues ∧
    (State.purgeTable s).intake.conds = s.intake.conds ∧ (State.purgeTable s).faults.parked = s.faults.parked ∧
    (State.purgeTable s).faults.applying = s.faults.applying := by
  and_intros <;> first
    | (unfold State.purgeTable; simp; done)
    | (unfold State.purgeTable; (repeat' split) <;> simp; done)
    | (unfold State.purgeTable; simp only []; (repeat' split) <;> simp [*])

/-! ### The Self Monitor -/

@[simp] theorem State.setFilter_frame (s : State) (k : Fin 8) (f : Filter) :
    (State.setFilter s k f).device = s.device ∧ (State.setFilter s k f).config = s.config ∧
    (State.setFilter s k f).ports = s.ports ∧ (State.setFilter s k f).intake = s.intake ∧
    (State.setFilter s k f).pool = s.pool ∧ (State.setFilter s k f).faults = s.faults ∧
    (State.setFilter s k f).ladder = s.ladder ∧ (State.setFilter s k f).lines = s.lines ∧
    (State.setFilter s k f).publication = s.publication ∧ (State.setFilter s k f).motion = s.motion ∧
    (State.setFilter s k f).pending = s.pending ∧
    (State.setFilter s k f).monitor.comparator = s.monitor.comparator := by
  and_intros <;> first
    | rfl
    | (simp [State.setFilter]; done)
    | (unfold State.setFilter; (repeat' split) <;> simp; done)
    | (unfold State.setFilter; simp only []; (repeat' split) <;> simp [*])

@[simp] theorem State.resetSlot_frame (k : Fin 8) (s : State) :
    (State.resetSlot k s).device = s.device ∧ (State.resetSlot k s).config = s.config ∧
    (State.resetSlot k s).ports = s.ports ∧ (State.resetSlot k s).pool = s.pool ∧
    (State.resetSlot k s).faults = s.faults ∧ (State.resetSlot k s).ladder = s.ladder ∧
    (State.resetSlot k s).lines = s.lines ∧ (State.resetSlot k s).publication = s.publication ∧
    (State.resetSlot k s).motion = s.motion ∧ (State.resetSlot k s).pending = s.pending ∧
    (State.resetSlot k s).intake.queues = s.intake.queues ∧ (State.resetSlot k s).intake.slots = s.intake.slots ∧
    (State.resetSlot k s).monitor.comparator = s.monitor.comparator := by
  and_intros <;> first
    | rfl
    | (simp [State.resetSlot]; done)
    | (unfold State.resetSlot; (repeat' split) <;> simp; done)
    | (unfold State.resetSlot; simp only []; (repeat' split) <;> simp [*])

@[simp] theorem State.narrowScan_frame (s : State) :
    s.narrowScan.device = s.device ∧ s.narrowScan.config = s.config ∧ s.narrowScan.ports = s.ports ∧
    s.narrowScan.intake = s.intake ∧ s.narrowScan.pool = s.pool ∧ s.narrowScan.faults = s.faults ∧
    s.narrowScan.ladder = s.ladder ∧ s.narrowScan.lines = s.lines ∧ s.narrowScan.publication = s.publication ∧
    s.narrowScan.motion = s.motion ∧ s.narrowScan.pending = s.pending ∧ s.narrowScan.monitor.latest = s.monitor.latest ∧
    s.narrowScan.monitor.comparator = s.monitor.comparator ∧ s.narrowScan.monitor.filters = s.monitor.filters ∧
    s.narrowScan.monitor.scanTimer = s.monitor.scanTimer := by
  and_intros <;> rfl

@[simp] theorem State.writeScan_frame (k : Fin 8) (r : ScanRec) (s : State) :
    (State.writeScan k r s).device = s.device ∧ (State.writeScan k r s).ports = s.ports ∧
    (State.writeScan k r s).pool = s.pool ∧ (State.writeScan k r s).faults = s.faults ∧
    (State.writeScan k r s).ladder = s.ladder ∧ (State.writeScan k r s).lines = s.lines ∧
    (State.writeScan k r s).publication = s.publication ∧ (State.writeScan k r s).motion = s.motion ∧
    (State.writeScan k r s).pending = s.pending ∧ (State.writeScan k r s).config.zones = s.config.zones ∧
    (State.writeScan k r s).config.classes = s.config.classes ∧
    (State.writeScan k r s).config.levels = s.config.levels ∧
    (State.writeScan k r s).config.timing = s.config.timing ∧
    (State.writeScan k r s).intake.queues = s.intake.queues ∧
    (State.writeScan k r s).intake.slots = s.intake.slots ∧
    (State.writeScan k r s).monitor.comparator = s.monitor.comparator := by
  and_intros <;> first
    | rfl
    | (simp [State.writeScan]; done)
    | (unfold State.writeScan; (repeat' split) <;> simp; done)
    | (unfold State.writeScan; simp only []; (repeat' split) <;> simp [*])

@[simp] theorem State.resetIfMoved_frame (old : Vector Bool 7) (s : State) (k : Fin 8) :
    (State.resetIfMoved old s k).device = s.device ∧ (State.resetIfMoved old s k).config = s.config ∧
    (State.resetIfMoved old s k).ports = s.ports ∧ (State.resetIfMoved old s k).pool = s.pool ∧
    (State.resetIfMoved old s k).faults = s.faults ∧ (State.resetIfMoved old s k).ladder = s.ladder ∧
    (State.resetIfMoved old s k).lines = s.lines ∧ (State.resetIfMoved old s k).publication = s.publication ∧
    (State.resetIfMoved old s k).motion = s.motion ∧ (State.resetIfMoved old s k).pending = s.pending ∧
    (State.resetIfMoved old s k).intake.queues = s.intake.queues ∧
    (State.resetIfMoved old s k).intake.slots = s.intake.slots ∧
    (State.resetIfMoved old s k).monitor.comparator = s.monitor.comparator := by
  and_intros <;> first
    | rfl
    | (simp [State.resetIfMoved]; done)
    | (unfold State.resetIfMoved; (repeat' split) <;> simp; done)
    | (unfold State.resetIfMoved; simp only []; (repeat' split) <;> simp [*])

@[simp] theorem State.dropDisabled_frame (s : State) :
    (State.dropDisabled s).device = s.device ∧ (State.dropDisabled s).config = s.config ∧
    (State.dropDisabled s).ports = s.ports ∧ (State.dropDisabled s).intake = s.intake ∧
    (State.dropDisabled s).pool = s.pool ∧ (State.dropDisabled s).faults = s.faults ∧
    (State.dropDisabled s).ladder = s.ladder ∧ (State.dropDisabled s).lines = s.lines ∧
    (State.dropDisabled s).publication = s.publication ∧ (State.dropDisabled s).motion = s.motion ∧
    (State.dropDisabled s).pending = s.pending ∧ (State.dropDisabled s).monitor.comparator = s.monitor.comparator ∧
    (State.dropDisabled s).monitor.filters = s.monitor.filters := by
  and_intros <;> first
    | rfl
    | (simp [State.dropDisabled]; done)
    | (unfold State.dropDisabled; (repeat' split) <;> simp; done)
    | (unfold State.dropDisabled; simp only []; (repeat' split) <;> simp [*])

@[simp] theorem State.writeEnable_frame (enable : Vector Bool 7) (s : State) :
    (State.writeEnable enable s).device = s.device ∧ (State.writeEnable enable s).ports = s.ports ∧
    (State.writeEnable enable s).pool = s.pool ∧ (State.writeEnable enable s).faults = s.faults ∧
    (State.writeEnable enable s).ladder = s.ladder ∧ (State.writeEnable enable s).lines = s.lines ∧
    (State.writeEnable enable s).publication = s.publication ∧ (State.writeEnable enable s).motion = s.motion ∧
    (State.writeEnable enable s).pending = s.pending ∧ (State.writeEnable enable s).config.zones = s.config.zones ∧
    (State.writeEnable enable s).config.classes = s.config.classes ∧
    (State.writeEnable enable s).config.levels = s.config.levels ∧
    (State.writeEnable enable s).config.timing = s.config.timing ∧
    (State.writeEnable enable s).config.scan = s.config.scan ∧
    (State.writeEnable enable s).intake.queues = s.intake.queues ∧
    (State.writeEnable enable s).intake.slots = s.intake.slots ∧
    (State.writeEnable enable s).monitor.comparator = s.monitor.comparator := by
  and_intros <;> first
    | (unfold State.writeEnable; simp; done)
    | (unfold State.writeEnable; (repeat' split) <;> simp; done)
    | (unfold State.writeEnable; simp only []; (repeat' split) <;> simp [*])

@[simp] theorem State.fall_frame (s : State) :
    (State.fall s).device = s.device ∧ (State.fall s).config = s.config ∧ (State.fall s).ports = s.ports ∧
    (State.fall s).pool = s.pool ∧ (State.fall s).faults = s.faults ∧ (State.fall s).ladder = s.ladder ∧
    (State.fall s).lines = s.lines ∧ (State.fall s).publication = s.publication ∧
    (State.fall s).motion = s.motion ∧ (State.fall s).pending = s.pending ∧
    (State.fall s).intake.queues = s.intake.queues ∧ (State.fall s).intake.slots = s.intake.slots ∧
    (State.fall s).monitor.filters = s.monitor.filters := by
  and_intros <;> first
    | rfl
    | (simp [State.fall]; done)
    | (unfold State.fall; (repeat' split) <;> simp; done)
    | (unfold State.fall; simp only []; (repeat' split) <;> simp [*])

@[simp] theorem State.rise_frame (s : State) :
    (State.rise s).device = s.device ∧ (State.rise s).config = s.config ∧ (State.rise s).ports = s.ports ∧
    (State.rise s).pool = s.pool ∧ (State.rise s).faults = s.faults ∧ (State.rise s).ladder = s.ladder ∧
    (State.rise s).lines = s.lines ∧ (State.rise s).publication = s.publication ∧
    (State.rise s).motion = s.motion ∧ (State.rise s).pending = s.pending ∧
    (State.rise s).intake.queues = s.intake.queues ∧ (State.rise s).intake.slots = s.intake.slots ∧
    (State.rise s).monitor.filters = s.monitor.filters := by
  and_intros <;> first
    | rfl
    | (simp [State.rise]; done)
    | (unfold State.rise; (repeat' split) <;> simp; done)
    | (unfold State.rise; simp only []; (repeat' split) <;> simp [*])

@[simp] theorem State.compareLink_frame (mV : Nat) (s : State) :
    (State.compareLink mV s).device = s.device ∧ (State.compareLink mV s).config = s.config ∧
    (State.compareLink mV s).ports = s.ports ∧ (State.compareLink mV s).pool = s.pool ∧
    (State.compareLink mV s).faults = s.faults ∧ (State.compareLink mV s).ladder = s.ladder ∧
    (State.compareLink mV s).lines = s.lines ∧ (State.compareLink mV s).publication = s.publication ∧
    (State.compareLink mV s).motion = s.motion ∧ (State.compareLink mV s).pending = s.pending ∧
    (State.compareLink mV s).intake.queues = s.intake.queues ∧
    (State.compareLink mV s).intake.slots = s.intake.slots ∧
    (State.compareLink mV s).monitor.filters = s.monitor.filters := by
  and_intros <;> first
    | rfl
    | (simp [State.compareLink]; done)
    | (unfold State.compareLink; (repeat' split) <;> simp; done)
    | (unfold State.compareLink; simp only []; (repeat' split) <;> simp [*])

@[simp] theorem State.writeThreshold_frame (i : Fin 8) (mV : Nat) (s : State) :
    (State.writeThreshold i mV s).device = s.device ∧ (State.writeThreshold i mV s).ports = s.ports ∧
    (State.writeThreshold i mV s).pool = s.pool ∧ (State.writeThreshold i mV s).faults = s.faults ∧
    (State.writeThreshold i mV s).ladder = s.ladder ∧ (State.writeThreshold i mV s).lines = s.lines ∧
    (State.writeThreshold i mV s).publication = s.publication ∧ (State.writeThreshold i mV s).motion = s.motion ∧
    (State.writeThreshold i mV s).pending = s.pending ∧
    (State.writeThreshold i mV s).config.zones = s.config.zones ∧
    (State.writeThreshold i mV s).config.classes = s.config.classes ∧
    (State.writeThreshold i mV s).config.levels = s.config.levels ∧
    (State.writeThreshold i mV s).config.timing = s.config.timing ∧
    (State.writeThreshold i mV s).config.scan = s.config.scan ∧
    (State.writeThreshold i mV s).intake.queues = s.intake.queues ∧
    (State.writeThreshold i mV s).intake.slots = s.intake.slots ∧
    (State.writeThreshold i mV s).monitor.filters = s.monitor.filters := by
  and_intros <;> first
    | rfl
    | (simp [State.writeThreshold]; done)
    | (unfold State.writeThreshold; (repeat' split) <;> simp; done)
    | (unfold State.writeThreshold; simp only []; (repeat' split) <;> simp [*])

@[simp] theorem State.writeTiming_frame (k : Timing) (s : State) :
    (State.writeTiming k s).device = s.device ∧ (State.writeTiming k s).ports = s.ports ∧
    (State.writeTiming k s).intake = s.intake ∧ (State.writeTiming k s).pool = s.pool ∧
    (State.writeTiming k s).faults = s.faults ∧ (State.writeTiming k s).ladder = s.ladder ∧
    (State.writeTiming k s).lines = s.lines ∧ (State.writeTiming k s).publication = s.publication ∧
    (State.writeTiming k s).motion = s.motion ∧ (State.writeTiming k s).pending = s.pending ∧
    (State.writeTiming k s).config.zones = s.config.zones ∧
    (State.writeTiming k s).config.classes = s.config.classes ∧
    (State.writeTiming k s).config.levels = s.config.levels ∧ (State.writeTiming k s).config.scan = s.config.scan ∧
    (State.writeTiming k s).monitor.comparator = s.monitor.comparator ∧
    (State.writeTiming k s).monitor.filters = s.monitor.filters := by
  and_intros <;> first
    | rfl
    | (simp [State.writeTiming]; done)
    | (unfold State.writeTiming; (repeat' split) <;> simp; done)
    | (unfold State.writeTiming; simp only []; (repeat' split) <;> simp [*])

@[simp] theorem State.beginScan_frame (s : State) :
    (State.beginScan s).device = s.device ∧ (State.beginScan s).config = s.config ∧
    (State.beginScan s).ports = s.ports ∧ (State.beginScan s).intake = s.intake ∧
    (State.beginScan s).pool = s.pool ∧ (State.beginScan s).faults = s.faults ∧
    (State.beginScan s).ladder = s.ladder ∧ (State.beginScan s).lines = s.lines ∧
    (State.beginScan s).publication = s.publication ∧ (State.beginScan s).motion = s.motion ∧
    (State.beginScan s).pending = s.pending ∧ (State.beginScan s).monitor.comparator = s.monitor.comparator ∧
    (State.beginScan s).monitor.filters = s.monitor.filters := by
  and_intros <;> first
    | rfl
    | (simp [State.beginScan]; done)
    | (unfold State.beginScan; (repeat' split) <;> simp; done)
    | (unfold State.beginScan; simp only []; (repeat' split) <;> simp [*])

@[simp] theorem State.keepSample_frame (ch : Fin 7) (v : Counts) (s : State) :
    (State.keepSample ch v s).device = s.device ∧ (State.keepSample ch v s).config = s.config ∧
    (State.keepSample ch v s).ports = s.ports ∧ (State.keepSample ch v s).intake = s.intake ∧
    (State.keepSample ch v s).pool = s.pool ∧ (State.keepSample ch v s).faults = s.faults ∧
    (State.keepSample ch v s).ladder = s.ladder ∧ (State.keepSample ch v s).lines = s.lines ∧
    (State.keepSample ch v s).publication = s.publication ∧ (State.keepSample ch v s).motion = s.motion ∧
    (State.keepSample ch v s).pending = s.pending ∧
    (State.keepSample ch v s).monitor.comparator = s.monitor.comparator ∧
    (State.keepSample ch v s).monitor.filters = s.monitor.filters := by
  and_intros <;> first
    | rfl
    | (simp [State.keepSample]; done)
    | (unfold State.keepSample; (repeat' split) <;> simp; done)
    | (unfold State.keepSample; simp only []; (repeat' split) <;> simp [*])

@[simp] theorem State.judgeSample_frame (k : Fin 8) (v : Counts) (s : State) :
    (State.judgeSample k v s).device = s.device ∧ (State.judgeSample k v s).config = s.config ∧
    (State.judgeSample k v s).ports = s.ports ∧ (State.judgeSample k v s).pool = s.pool ∧
    (State.judgeSample k v s).faults = s.faults ∧ (State.judgeSample k v s).ladder = s.ladder ∧
    (State.judgeSample k v s).lines = s.lines ∧ (State.judgeSample k v s).publication = s.publication ∧
    (State.judgeSample k v s).motion = s.motion ∧ (State.judgeSample k v s).pending = s.pending ∧
    (State.judgeSample k v s).intake.queues = s.intake.queues ∧
    (State.judgeSample k v s).intake.slots = s.intake.slots ∧
    (State.judgeSample k v s).monitor.comparator = s.monitor.comparator := by
  and_intros <;> first
    | rfl
    | (simp [State.judgeSample]; done)
    | (unfold State.judgeSample; (repeat' split) <;> simp; done)
    | (unfold State.judgeSample; simp only []; (repeat' split) <;> simp [*])

@[simp] theorem State.useSample_frame (i : ScanItem) (v : Counts) (s : State) :
    (s.useSample i v).device = s.device ∧ (s.useSample i v).config = s.config ∧ (s.useSample i v).ports = s.ports ∧
    (s.useSample i v).pool = s.pool ∧ (s.useSample i v).faults = s.faults ∧ (s.useSample i v).ladder = s.ladder ∧
    (s.useSample i v).lines = s.lines ∧ (s.useSample i v).publication = s.publication ∧
    (s.useSample i v).motion = s.motion ∧ (s.useSample i v).pending = s.pending ∧
    (s.useSample i v).intake.queues = s.intake.queues ∧ (s.useSample i v).intake.slots = s.intake.slots ∧
    (s.useSample i v).monitor.comparator = s.monitor.comparator := by
  unfold State.useSample
  cases i
  · dsimp only
    split <;> simp
  · simp
  · simp

@[simp] theorem State.completeSample_frame (v : Counts) (s : State) :
    (State.completeSample v s).device = s.device ∧ (State.completeSample v s).config = s.config ∧
    (State.completeSample v s).ports = s.ports ∧ (State.completeSample v s).pool = s.pool ∧
    (State.completeSample v s).faults = s.faults ∧ (State.completeSample v s).ladder = s.ladder ∧
    (State.completeSample v s).lines = s.lines ∧ (State.completeSample v s).publication = s.publication ∧
    (State.completeSample v s).motion = s.motion ∧ (State.completeSample v s).pending = s.pending ∧
    (State.completeSample v s).intake.queues = s.intake.queues ∧
    (State.completeSample v s).intake.slots = s.intake.slots ∧
    (State.completeSample v s).monitor.comparator = s.monitor.comparator := by
  and_intros <;> first
    | rfl
    | (simp [State.completeSample]; done)
    | (unfold State.completeSample; (repeat' split) <;> simp; done)
    | (unfold State.completeSample; simp only []; (repeat' split) <;> simp [*])

@[simp] theorem State.stopMonitor_frame (s : State) :
    (State.stopMonitor s).device = s.device ∧ (State.stopMonitor s).config = s.config ∧
    (State.stopMonitor s).ports = s.ports ∧ (State.stopMonitor s).intake = s.intake ∧
    (State.stopMonitor s).pool = s.pool ∧ (State.stopMonitor s).faults = s.faults ∧
    (State.stopMonitor s).ladder = s.ladder ∧ (State.stopMonitor s).lines = s.lines ∧
    (State.stopMonitor s).publication = s.publication ∧ (State.stopMonitor s).motion = s.motion ∧
    (State.stopMonitor s).pending = s.pending := by
  and_intros <;> first
    | rfl
    | (simp [State.stopMonitor]; done)
    | (unfold State.stopMonitor; (repeat' split) <;> simp; done)
    | (unfold State.stopMonitor; simp only []; (repeat' split) <;> simp [*])

@[simp] theorem State.startMonitor_frame (mV : Nat) (s : State) :
    (State.startMonitor mV s).device = s.device ∧ (State.startMonitor mV s).config = s.config ∧
    (State.startMonitor mV s).ports = s.ports ∧ (State.startMonitor mV s).pool = s.pool ∧
    (State.startMonitor mV s).faults = s.faults ∧ (State.startMonitor mV s).ladder = s.ladder ∧
    (State.startMonitor mV s).lines = s.lines ∧ (State.startMonitor mV s).publication = s.publication ∧
    (State.startMonitor mV s).motion = s.motion ∧ (State.startMonitor mV s).pending = s.pending ∧
    (State.startMonitor mV s).intake.queues = s.intake.queues ∧
    (State.startMonitor mV s).intake.slots = s.intake.slots ∧
    (State.startMonitor mV s).monitor.filters = s.monitor.filters := by
  and_intros <;> first
    | rfl
    | (simp [State.startMonitor]; done)
    | (unfold State.startMonitor; (repeat' split) <;> simp; done)
    | (unfold State.startMonitor; simp only []; (repeat' split) <;> simp [*])

/-! ### Changes of device state -/

@[simp] theorem State.publishWhole_frame (l : Limits) (cause : Option (Fin 48)) (s : State) :
    (State.publishWhole l cause s).device = s.device ∧ (State.publishWhole l cause s).config = s.config ∧
    (State.publishWhole l cause s).intake = s.intake ∧ (State.publishWhole l cause s).pool = s.pool ∧
    (State.publishWhole l cause s).faults = s.faults ∧ (State.publishWhole l cause s).monitor = s.monitor ∧
    (State.publishWhole l cause s).motion = s.motion ∧ (State.publishWhole l cause s).pending = s.pending ∧
    (State.publishWhole l cause s).ladder.parked = s.ladder.parked := by
  and_intros <;> first
    | rfl
    | (simp [State.publishWhole]; done)
    | (unfold State.publishWhole; (repeat' split) <;> simp; done)
    | (unfold State.publishWhole; simp only []; (repeat' split) <;> simp [*])

@[simp] theorem State.wakePort_frame (s : State) (p : Station) :
    (State.wakePort s p).device = s.device ∧ (State.wakePort s p).config = s.config ∧
    (State.wakePort s p).monitor = s.monitor ∧ (State.wakePort s p).pending = s.pending ∧
    (State.wakePort s p).faults.overflow = s.faults.overflow ∧
    (State.wakePort s p).faults.highWater = s.faults.highWater := by
  and_intros <;> first
    | rfl
    | (simp [State.wakePort]; done)
    | (unfold State.wakePort; (repeat' split) <;> simp; done)
    | (unfold State.wakePort; simp only []; (repeat' split) <;> simp [*])

@[simp] theorem State.enterConfigure_frame (mV : Nat) (s : State) :
    (State.enterConfigure mV s).config = s.config ∧ (State.enterConfigure mV s).pending = s.pending ∧
    (State.enterConfigure mV s).device.topology = s.device.topology ∧
    (State.enterConfigure mV s).device.clock = s.device.clock ∧
    (State.enterConfigure mV s).faults.overflow = s.faults.overflow ∧
    (State.enterConfigure mV s).faults.highWater = s.faults.highWater ∧
    (State.enterConfigure mV s).monitor.filters = s.monitor.filters := by
  and_intros <;> first
    | rfl
    | (simp [State.enterConfigure]; done)
    | (unfold State.enterConfigure; (repeat' split) <;> simp; done)
    | (unfold State.enterConfigure; simp only []; (repeat' split) <;> simp [*])

@[simp] theorem State.loseIfSync_frame (s : State) (p : Station) :
    (State.loseIfSync s p).device = s.device ∧ (State.loseIfSync s p).config = s.config ∧
    (State.loseIfSync s p).ports = s.ports ∧ (State.loseIfSync s p).pool = s.pool ∧
    (State.loseIfSync s p).faults = s.faults ∧ (State.loseIfSync s p).ladder = s.ladder ∧
    (State.loseIfSync s p).lines = s.lines ∧ (State.loseIfSync s p).publication = s.publication ∧
    (State.loseIfSync s p).monitor = s.monitor ∧ (State.loseIfSync s p).motion = s.motion ∧
    (State.loseIfSync s p).pending = s.pending ∧ (State.loseIfSync s p).intake.queues = s.intake.queues ∧
    (State.loseIfSync s p).intake.slots = s.intake.slots := by
  and_intros <;> first
    | rfl
    | (simp [State.loseIfSync]; done)
    | (unfold State.loseIfSync; (repeat' split) <;> simp; done)
    | (unfold State.loseIfSync; simp only []; (repeat' split) <;> simp [*])

@[simp] theorem State.markConds_frame (s : State) :
    (State.markConds s).device = s.device ∧ (State.markConds s).config = s.config ∧
    (State.markConds s).ports = s.ports ∧ (State.markConds s).pool = s.pool ∧
    (State.markConds s).faults = s.faults ∧ (State.markConds s).ladder = s.ladder ∧
    (State.markConds s).lines = s.lines ∧ (State.markConds s).publication = s.publication ∧
    (State.markConds s).monitor = s.monitor ∧ (State.markConds s).motion = s.motion ∧
    (State.markConds s).pending = s.pending ∧ (State.markConds s).intake.queues = s.intake.queues ∧
    (State.markConds s).intake.slots = s.intake.slots := by
  and_intros <;> first
    | rfl
    | (simp [State.markConds]; done)
    | (unfold State.markConds; (repeat' split) <;> simp; done)
    | (unfold State.markConds; simp only []; (repeat' split) <;> simp [*])

@[simp] theorem State.enterRun_frame (way : RunEntry) (s : State) :
    (State.enterRun way s).config = s.config ∧ (State.enterRun way s).pool = s.pool ∧
    (State.enterRun way s).monitor = s.monitor ∧ (State.enterRun way s).motion = s.motion ∧
    (State.enterRun way s).pending = s.pending ∧ (State.enterRun way s).device.topology = s.device.topology ∧
    (State.enterRun way s).device.clock = s.device.clock ∧ (State.enterRun way s).intake.queues = s.intake.queues ∧
    (State.enterRun way s).intake.slots = s.intake.slots ∧ (State.enterRun way s).faults.parked = s.faults.parked ∧
    (State.enterRun way s).faults.overflow = s.faults.overflow ∧
    (State.enterRun way s).faults.applying = s.faults.applying ∧
    (State.enterRun way s).faults.highWater = s.faults.highWater ∧
    (State.enterRun way s).ladder.parked = s.ladder.parked := by
  and_intros <;> first
    | (unfold State.enterRun; simp; done)
    | (unfold State.enterRun; (repeat' split) <;> simp; done)
    | (unfold State.enterRun; simp only []; (repeat' split) <;> simp [*])

@[simp] theorem State.loadDefaults_frame (mV : Nat) (s : State) :
    (State.loadDefaults mV s).device = s.device ∧ (State.loadDefaults mV s).ports = s.ports ∧
    (State.loadDefaults mV s).pool = s.pool ∧ (State.loadDefaults mV s).faults = s.faults ∧
    (State.loadDefaults mV s).ladder = s.ladder ∧ (State.loadDefaults mV s).lines = s.lines ∧
    (State.loadDefaults mV s).publication = s.publication ∧ (State.loadDefaults mV s).motion = s.motion ∧
    (State.loadDefaults mV s).pending = s.pending ∧ (State.loadDefaults mV s).intake.queues = s.intake.queues ∧
    (State.loadDefaults mV s).intake.slots = s.intake.slots := by
  and_intros <;> first
    | (unfold State.loadDefaults; simp; done)
    | (unfold State.loadDefaults; (repeat' split) <;> simp; done)
    | (unfold State.loadDefaults; simp only []; (repeat' split) <;> simp [*])

@[simp] theorem State.recordCheck_frame (failed : Option Nat) (s : State) :
    (State.recordCheck failed s).config = s.config ∧ (State.recordCheck failed s).ports = s.ports ∧
    (State.recordCheck failed s).intake = s.intake ∧ (State.recordCheck failed s).pool = s.pool ∧
    (State.recordCheck failed s).faults = s.faults ∧ (State.recordCheck failed s).ladder = s.ladder ∧
    (State.recordCheck failed s).lines = s.lines ∧ (State.recordCheck failed s).publication = s.publication ∧
    (State.recordCheck failed s).monitor = s.monitor ∧ (State.recordCheck failed s).motion = s.motion ∧
    (State.recordCheck failed s).pending = s.pending ∧
    (State.recordCheck failed s).device.topology = s.device.topology ∧
    (State.recordCheck failed s).device.state = s.device.state ∧
    (State.recordCheck failed s).device.clock = s.device.clock := by
  and_intros <;> first
    | rfl
    | (simp [State.recordCheck]; done)
    | (unfold State.recordCheck; (repeat' split) <;> simp; done)
    | (unfold State.recordCheck; simp only []; (repeat' split) <;> simp [*])

@[simp] theorem State.expireConfigure_frame (mV : Nat) (s : State) :
    (State.expireConfigure mV s).pool = s.pool ∧ (State.expireConfigure mV s).motion = s.motion ∧
    (State.expireConfigure mV s).pending = s.pending ∧
    (State.expireConfigure mV s).device.topology = s.device.topology ∧
    (State.expireConfigure mV s).device.clock = s.device.clock ∧
    (State.expireConfigure mV s).intake.queues = s.intake.queues ∧
    (State.expireConfigure mV s).intake.slots = s.intake.slots ∧
    (State.expireConfigure mV s).faults.parked = s.faults.parked ∧
    (State.expireConfigure mV s).faults.overflow = s.faults.overflow ∧
    (State.expireConfigure mV s).faults.applying = s.faults.applying ∧
    (State.expireConfigure mV s).faults.highWater = s.faults.highWater ∧
    (State.expireConfigure mV s).ladder.parked = s.ladder.parked := by
  and_intros <;> first
    | (unfold State.expireConfigure; simp; done)
    | (unfold State.expireConfigure; (repeat' split) <;> simp; done)
    | (unfold State.expireConfigure; simp only []; (repeat' split) <;> simp [*])

@[simp] theorem State.finishReport_frame (s : State) :
    (State.finishReport s).device = s.device ∧ (State.finishReport s).config = s.config ∧
    (State.finishReport s).ports = s.ports ∧ (State.finishReport s).ladder = s.ladder ∧
    (State.finishReport s).lines = s.lines ∧ (State.finishReport s).publication = s.publication ∧
    (State.finishReport s).monitor = s.monitor ∧ (State.finishReport s).motion = s.motion ∧
    (State.finishReport s).pending = s.pending ∧ (State.finishReport s).intake.queues = s.intake.queues ∧
    (State.finishReport s).intake.conds = s.intake.conds ∧ (State.finishReport s).faults.parked = s.faults.parked ∧
    (State.finishReport s).faults.highWater = s.faults.highWater := by
  and_intros <;> first
    | rfl
    | (simp [State.finishReport]; done)
    | (unfold State.finishReport; (repeat' split) <;> simp; done)
    | (unfold State.finishReport; simp only []; (repeat' split) <;> simp [*])

@[simp] theorem State.freeIfPending_frame (s : State) (b : Fin 8) :
    (State.freeIfPending s b).device = s.device ∧ (State.freeIfPending s b).config = s.config ∧
    (State.freeIfPending s b).ports = s.ports ∧ (State.freeIfPending s b).faults = s.faults ∧
    (State.freeIfPending s b).ladder = s.ladder ∧ (State.freeIfPending s b).lines = s.lines ∧
    (State.freeIfPending s b).publication = s.publication ∧ (State.freeIfPending s b).monitor = s.monitor ∧
    (State.freeIfPending s b).motion = s.motion ∧ (State.freeIfPending s b).pending = s.pending ∧
    (State.freeIfPending s b).intake.queues = s.intake.queues ∧
    (State.freeIfPending s b).intake.conds = s.intake.conds := by
  and_intros <;> first
    | rfl
    | (simp [State.freeIfPending]; done)
    | (unfold State.freeIfPending; (repeat' split) <;> simp; done)
    | (unfold State.freeIfPending; simp only []; (repeat' split) <;> simp [*])

@[simp] theorem State.endSlot_frame (s : State) (p : Station) :
    (State.endSlot s p).device = s.device ∧ (State.endSlot s p).config = s.config ∧
    (State.endSlot s p).ports = s.ports ∧ (State.endSlot s p).ladder = s.ladder ∧
    (State.endSlot s p).lines = s.lines ∧ (State.endSlot s p).publication = s.publication ∧
    (State.endSlot s p).monitor = s.monitor ∧ (State.endSlot s p).motion = s.motion ∧
    (State.endSlot s p).pending = s.pending ∧ (State.endSlot s p).intake.conds = s.intake.conds ∧
    (State.endSlot s p).faults.parked = s.faults.parked ∧ (State.endSlot s p).faults.overflow = s.faults.overflow ∧
    (State.endSlot s p).faults.highWater = s.faults.highWater := by
  and_intros <;> first
    | rfl
    | (simp [State.endSlot]; done)
    | (unfold State.endSlot; (repeat' split) <;> simp; done)
    | (unfold State.endSlot; simp only []; (repeat' split) <;> simp [*])

@[simp] theorem State.purgeIntake_frame (s : State) :
    (State.purgeIntake s).device = s.device ∧ (State.purgeIntake s).config = s.config ∧
    (State.purgeIntake s).ports = s.ports ∧ (State.purgeIntake s).ladder = s.ladder ∧
    (State.purgeIntake s).lines = s.lines ∧ (State.purgeIntake s).publication = s.publication ∧
    (State.purgeIntake s).monitor = s.monitor ∧ (State.purgeIntake s).motion = s.motion ∧
    (State.purgeIntake s).pending = s.pending ∧ (State.purgeIntake s).faults.parked = s.faults.parked ∧
    (State.purgeIntake s).faults.overflow = s.faults.overflow := by
  and_intros <;> first
    | (unfold State.purgeIntake; simp; done)
    | (unfold State.purgeIntake; (repeat' split) <;> simp; done)
    | (unfold State.purgeIntake; simp only []; (repeat' split) <;> simp [*])

@[simp] theorem State.portOff_frame (s : State) (p : Station) :
    (State.portOff s p).device = s.device ∧ (State.portOff s p).config = s.config ∧
    (State.portOff s p).monitor = s.monitor ∧ (State.portOff s p).pending = s.pending ∧
    (State.portOff s p).faults.overflow = s.faults.overflow ∧
    (State.portOff s p).faults.highWater = s.faults.highWater := by
  and_intros <;> first
    | rfl
    | (simp [State.portOff]; done)
    | (unfold State.portOff; (repeat' split) <;> simp; done)
    | (unfold State.portOff; simp only []; (repeat' split) <;> simp [*])

@[simp] theorem State.stopMotion_frame (s : State) :
    (State.stopMotion s).device = s.device ∧ (State.stopMotion s).config = s.config ∧
    (State.stopMotion s).intake = s.intake ∧ (State.stopMotion s).pool = s.pool ∧
    (State.stopMotion s).monitor = s.monitor ∧ (State.stopMotion s).pending = s.pending ∧
    (State.stopMotion s).faults.entries = s.faults.entries ∧
    (State.stopMotion s).faults.overflow = s.faults.overflow ∧
    (State.stopMotion s).faults.applying = s.faults.applying ∧
    (State.stopMotion s).faults.highWater = s.faults.highWater := by
  and_intros <;> first
    | rfl
    | (simp [State.stopMotion]; done)
    | (unfold State.stopMotion; (repeat' split) <;> simp; done)
    | (unfold State.stopMotion; simp only []; (repeat' split) <;> simp [*])

@[simp] theorem State.endEpisodes_frame (s : State) :
    (State.endEpisodes s).device = s.device ∧ (State.endEpisodes s).config = s.config ∧
    (State.endEpisodes s).ports = s.ports ∧ (State.endEpisodes s).intake = s.intake ∧
    (State.endEpisodes s).pool = s.pool ∧ (State.endEpisodes s).faults = s.faults ∧
    (State.endEpisodes s).ladder = s.ladder ∧ (State.endEpisodes s).lines = s.lines ∧
    (State.endEpisodes s).monitor = s.monitor ∧ (State.endEpisodes s).motion = s.motion ∧
    (State.endEpisodes s).pending = s.pending ∧
    (State.endEpisodes s).publication.counter = s.publication.counter := by
  and_intros <;> first
    | rfl
    | (simp [State.endEpisodes]; done)
    | (unfold State.endEpisodes; (repeat' split) <;> simp; done)
    | (unfold State.endEpisodes; simp only []; (repeat' split) <;> simp [*])

@[simp] theorem State.keyOff_frame (s : State) :
    (State.keyOff s).config = s.config ∧ (State.keyOff s).pending = s.pending ∧
    (State.keyOff s).device.topology = s.device.topology ∧ (State.keyOff s).device.clock = s.device.clock := by
  and_intros <;> first
    | (unfold State.keyOff; simp; done)
    | (unfold State.keyOff; (repeat' split) <;> simp; done)
    | (unfold State.keyOff; simp only []; (repeat' split) <;> simp [*])

@[simp] theorem State.keyLow_frame (s : State) :
    (State.keyLow s).config = s.config ∧ (State.keyLow s).pending = s.pending ∧
    (State.keyLow s).device.topology = s.device.topology ∧ (State.keyLow s).device.clock = s.device.clock := by
  and_intros <;> first
    | (unfold State.keyLow; simp; done)
    | (unfold State.keyLow; (repeat' split) <;> simp; done)
    | (unfold State.keyLow; simp only []; (repeat' split) <;> simp [*])

@[simp] theorem State.keyHigh_frame (mV : Nat) (s : State) :
    (State.keyHigh mV s).config = s.config ∧ (State.keyHigh mV s).pending = s.pending ∧
    (State.keyHigh mV s).device.topology = s.device.topology ∧ (State.keyHigh mV s).device.clock = s.device.clock ∧
    (State.keyHigh mV s).faults.overflow = s.faults.overflow ∧
    (State.keyHigh mV s).faults.highWater = s.faults.highWater ∧
    (State.keyHigh mV s).monitor.filters = s.monitor.filters := by
  and_intros <;> first
    | rfl
    | (simp [State.keyHigh]; done)
    | (unfold State.keyHigh; (repeat' split) <;> simp; done)
    | (unfold State.keyHigh; simp only []; (repeat' split) <;> simp [*])

/-! ### Frames of the port, of Publication and of the Fault Table -/

@[simp] theorem State.helloInSync_frame (p : Station) (payload : List Byte) (s : State) :
    (State.helloInSync p payload s).device = s.device ∧ (State.helloInSync p payload s).config = s.config ∧
    (State.helloInSync p payload s).pool = s.pool ∧ (State.helloInSync p payload s).monitor = s.monitor ∧
    (State.helloInSync p payload s).pending = s.pending ∧
    (State.helloInSync p payload s).intake.queues = s.intake.queues ∧
    (State.helloInSync p payload s).intake.slots = s.intake.slots ∧
    (State.helloInSync p payload s).faults.entries = s.faults.entries ∧
    (State.helloInSync p payload s).faults.overflow = s.faults.overflow ∧
    (State.helloInSync p payload s).faults.applying = s.faults.applying ∧
    (State.helloInSync p payload s).faults.highWater = s.faults.highWater := by
  and_intros <;> first
    | rfl
    | (simp [State.helloInSync]; done)
    | (unfold State.helloInSync; (repeat' split) <;> simp; done)
    | (unfold State.helloInSync; simp only []; (repeat' split) <;> simp [*])

@[simp] theorem State.helloInTurn_frame (p : Station) (payload : List Byte) (s : State) :
    (State.helloInTurn p payload s).device = s.device ∧ (State.helloInTurn p payload s).config = s.config ∧
    (State.helloInTurn p payload s).pool = s.pool ∧ (State.helloInTurn p payload s).monitor = s.monitor ∧
    (State.helloInTurn p payload s).pending = s.pending ∧
    (State.helloInTurn p payload s).intake.queues = s.intake.queues ∧
    (State.helloInTurn p payload s).intake.slots = s.intake.slots ∧
    (State.helloInTurn p payload s).faults.entries = s.faults.entries ∧
    (State.helloInTurn p payload s).faults.overflow = s.faults.overflow ∧
    (State.helloInTurn p payload s).faults.applying = s.faults.applying ∧
    (State.helloInTurn p payload s).faults.highWater = s.faults.highWater := by
  and_intros <;> first
    | rfl
    | (simp [State.helloInTurn]; done)
    | (unfold State.helloInTurn; (repeat' split) <;> simp; done)
    | (unfold State.helloInTurn; simp only []; (repeat' split) <;> simp [*])

@[simp] theorem State.keepStatus_frame (p : Station) (r : StatusRec) (s : State) :
    (State.keepStatus p r s).device = s.device ∧ (State.keepStatus p r s).config = s.config ∧
    (State.keepStatus p r s).intake = s.intake ∧ (State.keepStatus p r s).pool = s.pool ∧
    (State.keepStatus p r s).faults = s.faults ∧ (State.keepStatus p r s).ladder = s.ladder ∧
    (State.keepStatus p r s).lines = s.lines ∧ (State.keepStatus p r s).publication = s.publication ∧
    (State.keepStatus p r s).monitor = s.monitor ∧ (State.keepStatus p r s).motion = s.motion ∧
    (State.keepStatus p r s).pending = s.pending := by
  and_intros <;> first
    | rfl
    | (simp [State.keepStatus]; done)
    | (unfold State.keepStatus; (repeat' split) <;> simp; done)
    | (unfold State.keepStatus; simp only []; (repeat' split) <;> simp [*])

@[simp] theorem State.statusInTurn_frame (p : Station) (payload : List Byte) (s : State) :
    (State.statusInTurn p payload s).device = s.device ∧ (State.statusInTurn p payload s).config = s.config ∧
    (State.statusInTurn p payload s).pool = s.pool ∧ (State.statusInTurn p payload s).monitor = s.monitor ∧
    (State.statusInTurn p payload s).pending = s.pending ∧
    (State.statusInTurn p payload s).intake.queues = s.intake.queues ∧
    (State.statusInTurn p payload s).intake.slots = s.intake.slots ∧
    (State.statusInTurn p payload s).faults.entries = s.faults.entries ∧
    (State.statusInTurn p payload s).faults.overflow = s.faults.overflow ∧
    (State.statusInTurn p payload s).faults.applying = s.faults.applying ∧
    (State.statusInTurn p payload s).faults.highWater = s.faults.highWater := by
  and_intros <;> first
    | rfl
    | (simp [State.statusInTurn]; done)
    | (unfold State.statusInTurn; (repeat' split) <;> simp; done)
    | (unfold State.statusInTurn; simp only []; (repeat' split) <;> simp [*])

@[simp] theorem State.testComplete_frame (s : State) :
    (State.testComplete s).device = s.device ∧ (State.testComplete s).config = s.config ∧
    (State.testComplete s).intake = s.intake ∧ (State.testComplete s).pool = s.pool ∧
    (State.testComplete s).faults = s.faults ∧ (State.testComplete s).monitor = s.monitor ∧
    (State.testComplete s).motion = s.motion ∧ (State.testComplete s).pending = s.pending ∧
    (State.testComplete s).ladder.parked = s.ladder.parked := by
  and_intros <;> first
    | rfl
    | (simp [State.testComplete]; done)
    | (unfold State.testComplete; (repeat' split) <;> simp; done)
    | (unfold State.testComplete; simp only []; (repeat' split) <;> simp [*])

@[simp] theorem State.adoptCurrent_frame (p : Station) (s : State) :
    (State.adoptCurrent p s).device = s.device ∧ (State.adoptCurrent p s).config = s.config ∧
    (State.adoptCurrent p s).pool = s.pool ∧ (State.adoptCurrent p s).faults = s.faults ∧
    (State.adoptCurrent p s).monitor = s.monitor ∧ (State.adoptCurrent p s).motion = s.motion ∧
    (State.adoptCurrent p s).pending = s.pending ∧ (State.adoptCurrent p s).intake.queues = s.intake.queues ∧
    (State.adoptCurrent p s).intake.slots = s.intake.slots ∧
    (State.adoptCurrent p s).ladder.parked = s.ladder.parked := by
  and_intros <;> first
    | rfl
    | (simp [State.adoptCurrent]; done)
    | (unfold State.adoptCurrent; (repeat' split) <;> simp; done)
    | (unfold State.adoptCurrent; simp only []; (repeat' split) <;> simp [*])

@[simp] theorem State.adoptGeneration_frame (p : Station) (g : Nat) (s : State) :
    (State.adoptGeneration p g s).device = s.device ∧ (State.adoptGeneration p g s).config = s.config ∧
    (State.adoptGeneration p g s).pool = s.pool ∧ (State.adoptGeneration p g s).faults = s.faults ∧
    (State.adoptGeneration p g s).monitor = s.monitor ∧ (State.adoptGeneration p g s).motion = s.motion ∧
    (State.adoptGeneration p g s).pending = s.pending ∧
    (State.adoptGeneration p g s).intake.queues = s.intake.queues ∧
    (State.adoptGeneration p g s).intake.slots = s.intake.slots ∧
    (State.adoptGeneration p g s).ladder.parked = s.ladder.parked := by
  and_intros <;> first
    | rfl
    | (simp [State.adoptGeneration]; done)
    | (unfold State.adoptGeneration; (repeat' split) <;> simp; done)
    | (unfold State.adoptGeneration; simp only []; (repeat' split) <;> simp [*])

@[simp] theorem State.adoptInTurn_frame (p : Station) (payload : List Byte) (s : State) :
    (State.adoptInTurn p payload s).device = s.device ∧ (State.adoptInTurn p payload s).config = s.config ∧
    (State.adoptInTurn p payload s).pool = s.pool ∧ (State.adoptInTurn p payload s).faults = s.faults ∧
    (State.adoptInTurn p payload s).monitor = s.monitor ∧ (State.adoptInTurn p payload s).motion = s.motion ∧
    (State.adoptInTurn p payload s).pending = s.pending ∧
    (State.adoptInTurn p payload s).intake.queues = s.intake.queues ∧
    (State.adoptInTurn p payload s).intake.slots = s.intake.slots ∧
    (State.adoptInTurn p payload s).ladder.parked = s.ladder.parked := by
  and_intros <;> first
    | rfl
    | (simp [State.adoptInTurn]; done)
    | (unfold State.adoptInTurn; (repeat' split) <;> simp; done)
    | (unfold State.adoptInTurn; simp only []; (repeat' split) <;> simp [*])

@[simp] theorem State.judgeClearEntry_frame (p : Station) (e : Fin 48) (s : State) :
    (State.judgeClearEntry p e s).1.device = s.device ∧ (State.judgeClearEntry p e s).1.config = s.config ∧
    (State.judgeClearEntry p e s).1.intake = s.intake ∧ (State.judgeClearEntry p e s).1.pool = s.pool ∧
    (State.judgeClearEntry p e s).1.monitor = s.monitor ∧ (State.judgeClearEntry p e s).1.motion = s.motion ∧
    (State.judgeClearEntry p e s).1.pending = s.pending ∧
    (State.judgeClearEntry p e s).1.faults.parked = s.faults.parked ∧
    (State.judgeClearEntry p e s).1.faults.overflow = s.faults.overflow ∧
    (State.judgeClearEntry p e s).1.faults.applying = s.faults.applying ∧
    (State.judgeClearEntry p e s).1.ladder.parked = s.ladder.parked := by
  and_intros <;> first
    | (unfold State.judgeClearEntry; simp; done)
    | (unfold State.judgeClearEntry; (repeat' split) <;> simp; done)
    | (unfold State.judgeClearEntry; simp only []; (repeat' split) <;> simp [*])

@[simp] theorem State.judgeClear_frame (p : Station) (payload : List Byte) (s : State) :
    (State.judgeClear p payload s).1.device = s.device ∧ (State.judgeClear p payload s).1.config = s.config ∧
    (State.judgeClear p payload s).1.intake = s.intake ∧ (State.judgeClear p payload s).1.pool = s.pool ∧
    (State.judgeClear p payload s).1.monitor = s.monitor ∧ (State.judgeClear p payload s).1.motion = s.motion ∧
    (State.judgeClear p payload s).1.pending = s.pending ∧
    (State.judgeClear p payload s).1.faults.parked = s.faults.parked ∧
    (State.judgeClear p payload s).1.faults.overflow = s.faults.overflow ∧
    (State.judgeClear p payload s).1.faults.applying = s.faults.applying ∧
    (State.judgeClear p payload s).1.ladder.parked = s.ladder.parked := by
  and_intros <;> first
    | (unfold State.judgeClear; simp; done)
    | (unfold State.judgeClear; (repeat' split) <;> simp; done)
    | (unfold State.judgeClear; simp only []; (repeat' split) <;> simp [*])

@[simp] theorem State.judgeDiscardEntry_frame (p : Station) (payload : List Byte) (s : State) :
    (State.judgeDiscardEntry p payload s).1.device = s.device ∧
    (State.judgeDiscardEntry p payload s).1.config = s.config ∧
    (State.judgeDiscardEntry p payload s).1.monitor = s.monitor ∧
    (State.judgeDiscardEntry p payload s).1.motion = s.motion ∧
    (State.judgeDiscardEntry p payload s).1.pending = s.pending ∧
    (State.judgeDiscardEntry p payload s).1.intake.queues = s.intake.queues ∧
    (State.judgeDiscardEntry p payload s).1.intake.conds = s.intake.conds ∧
    (State.judgeDiscardEntry p payload s).1.faults.parked = s.faults.parked ∧
    (State.judgeDiscardEntry p payload s).1.faults.overflow = s.faults.overflow ∧
    (State.judgeDiscardEntry p payload s).1.faults.applying = s.faults.applying ∧
    (State.judgeDiscardEntry p payload s).1.ladder.parked = s.ladder.parked := by
  and_intros <;> first
    | (unfold State.judgeDiscardEntry; simp; done)
    | (unfold State.judgeDiscardEntry; (repeat' split) <;> simp; done)
    | (unfold State.judgeDiscardEntry; simp only []; (repeat' split) <;> simp [*])

@[simp] theorem State.judgeDiscardAll_frame (p : Station) (payload : List Byte) (s : State) :
    (State.judgeDiscardAll p payload s).1.device = s.device ∧
    (State.judgeDiscardAll p payload s).1.config = s.config ∧
    (State.judgeDiscardAll p payload s).1.monitor = s.monitor ∧
    (State.judgeDiscardAll p payload s).1.motion = s.motion ∧
    (State.judgeDiscardAll p payload s).1.pending = s.pending ∧
    (State.judgeDiscardAll p payload s).1.intake.queues = s.intake.queues ∧
    (State.judgeDiscardAll p payload s).1.intake.conds = s.intake.conds ∧
    (State.judgeDiscardAll p payload s).1.faults.parked = s.faults.parked ∧
    (State.judgeDiscardAll p payload s).1.faults.overflow = s.faults.overflow ∧
    (State.judgeDiscardAll p payload s).1.faults.applying = s.faults.applying ∧
    (State.judgeDiscardAll p payload s).1.ladder.parked = s.ladder.parked := by
  and_intros <;> first
    | (unfold State.judgeDiscardAll; simp; done)
    | (unfold State.judgeDiscardAll; (repeat' split) <;> simp; done)
    | (unfold State.judgeDiscardAll; simp only []; (repeat' split) <;> simp [*])

@[simp] theorem State.clearCells_frame (s : State) :
    (State.clearCells s).device = s.device ∧ (State.clearCells s).config = s.config ∧
    (State.clearCells s).ports = s.ports ∧ (State.clearCells s).intake = s.intake ∧
    (State.clearCells s).pool = s.pool ∧ (State.clearCells s).ladder = s.ladder ∧
    (State.clearCells s).lines = s.lines ∧ (State.clearCells s).publication = s.publication ∧
    (State.clearCells s).monitor = s.monitor ∧ (State.clearCells s).motion = s.motion ∧
    (State.clearCells s).pending = s.pending ∧ (State.clearCells s).faults.parked = s.faults.parked ∧
    (State.clearCells s).faults.entries = s.faults.entries ∧
    (State.clearCells s).faults.applying = s.faults.applying ∧
    (State.clearCells s).faults.highWater = s.faults.highWater := by
  and_intros <;> first
    | rfl
    | (simp [State.clearCells]; done)
    | (unfold State.clearCells; (repeat' split) <;> simp; done)
    | (unfold State.clearCells; simp only []; (repeat' split) <;> simp [*])

@[simp] theorem State.judgeClearOverflow_frame (p : Station) (payload : List Byte) (s : State) :
    (State.judgeClearOverflow p payload s).1.device = s.device ∧
    (State.judgeClearOverflow p payload s).1.config = s.config ∧
    (State.judgeClearOverflow p payload s).1.intake = s.intake ∧
    (State.judgeClearOverflow p payload s).1.pool = s.pool ∧
    (State.judgeClearOverflow p payload s).1.monitor = s.monitor ∧
    (State.judgeClearOverflow p payload s).1.motion = s.motion ∧
    (State.judgeClearOverflow p payload s).1.pending = s.pending ∧
    (State.judgeClearOverflow p payload s).1.faults.parked = s.faults.parked ∧
    (State.judgeClearOverflow p payload s).1.faults.applying = s.faults.applying ∧
    (State.judgeClearOverflow p payload s).1.ladder.parked = s.ladder.parked := by
  and_intros <;> first
    | (unfold State.judgeClearOverflow; simp; done)
    | (unfold State.judgeClearOverflow; (repeat' split) <;> simp; done)
    | (unfold State.judgeClearOverflow; simp only []; (repeat' split) <;> simp [*])

/-! ### Intake -/

@[simp] theorem State.enqueue_frame (r : QReport) (s : State) :
    (State.enqueue r s).device = s.device ∧ (State.enqueue r s).config = s.config ∧
    (State.enqueue r s).ports = s.ports ∧ (State.enqueue r s).pool = s.pool ∧
    (State.enqueue r s).faults = s.faults ∧ (State.enqueue r s).ladder = s.ladder ∧
    (State.enqueue r s).lines = s.lines ∧ (State.enqueue r s).publication = s.publication ∧
    (State.enqueue r s).monitor = s.monitor ∧ (State.enqueue r s).motion = s.motion ∧
    (State.enqueue r s).pending = s.pending ∧ (State.enqueue r s).intake.slots = s.intake.slots ∧
    (State.enqueue r s).intake.conds = s.intake.conds := by
  and_intros <;> first
    | rfl
    | (simp [State.enqueue]; done)
    | (unfold State.enqueue; (repeat' split) <;> simp; done)
    | (unfold State.enqueue; simp only []; (repeat' split) <;> simp [*])

@[simp] theorem State.openAssembly_frame (p : Station) (announced : Option Nat) (s : State) :
    (State.openAssembly p announced s).device = s.device ∧ (State.openAssembly p announced s).config = s.config ∧
    (State.openAssembly p announced s).ports = s.ports ∧ (State.openAssembly p announced s).ladder = s.ladder ∧
    (State.openAssembly p announced s).lines = s.lines ∧
    (State.openAssembly p announced s).publication = s.publication ∧
    (State.openAssembly p announced s).monitor = s.monitor ∧ (State.openAssembly p announced s).motion = s.motion ∧
    (State.openAssembly p announced s).pending = s.pending ∧
    (State.openAssembly p announced s).intake.conds = s.intake.conds ∧
    (State.openAssembly p announced s).faults.parked = s.faults.parked ∧
    (State.openAssembly p announced s).faults.overflow = s.faults.overflow ∧
    (State.openAssembly p announced s).faults.highWater = s.faults.highWater := by
  and_intros <;> first
    | rfl
    | (simp [State.openAssembly]; done)
    | (unfold State.openAssembly; (repeat' split) <;> simp; done)
    | (unfold State.openAssembly; simp only []; (repeat' split) <;> simp [*])

@[simp] theorem State.lend_frame (b : Fin 8) (p : Station) (n : Nat) (s : State) :
    (State.lend b p n s).device = s.device ∧ (State.lend b p n s).config = s.config ∧
    (State.lend b p n s).ports = s.ports ∧ (State.lend b p n s).faults = s.faults ∧
    (State.lend b p n s).ladder = s.ladder ∧ (State.lend b p n s).lines = s.lines ∧
    (State.lend b p n s).publication = s.publication ∧ (State.lend b p n s).monitor = s.monitor ∧
    (State.lend b p n s).motion = s.motion ∧ (State.lend b p n s).pending = s.pending ∧
    (State.lend b p n s).intake.queues = s.intake.queues ∧ (State.lend b p n s).intake.conds = s.intake.conds := by
  and_intros <;> first
    | rfl
    | (simp [State.lend]; done)
    | (unfold State.lend; (repeat' split) <;> simp; done)
    | (unfold State.lend; simp only []; (repeat' split) <;> simp [*])

@[simp] theorem State.acceptReport_frame (p : Station) (r : ReportFields) (s : State) :
    (State.acceptReport p r s).1.device = s.device ∧ (State.acceptReport p r s).1.config = s.config ∧
    (State.acceptReport p r s).1.ports = s.ports ∧ (State.acceptReport p r s).1.faults = s.faults ∧
    (State.acceptReport p r s).1.ladder = s.ladder ∧ (State.acceptReport p r s).1.lines = s.lines ∧
    (State.acceptReport p r s).1.publication = s.publication ∧ (State.acceptReport p r s).1.monitor = s.monitor ∧
    (State.acceptReport p r s).1.motion = s.motion ∧ (State.acceptReport p r s).1.pending = s.pending ∧
    (State.acceptReport p r s).1.intake.conds = s.intake.conds := by
  and_intros <;> first
    | rfl
    | (simp [State.acceptReport]; done)
    | (unfold State.acceptReport; (repeat' split) <;> simp; done)
    | (unfold State.acceptReport; simp only []; (repeat' split) <;> simp [*])

@[simp] theorem State.admitReport_frame (p : Station) (r : ReportFields) (s : State) :
    (State.admitReport p r s).1.device = s.device ∧ (State.admitReport p r s).1.config = s.config ∧
    (State.admitReport p r s).1.ports = s.ports ∧ (State.admitReport p r s).1.faults = s.faults ∧
    (State.admitReport p r s).1.ladder = s.ladder ∧ (State.admitReport p r s).1.lines = s.lines ∧
    (State.admitReport p r s).1.publication = s.publication ∧ (State.admitReport p r s).1.monitor = s.monitor ∧
    (State.admitReport p r s).1.motion = s.motion ∧ (State.admitReport p r s).1.pending = s.pending ∧
    (State.admitReport p r s).1.intake.conds = s.intake.conds := by
  and_intros <;> first
    | rfl
    | (simp [State.admitReport]; done)
    | (unfold State.admitReport; (repeat' split) <;> simp; done)
    | (unfold State.admitReport; simp only []; (repeat' split) <;> simp [*])

@[simp] theorem State.judgeReport_frame (p : Station) (payload : List Byte) (s : State) :
    (State.judgeReport p payload s).1.device = s.device ∧ (State.judgeReport p payload s).1.config = s.config ∧
    (State.judgeReport p payload s).1.ports = s.ports ∧ (State.judgeReport p payload s).1.ladder = s.ladder ∧
    (State.judgeReport p payload s).1.lines = s.lines ∧
    (State.judgeReport p payload s).1.publication = s.publication ∧
    (State.judgeReport p payload s).1.monitor = s.monitor ∧ (State.judgeReport p payload s).1.motion = s.motion ∧
    (State.judgeReport p payload s).1.pending = s.pending ∧
    (State.judgeReport p payload s).1.intake.conds = s.intake.conds ∧
    (State.judgeReport p payload s).1.faults.parked = s.faults.parked ∧
    (State.judgeReport p payload s).1.faults.overflow = s.faults.overflow := by
  and_intros <;> first
    | (unfold State.judgeReport; simp; done)
    | (unfold State.judgeReport; (repeat' split) <;> simp; done)
    | (unfold State.judgeReport; simp only []; (repeat' split) <;> simp [*])

@[simp] theorem State.writeData_frame (b : Fin 8) (d : List Byte) (s : State) :
    (State.writeData b d s).device = s.device ∧ (State.writeData b d s).config = s.config ∧
    (State.writeData b d s).ports = s.ports ∧ (State.writeData b d s).intake = s.intake ∧
    (State.writeData b d s).faults = s.faults ∧ (State.writeData b d s).ladder = s.ladder ∧
    (State.writeData b d s).lines = s.lines ∧ (State.writeData b d s).publication = s.publication ∧
    (State.writeData b d s).monitor = s.monitor ∧ (State.writeData b d s).motion = s.motion ∧
    (State.writeData b d s).pending = s.pending := by
  and_intros <;> first
    | rfl
    | (simp [State.writeData]; done)
    | (unfold State.writeData; (repeat' split) <;> simp; done)
    | (unfold State.writeData; simp only []; (repeat' split) <;> simp [*])

@[simp] theorem State.completeAssembly_frame (b : Fin 8) (p : Station) (s : State) :
    (State.completeAssembly b p s).device = s.device ∧ (State.completeAssembly b p s).config = s.config ∧
    (State.completeAssembly b p s).ports = s.ports ∧ (State.completeAssembly b p s).faults = s.faults ∧
    (State.completeAssembly b p s).ladder = s.ladder ∧ (State.completeAssembly b p s).lines = s.lines ∧
    (State.completeAssembly b p s).publication = s.publication ∧
    (State.completeAssembly b p s).monitor = s.monitor ∧ (State.completeAssembly b p s).motion = s.motion ∧
    (State.completeAssembly b p s).pending = s.pending ∧
    (State.completeAssembly b p s).intake.queues = s.intake.queues ∧
    (State.completeAssembly b p s).intake.conds = s.intake.conds := by
  and_intros <;> first
    | rfl
    | (simp [State.completeAssembly]; done)
    | (unfold State.completeAssembly; (repeat' split) <;> simp; done)
    | (unfold State.completeAssembly; simp only []; (repeat' split) <;> simp [*])

@[simp] theorem State.countSegment_frame (p : Station) (a : Assembly) (n : Nat) (s : State) :
    (State.countSegment p a n s).device = s.device ∧ (State.countSegment p a n s).config = s.config ∧
    (State.countSegment p a n s).ports = s.ports ∧ (State.countSegment p a n s).pool = s.pool ∧
    (State.countSegment p a n s).faults = s.faults ∧ (State.countSegment p a n s).ladder = s.ladder ∧
    (State.countSegment p a n s).lines = s.lines ∧ (State.countSegment p a n s).publication = s.publication ∧
    (State.countSegment p a n s).monitor = s.monitor ∧ (State.countSegment p a n s).motion = s.motion ∧
    (State.countSegment p a n s).pending = s.pending ∧
    (State.countSegment p a n s).intake.queues = s.intake.queues ∧
    (State.countSegment p a n s).intake.conds = s.intake.conds := by
  and_intros <;> first
    | rfl
    | (simp [State.countSegment]; done)
    | (unfold State.countSegment; (repeat' split) <;> simp; done)
    | (unfold State.countSegment; simp only []; (repeat' split) <;> simp [*])

@[simp] theorem State.takeSegment_frame (p : Station) (a : Assembly) (d : List Byte) (s : State) :
    (State.takeSegment p a d s).1.device = s.device ∧ (State.takeSegment p a d s).1.config = s.config ∧
    (State.takeSegment p a d s).1.ports = s.ports ∧ (State.takeSegment p a d s).1.faults = s.faults ∧
    (State.takeSegment p a d s).1.ladder = s.ladder ∧ (State.takeSegment p a d s).1.lines = s.lines ∧
    (State.takeSegment p a d s).1.publication = s.publication ∧ (State.takeSegment p a d s).1.monitor = s.monitor ∧
    (State.takeSegment p a d s).1.motion = s.motion ∧ (State.takeSegment p a d s).1.pending = s.pending ∧
    (State.takeSegment p a d s).1.intake.queues = s.intake.queues ∧
    (State.takeSegment p a d s).1.intake.conds = s.intake.conds := by
  and_intros <;> first
    | rfl
    | (simp [State.takeSegment]; done)
    | (unfold State.takeSegment; (repeat' split) <;> simp; done)
    | (unfold State.takeSegment; simp only []; (repeat' split) <;> simp [*])

@[simp] theorem State.judgeSnapshot_frame (p : Station) (payload : List Byte) (s : State) :
    (State.judgeSnapshot p payload s).1.device = s.device ∧ (State.judgeSnapshot p payload s).1.config = s.config ∧
    (State.judgeSnapshot p payload s).1.ports = s.ports ∧ (State.judgeSnapshot p payload s).1.ladder = s.ladder ∧
    (State.judgeSnapshot p payload s).1.lines = s.lines ∧
    (State.judgeSnapshot p payload s).1.publication = s.publication ∧
    (State.judgeSnapshot p payload s).1.monitor = s.monitor ∧
    (State.judgeSnapshot p payload s).1.motion = s.motion ∧
    (State.judgeSnapshot p payload s).1.pending = s.pending ∧
    (State.judgeSnapshot p payload s).1.intake.conds = s.intake.conds ∧
    (State.judgeSnapshot p payload s).1.faults.parked = s.faults.parked ∧
    (State.judgeSnapshot p payload s).1.faults.overflow = s.faults.overflow := by
  and_intros <;> first
    | (unfold State.judgeSnapshot; simp; done)
    | (unfold State.judgeSnapshot; (repeat' split) <;> simp; done)
    | (unfold State.judgeSnapshot; simp only []; (repeat' split) <;> simp [*])

@[simp] theorem State.markSent_frame (k : Fin 24) (s : State) :
    (State.markSent k s).device = s.device ∧ (State.markSent k s).config = s.config ∧
    (State.markSent k s).ports = s.ports ∧ (State.markSent k s).pool = s.pool ∧
    (State.markSent k s).faults = s.faults ∧ (State.markSent k s).ladder = s.ladder ∧
    (State.markSent k s).lines = s.lines ∧ (State.markSent k s).publication = s.publication ∧
    (State.markSent k s).monitor = s.monitor ∧ (State.markSent k s).motion = s.motion ∧
    (State.markSent k s).pending = s.pending ∧ (State.markSent k s).intake.queues = s.intake.queues ∧
    (State.markSent k s).intake.slots = s.intake.slots := by
  and_intros <;> first
    | rfl
    | (simp [State.markSent]; done)
    | (unfold State.markSent; (repeat' split) <;> simp; done)
    | (unfold State.markSent; simp only []; (repeat' split) <;> simp [*])

@[simp] theorem State.formSelf_frame (k : Fin 24) (s : State) :
    (State.formSelf k s).device = s.device ∧ (State.formSelf k s).config = s.config ∧
    (State.formSelf k s).ports = s.ports ∧ (State.formSelf k s).pool = s.pool ∧
    (State.formSelf k s).faults = s.faults ∧ (State.formSelf k s).ladder = s.ladder ∧
    (State.formSelf k s).lines = s.lines ∧ (State.formSelf k s).publication = s.publication ∧
    (State.formSelf k s).monitor = s.monitor ∧ (State.formSelf k s).motion = s.motion ∧
    (State.formSelf k s).pending = s.pending ∧ (State.formSelf k s).intake.slots = s.intake.slots := by
  and_intros <;> first
    | rfl
    | (simp [State.formSelf]; done)
    | (unfold State.formSelf; (repeat' split) <;> simp; done)
    | (unfold State.formSelf; simp only []; (repeat' split) <;> simp [*])

@[simp] theorem State.makeCurrent_frame (q : Source) (s : State) :
    (State.makeCurrent q s).device = s.device ∧ (State.makeCurrent q s).config = s.config ∧
    (State.makeCurrent q s).ports = s.ports ∧ (State.makeCurrent q s).pool = s.pool ∧
    (State.makeCurrent q s).faults = s.faults ∧ (State.makeCurrent q s).ladder = s.ladder ∧
    (State.makeCurrent q s).lines = s.lines ∧ (State.makeCurrent q s).publication = s.publication ∧
    (State.makeCurrent q s).monitor = s.monitor ∧ (State.makeCurrent q s).motion = s.motion ∧
    (State.makeCurrent q s).pending = s.pending ∧ (State.makeCurrent q s).intake.queues = s.intake.queues ∧
    (State.makeCurrent q s).intake.slots = s.intake.slots ∧
    (State.makeCurrent q s).intake.conds = s.intake.conds := by
  and_intros <;> first
    | rfl
    | (simp [State.makeCurrent]; done)
    | (unfold State.makeCurrent; (repeat' split) <;> simp; done)
    | (unfold State.makeCurrent; simp only []; (repeat' split) <;> simp [*])

@[simp] theorem State.handHead_frame (q : Source) (s : State) :
    (State.handHead q s).device = s.device ∧ (State.handHead q s).config = s.config ∧
    (State.handHead q s).ports = s.ports ∧ (State.handHead q s).pool = s.pool ∧
    (State.handHead q s).ladder = s.ladder ∧ (State.handHead q s).lines = s.lines ∧
    (State.handHead q s).publication = s.publication ∧ (State.handHead q s).monitor = s.monitor ∧
    (State.handHead q s).motion = s.motion ∧ (State.handHead q s).pending = s.pending ∧
    (State.handHead q s).intake.slots = s.intake.slots ∧ (State.handHead q s).intake.conds = s.intake.conds ∧
    (State.handHead q s).faults.parked = s.faults.parked ∧ (State.handHead q s).faults.entries = s.faults.entries ∧
    (State.handHead q s).faults.overflow = s.faults.overflow ∧
    (State.handHead q s).faults.highWater = s.faults.highWater := by
  and_intros <;> first
    | rfl
    | (simp [State.handHead]; done)
    | (unfold State.handHead; (repeat' split) <;> simp; done)
    | (unfold State.handHead; simp only []; (repeat' split) <;> simp [*])

@[simp] theorem State.handOff_frame (s : State) :
    (State.handOff s).device = s.device ∧ (State.handOff s).config = s.config ∧ (State.handOff s).ports = s.ports ∧
    (State.handOff s).pool = s.pool ∧ (State.handOff s).ladder = s.ladder ∧ (State.handOff s).lines = s.lines ∧
    (State.handOff s).publication = s.publication ∧ (State.handOff s).monitor = s.monitor ∧
    (State.handOff s).motion = s.motion ∧ (State.handOff s).pending = s.pending ∧
    (State.handOff s).intake.slots = s.intake.slots ∧ (State.handOff s).intake.conds = s.intake.conds ∧
    (State.handOff s).faults.parked = s.faults.parked ∧ (State.handOff s).faults.entries = s.faults.entries ∧
    (State.handOff s).faults.overflow = s.faults.overflow ∧
    (State.handOff s).faults.highWater = s.faults.highWater := by
  and_intros <;> first
    | rfl
    | (simp [State.handOff]; done)
    | (unfold State.handOff; (repeat' split) <;> simp; done)
    | (unfold State.handOff; simp only []; (repeat' split) <;> simp [*])

/-! ### Events of a link -/

@[simp] theorem State.drivenInSync_frame (p : Station) (s : State) :
    (State.drivenInSync p s).device = s.device ∧ (State.drivenInSync p s).config = s.config ∧
    (State.drivenInSync p s).intake = s.intake ∧ (State.drivenInSync p s).pool = s.pool ∧
    (State.drivenInSync p s).faults = s.faults ∧ (State.drivenInSync p s).ladder = s.ladder ∧
    (State.drivenInSync p s).lines = s.lines ∧ (State.drivenInSync p s).publication = s.publication ∧
    (State.drivenInSync p s).monitor = s.monitor ∧ (State.drivenInSync p s).motion = s.motion ∧
    (State.drivenInSync p s).pending = s.pending := by
  and_intros <;> first
    | rfl
    | (simp [State.drivenInSync]; done)
    | (unfold State.drivenInSync; (repeat' split) <;> simp; done)
    | (unfold State.drivenInSync; simp only []; (repeat' split) <;> simp [*])

@[simp] theorem State.contention_frame (p : Station) (f : OutFrame) (s : State) :
    (State.contention p f s).device = s.device ∧ (State.contention p f s).config = s.config ∧
    (State.contention p f s).monitor = s.monitor ∧ (State.contention p f s).pending = s.pending ∧
    (State.contention p f s).faults.overflow = s.faults.overflow ∧
    (State.contention p f s).faults.highWater = s.faults.highWater := by
  and_intros <;> first
    | rfl
    | (simp [State.contention]; done)
    | (unfold State.contention; (repeat' split) <;> simp; done)
    | (unfold State.contention; simp only []; (repeat' split) <;> simp [*])

@[simp] theorem State.breakTurn_frame (p : Station) (s : State) :
    (State.breakTurn p s).device = s.device ∧ (State.breakTurn p s).config = s.config ∧
    (State.breakTurn p s).pool = s.pool ∧ (State.breakTurn p s).monitor = s.monitor ∧
    (State.breakTurn p s).pending = s.pending ∧ (State.breakTurn p s).intake.queues = s.intake.queues ∧
    (State.breakTurn p s).intake.slots = s.intake.slots ∧ (State.breakTurn p s).faults.entries = s.faults.entries ∧
    (State.breakTurn p s).faults.overflow = s.faults.overflow ∧
    (State.breakTurn p s).faults.applying = s.faults.applying ∧
    (State.breakTurn p s).faults.highWater = s.faults.highWater := by
  and_intros <;> first
    | rfl
    | (simp [State.breakTurn]; done)
    | (unfold State.breakTurn; (repeat' split) <;> simp; done)
    | (unfold State.breakTurn; simp only []; (repeat' split) <;> simp [*])

/-! ### Outbound frames -/

@[simp] theorem State.startFrame_frame (p : Station) (s : State) :
    (State.startFrame p s).device = s.device ∧ (State.startFrame p s).config = s.config ∧
    (State.startFrame p s).intake = s.intake ∧ (State.startFrame p s).pool = s.pool ∧
    (State.startFrame p s).faults = s.faults ∧ (State.startFrame p s).ladder = s.ladder ∧
    (State.startFrame p s).lines = s.lines ∧ (State.startFrame p s).publication = s.publication ∧
    (State.startFrame p s).monitor = s.monitor ∧ (State.startFrame p s).motion = s.motion ∧
    (State.startFrame p s).pending = s.pending := by
  and_intros <;> first
    | rfl
    | (simp [State.startFrame]; done)
    | (unfold State.startFrame; (repeat' split) <;> simp; done)
    | (unfold State.startFrame; simp only []; (repeat' split) <;> simp [*])

@[simp] theorem State.envelopeOut_frame (p : Station) (g : Nat) (s : State) :
    (State.envelopeOut p g s).device = s.device ∧ (State.envelopeOut p g s).config = s.config ∧
    (State.envelopeOut p g s).ports = s.ports ∧ (State.envelopeOut p g s).intake = s.intake ∧
    (State.envelopeOut p g s).pool = s.pool ∧ (State.envelopeOut p g s).faults = s.faults ∧
    (State.envelopeOut p g s).ladder = s.ladder ∧ (State.envelopeOut p g s).lines = s.lines ∧
    (State.envelopeOut p g s).monitor = s.monitor ∧ (State.envelopeOut p g s).motion = s.motion ∧
    (State.envelopeOut p g s).pending = s.pending ∧
    (State.envelopeOut p g s).publication.counter = s.publication.counter := by
  and_intros <;> first
    | rfl
    | (simp [State.envelopeOut]; done)
    | (unfold State.envelopeOut; (repeat' split) <;> simp; done)
    | (unfold State.envelopeOut; simp only []; (repeat' split) <;> simp [*])

@[simp] theorem State.tellSent_frame (p : Station) (f : OutFrame) (s : State) :
    (State.tellSent p f s).device = s.device ∧ (State.tellSent p f s).config = s.config ∧
    (State.tellSent p f s).ports = s.ports ∧ (State.tellSent p f s).intake = s.intake ∧
    (State.tellSent p f s).pool = s.pool ∧ (State.tellSent p f s).ladder = s.ladder ∧
    (State.tellSent p f s).lines = s.lines ∧ (State.tellSent p f s).monitor = s.monitor ∧
    (State.tellSent p f s).motion = s.motion ∧ (State.tellSent p f s).pending = s.pending ∧
    (State.tellSent p f s).faults.parked = s.faults.parked ∧
    (State.tellSent p f s).faults.entries = s.faults.entries ∧
    (State.tellSent p f s).faults.overflow = s.faults.overflow ∧
    (State.tellSent p f s).faults.applying = s.faults.applying ∧
    (State.tellSent p f s).publication.counter = s.publication.counter := by
  and_intros <;> first
    | rfl
    | (simp [State.tellSent]; done)
    | (unfold State.tellSent; (repeat' split) <;> simp; done)
    | (unfold State.tellSent; simp only []; (repeat' split) <;> simp [*])

@[simp] theorem State.complete_frame (p : Station) (f : Sending) (s : State) :
    (State.complete p f s).device = s.device ∧ (State.complete p f s).config = s.config ∧
    (State.complete p f s).intake = s.intake ∧ (State.complete p f s).pool = s.pool ∧
    (State.complete p f s).ladder = s.ladder ∧ (State.complete p f s).lines = s.lines ∧
    (State.complete p f s).monitor = s.monitor ∧ (State.complete p f s).motion = s.motion ∧
    (State.complete p f s).pending = s.pending ∧ (State.complete p f s).faults.parked = s.faults.parked ∧
    (State.complete p f s).faults.entries = s.faults.entries ∧
    (State.complete p f s).faults.overflow = s.faults.overflow ∧
    (State.complete p f s).faults.applying = s.faults.applying ∧
    (State.complete p f s).publication.counter = s.publication.counter := by
  and_intros <;> first
    | rfl
    | (simp [State.complete]; done)
    | (unfold State.complete; (repeat' split) <;> simp; done)
    | (unfold State.complete; simp only []; (repeat' split) <;> simp [*])

/-! ### The Ladder and Publication -/

@[simp] theorem State.relaxDue_frame (s : State) :
    (State.relaxDue s).device = s.device ∧ (State.relaxDue s).config = s.config ∧
    (State.relaxDue s).intake = s.intake ∧ (State.relaxDue s).pool = s.pool ∧
    (State.relaxDue s).faults = s.faults ∧ (State.relaxDue s).monitor = s.monitor ∧
    (State.relaxDue s).motion = s.motion ∧ (State.relaxDue s).pending = s.pending ∧
    (State.relaxDue s).ladder.parked = s.ladder.parked := by
  and_intros <;> first
    | rfl
    | (simp [State.relaxDue]; done)
    | (unfold State.relaxDue; (repeat' split) <;> simp; done)
    | (unfold State.relaxDue; simp only []; (repeat' split) <;> simp [*])

@[simp] theorem State.resend_frame (p : Station) (s : State) :
    (State.resend p s).device = s.device ∧ (State.resend p s).config = s.config ∧
    (State.resend p s).intake = s.intake ∧ (State.resend p s).pool = s.pool ∧
    (State.resend p s).faults = s.faults ∧ (State.resend p s).ladder = s.ladder ∧
    (State.resend p s).lines = s.lines ∧ (State.resend p s).monitor = s.monitor ∧
    (State.resend p s).motion = s.motion ∧ (State.resend p s).pending = s.pending ∧
    (State.resend p s).publication.counter = s.publication.counter := by
  and_intros <;> first
    | rfl
    | (simp [State.resend]; done)
    | (unfold State.resend; (repeat' split) <;> simp; done)
    | (unfold State.resend; simp only []; (repeat' split) <;> simp [*])

@[simp] theorem State.lapse_frame (p : Station) (s : State) :
    (State.lapse p s).device = s.device ∧ (State.lapse p s).config = s.config ∧ (State.lapse p s).ports = s.ports ∧
    (State.lapse p s).pool = s.pool ∧ (State.lapse p s).faults = s.faults ∧ (State.lapse p s).ladder = s.ladder ∧
    (State.lapse p s).lines = s.lines ∧ (State.lapse p s).monitor = s.monitor ∧
    (State.lapse p s).motion = s.motion ∧ (State.lapse p s).pending = s.pending ∧
    (State.lapse p s).intake.queues = s.intake.queues ∧ (State.lapse p s).intake.slots = s.intake.slots ∧
    (State.lapse p s).publication.counter = s.publication.counter := by
  and_intros <;> first
    | rfl
    | (simp [State.lapse]; done)
    | (unfold State.lapse; (repeat' split) <;> simp; done)
    | (unfold State.lapse; simp only []; (repeat' split) <;> simp [*])

/-! ### Motion's timers -/

@[simp] theorem State.raiseParked_frame (s : State) :
    (State.raiseParked s).device = s.device ∧ (State.raiseParked s).config = s.config ∧
    (State.raiseParked s).intake = s.intake ∧ (State.raiseParked s).pool = s.pool ∧
    (State.raiseParked s).monitor = s.monitor ∧ (State.raiseParked s).pending = s.pending ∧
    (State.raiseParked s).faults.entries = s.faults.entries ∧
    (State.raiseParked s).faults.overflow = s.faults.overflow ∧
    (State.raiseParked s).faults.applying = s.faults.applying ∧
    (State.raiseParked s).faults.highWater = s.faults.highWater := by
  and_intros <;> first
    | rfl
    | (simp [State.raiseParked]; done)
    | (unfold State.raiseParked; (repeat' split) <;> simp; done)
    | (unfold State.raiseParked; simp only []; (repeat' split) <;> simp [*])

@[simp] theorem State.assertMismatch_frame (s : State) :
    (State.assertMismatch s).device = s.device ∧ (State.assertMismatch s).config = s.config ∧
    (State.assertMismatch s).ports = s.ports ∧ (State.assertMismatch s).pool = s.pool ∧
    (State.assertMismatch s).faults = s.faults ∧ (State.assertMismatch s).ladder = s.ladder ∧
    (State.assertMismatch s).lines = s.lines ∧ (State.assertMismatch s).publication = s.publication ∧
    (State.assertMismatch s).monitor = s.monitor ∧ (State.assertMismatch s).pending = s.pending ∧
    (State.assertMismatch s).intake.queues = s.intake.queues ∧
    (State.assertMismatch s).intake.slots = s.intake.slots := by
  and_intros <;> first
    | rfl
    | (simp [State.assertMismatch]; done)
    | (unfold State.assertMismatch; (repeat' split) <;> simp; done)
    | (unfold State.assertMismatch; simp only []; (repeat' split) <;> simp [*])

@[simp] theorem State.settleMismatch_frame (s : State) :
    (State.settleMismatch s).device = s.device ∧ (State.settleMismatch s).config = s.config ∧
    (State.settleMismatch s).ports = s.ports ∧ (State.settleMismatch s).pool = s.pool ∧
    (State.settleMismatch s).faults = s.faults ∧ (State.settleMismatch s).ladder = s.ladder ∧
    (State.settleMismatch s).lines = s.lines ∧ (State.settleMismatch s).publication = s.publication ∧
    (State.settleMismatch s).monitor = s.monitor ∧ (State.settleMismatch s).pending = s.pending ∧
    (State.settleMismatch s).intake.queues = s.intake.queues ∧
    (State.settleMismatch s).intake.slots = s.intake.slots := by
  and_intros <;> first
    | rfl
    | (simp [State.settleMismatch]; done)
    | (unfold State.settleMismatch; (repeat' split) <;> simp; done)
    | (unfold State.settleMismatch; simp only []; (repeat' split) <;> simp [*])

/-! ### READ -/

@[simp] theorem State.judgeRead_frame (p : Station) (target : Option ReadTarget) (s : State) :
    (State.judgeRead p target s).1.device = s.device ∧ (State.judgeRead p target s).1.config = s.config ∧
    (State.judgeRead p target s).1.intake = s.intake ∧ (State.judgeRead p target s).1.pool = s.pool ∧
    (State.judgeRead p target s).1.faults = s.faults ∧ (State.judgeRead p target s).1.ladder = s.ladder ∧
    (State.judgeRead p target s).1.lines = s.lines ∧ (State.judgeRead p target s).1.publication = s.publication ∧
    (State.judgeRead p target s).1.monitor = s.monitor ∧ (State.judgeRead p target s).1.motion = s.motion ∧
    (State.judgeRead p target s).1.pending = s.pending := by
  and_intros <;> first
    | (unfold State.judgeRead; simp; done)
    | (unfold State.judgeRead; (repeat' split) <;> simp; done)
    | (unfold State.judgeRead; simp only []; (repeat' split) <;> simp [*])

/-! ### CONFIG and COMMIT -/

@[simp] theorem State.judgeZone_frame (payload : List Byte) (s : State) :
    (State.judgeZone payload s).1.device = s.device ∧ (State.judgeZone payload s).1.ports = s.ports ∧
    (State.judgeZone payload s).1.intake = s.intake ∧ (State.judgeZone payload s).1.pool = s.pool ∧
    (State.judgeZone payload s).1.faults = s.faults ∧ (State.judgeZone payload s).1.ladder = s.ladder ∧
    (State.judgeZone payload s).1.lines = s.lines ∧ (State.judgeZone payload s).1.publication = s.publication ∧
    (State.judgeZone payload s).1.monitor = s.monitor ∧ (State.judgeZone payload s).1.motion = s.motion ∧
    (State.judgeZone payload s).1.pending = s.pending ∧
    (State.judgeZone payload s).1.config.classes = s.config.classes ∧
    (State.judgeZone payload s).1.config.levels = s.config.levels ∧
    (State.judgeZone payload s).1.config.timing = s.config.timing ∧
    (State.judgeZone payload s).1.config.scan = s.config.scan := by
  and_intros <;> first
    | rfl
    | (simp [State.judgeZone]; done)
    | (unfold State.judgeZone State.judgeRecord; (repeat' split) <;> simp; done)
    | (unfold State.judgeZone State.judgeRecord; simp only []; (repeat' split) <;> simp [*])

@[simp] theorem State.judgeClass_frame (payload : List Byte) (s : State) :
    (State.judgeClass payload s).1.device = s.device ∧ (State.judgeClass payload s).1.ports = s.ports ∧
    (State.judgeClass payload s).1.intake = s.intake ∧ (State.judgeClass payload s).1.pool = s.pool ∧
    (State.judgeClass payload s).1.faults = s.faults ∧ (State.judgeClass payload s).1.ladder = s.ladder ∧
    (State.judgeClass payload s).1.lines = s.lines ∧ (State.judgeClass payload s).1.publication = s.publication ∧
    (State.judgeClass payload s).1.monitor = s.monitor ∧ (State.judgeClass payload s).1.motion = s.motion ∧
    (State.judgeClass payload s).1.pending = s.pending ∧
    (State.judgeClass payload s).1.config.zones = s.config.zones ∧
    (State.judgeClass payload s).1.config.levels = s.config.levels ∧
    (State.judgeClass payload s).1.config.timing = s.config.timing ∧
    (State.judgeClass payload s).1.config.scan = s.config.scan := by
  and_intros <;> first
    | rfl
    | (simp [State.judgeClass]; done)
    | (unfold State.judgeClass State.judgeRecord; (repeat' split) <;> simp; done)
    | (unfold State.judgeClass State.judgeRecord; simp only []; (repeat' split) <;> simp [*])

@[simp] theorem State.judgeLevel_frame (payload : List Byte) (s : State) :
    (State.judgeLevel payload s).1.device = s.device ∧ (State.judgeLevel payload s).1.ports = s.ports ∧
    (State.judgeLevel payload s).1.intake = s.intake ∧ (State.judgeLevel payload s).1.pool = s.pool ∧
    (State.judgeLevel payload s).1.faults = s.faults ∧ (State.judgeLevel payload s).1.ladder = s.ladder ∧
    (State.judgeLevel payload s).1.lines = s.lines ∧ (State.judgeLevel payload s).1.publication = s.publication ∧
    (State.judgeLevel payload s).1.monitor = s.monitor ∧ (State.judgeLevel payload s).1.motion = s.motion ∧
    (State.judgeLevel payload s).1.pending = s.pending ∧
    (State.judgeLevel payload s).1.config.zones = s.config.zones ∧
    (State.judgeLevel payload s).1.config.classes = s.config.classes ∧
    (State.judgeLevel payload s).1.config.timing = s.config.timing ∧
    (State.judgeLevel payload s).1.config.scan = s.config.scan := by
  and_intros <;> first
    | (unfold State.judgeLevel State.judgeRecord State.writeLevel; simp; done)
    | (unfold State.judgeLevel State.judgeRecord State.writeLevel; (repeat' split) <;> simp; done)
    | (unfold State.judgeLevel State.judgeRecord State.writeLevel; simp only []; (repeat' split) <;> simp [*])

@[simp] theorem State.writeResponse_frame (s : State) (i : Nat) (r : Response) :
    (State.writeResponse s i r).device = s.device ∧ (State.writeResponse s i r).ports = s.ports ∧
    (State.writeResponse s i r).intake = s.intake ∧ (State.writeResponse s i r).pool = s.pool ∧
    (State.writeResponse s i r).faults = s.faults ∧ (State.writeResponse s i r).ladder = s.ladder ∧
    (State.writeResponse s i r).lines = s.lines ∧ (State.writeResponse s i r).publication = s.publication ∧
    (State.writeResponse s i r).monitor = s.monitor ∧ (State.writeResponse s i r).motion = s.motion ∧
    (State.writeResponse s i r).pending = s.pending ∧ (State.writeResponse s i r).config.zones = s.config.zones ∧
    (State.writeResponse s i r).config.levels = s.config.levels ∧
    (State.writeResponse s i r).config.timing = s.config.timing ∧
    (State.writeResponse s i r).config.scan = s.config.scan := by
  and_intros <;> first
    | rfl
    | (simp [State.writeResponse]; done)
    | (unfold State.writeResponse; (repeat' split) <;> simp; done)
    | (unfold State.writeResponse; simp only []; (repeat' split) <;> simp [*])

@[simp] theorem State.judgeResponse_frame (payload : List Byte) (s : State) :
    (State.judgeResponse payload s).1.device = s.device ∧ (State.judgeResponse payload s).1.ports = s.ports ∧
    (State.judgeResponse payload s).1.intake = s.intake ∧ (State.judgeResponse payload s).1.pool = s.pool ∧
    (State.judgeResponse payload s).1.faults = s.faults ∧ (State.judgeResponse payload s).1.ladder = s.ladder ∧
    (State.judgeResponse payload s).1.lines = s.lines ∧
    (State.judgeResponse payload s).1.publication = s.publication ∧
    (State.judgeResponse payload s).1.monitor = s.monitor ∧ (State.judgeResponse payload s).1.motion = s.motion ∧
    (State.judgeResponse payload s).1.pending = s.pending ∧
    (State.judgeResponse payload s).1.config.zones = s.config.zones ∧
    (State.judgeResponse payload s).1.config.levels = s.config.levels ∧
    (State.judgeResponse payload s).1.config.timing = s.config.timing ∧
    (State.judgeResponse payload s).1.config.scan = s.config.scan := by
  and_intros <;> first
    | rfl
    | (simp [State.judgeResponse]; done)
    | (unfold State.judgeResponse State.judgeRecord; (repeat' split) <;> simp; done)
    | (unfold State.judgeResponse State.judgeRecord; simp only []; (repeat' split) <;> simp [*])

@[simp] theorem State.writeScanAt_frame (s : State) (i : Nat) (r : ScanRec) :
    (State.writeScanAt s i r).device = s.device ∧ (State.writeScanAt s i r).ports = s.ports ∧
    (State.writeScanAt s i r).pool = s.pool ∧ (State.writeScanAt s i r).faults = s.faults ∧
    (State.writeScanAt s i r).ladder = s.ladder ∧ (State.writeScanAt s i r).lines = s.lines ∧
    (State.writeScanAt s i r).publication = s.publication ∧ (State.writeScanAt s i r).motion = s.motion ∧
    (State.writeScanAt s i r).pending = s.pending ∧ (State.writeScanAt s i r).config.zones = s.config.zones ∧
    (State.writeScanAt s i r).config.classes = s.config.classes ∧
    (State.writeScanAt s i r).config.levels = s.config.levels ∧
    (State.writeScanAt s i r).config.timing = s.config.timing ∧
    (State.writeScanAt s i r).intake.queues = s.intake.queues ∧
    (State.writeScanAt s i r).intake.slots = s.intake.slots ∧
    (State.writeScanAt s i r).monitor.comparator = s.monitor.comparator := by
  and_intros <;> first
    | rfl
    | (simp [State.writeScanAt]; done)
    | (unfold State.writeScanAt; (repeat' split) <;> simp; done)
    | (unfold State.writeScanAt; simp only []; (repeat' split) <;> simp [*])

@[simp] theorem State.judgeScan_frame (payload : List Byte) (s : State) :
    (State.judgeScan payload s).1.device = s.device ∧ (State.judgeScan payload s).1.ports = s.ports ∧
    (State.judgeScan payload s).1.pool = s.pool ∧ (State.judgeScan payload s).1.faults = s.faults ∧
    (State.judgeScan payload s).1.ladder = s.ladder ∧ (State.judgeScan payload s).1.lines = s.lines ∧
    (State.judgeScan payload s).1.publication = s.publication ∧ (State.judgeScan payload s).1.motion = s.motion ∧
    (State.judgeScan payload s).1.pending = s.pending ∧
    (State.judgeScan payload s).1.config.zones = s.config.zones ∧
    (State.judgeScan payload s).1.config.classes = s.config.classes ∧
    (State.judgeScan payload s).1.config.levels = s.config.levels ∧
    (State.judgeScan payload s).1.config.timing = s.config.timing ∧
    (State.judgeScan payload s).1.intake.queues = s.intake.queues ∧
    (State.judgeScan payload s).1.intake.slots = s.intake.slots ∧
    (State.judgeScan payload s).1.monitor.comparator = s.monitor.comparator := by
  and_intros <;> first
    | rfl
    | (simp [State.judgeScan]; done)
    | (unfold State.judgeScan State.judgeRecord; (repeat' split) <;> simp; done)
    | (unfold State.judgeScan State.judgeRecord; simp only []; (repeat' split) <;> simp [*])

@[simp] theorem State.judgeChannels_frame (payload : List Byte) (s : State) :
    (State.judgeChannels payload s).1.device = s.device ∧ (State.judgeChannels payload s).1.ports = s.ports ∧
    (State.judgeChannels payload s).1.pool = s.pool ∧ (State.judgeChannels payload s).1.faults = s.faults ∧
    (State.judgeChannels payload s).1.ladder = s.ladder ∧ (State.judgeChannels payload s).1.lines = s.lines ∧
    (State.judgeChannels payload s).1.publication = s.publication ∧
    (State.judgeChannels payload s).1.motion = s.motion ∧ (State.judgeChannels payload s).1.pending = s.pending ∧
    (State.judgeChannels payload s).1.config.zones = s.config.zones ∧
    (State.judgeChannels payload s).1.config.classes = s.config.classes ∧
    (State.judgeChannels payload s).1.config.levels = s.config.levels ∧
    (State.judgeChannels payload s).1.config.timing = s.config.timing ∧
    (State.judgeChannels payload s).1.config.scan = s.config.scan ∧
    (State.judgeChannels payload s).1.intake.queues = s.intake.queues ∧
    (State.judgeChannels payload s).1.intake.slots = s.intake.slots ∧
    (State.judgeChannels payload s).1.monitor.comparator = s.monitor.comparator := by
  and_intros <;> first
    | (unfold State.judgeChannels State.judgeRecord; simp; done)
    | (unfold State.judgeChannels State.judgeRecord; (repeat' split) <;> simp; done)
    | (unfold State.judgeChannels State.judgeRecord; simp only []; (repeat' split) <;> simp [*])

@[simp] theorem State.judgeComparator_frame (payload : List Byte) (dcLink : Nat) (s : State) :
    (State.judgeComparator payload dcLink s).1.device = s.device ∧
    (State.judgeComparator payload dcLink s).1.ports = s.ports ∧
    (State.judgeComparator payload dcLink s).1.pool = s.pool ∧
    (State.judgeComparator payload dcLink s).1.faults = s.faults ∧
    (State.judgeComparator payload dcLink s).1.ladder = s.ladder ∧
    (State.judgeComparator payload dcLink s).1.lines = s.lines ∧
    (State.judgeComparator payload dcLink s).1.publication = s.publication ∧
    (State.judgeComparator payload dcLink s).1.motion = s.motion ∧
    (State.judgeComparator payload dcLink s).1.pending = s.pending ∧
    (State.judgeComparator payload dcLink s).1.config.zones = s.config.zones ∧
    (State.judgeComparator payload dcLink s).1.config.classes = s.config.classes ∧
    (State.judgeComparator payload dcLink s).1.config.levels = s.config.levels ∧
    (State.judgeComparator payload dcLink s).1.config.timing = s.config.timing ∧
    (State.judgeComparator payload dcLink s).1.config.scan = s.config.scan ∧
    (State.judgeComparator payload dcLink s).1.intake.queues = s.intake.queues ∧
    (State.judgeComparator payload dcLink s).1.intake.slots = s.intake.slots ∧
    (State.judgeComparator payload dcLink s).1.monitor.filters = s.monitor.filters := by
  and_intros <;> first
    | rfl
    | (simp [State.judgeComparator]; done)
    | (unfold State.judgeComparator State.judgeRecord; (repeat' split) <;> simp; done)
    | (unfold State.judgeComparator State.judgeRecord; simp only []; (repeat' split) <;> simp [*])

@[simp] theorem State.judgeTiming_frame (payload : List Byte) (s : State) :
    (State.judgeTiming payload s).1.device = s.device ∧ (State.judgeTiming payload s).1.ports = s.ports ∧
    (State.judgeTiming payload s).1.intake = s.intake ∧ (State.judgeTiming payload s).1.pool = s.pool ∧
    (State.judgeTiming payload s).1.faults = s.faults ∧ (State.judgeTiming payload s).1.ladder = s.ladder ∧
    (State.judgeTiming payload s).1.lines = s.lines ∧ (State.judgeTiming payload s).1.publication = s.publication ∧
    (State.judgeTiming payload s).1.motion = s.motion ∧ (State.judgeTiming payload s).1.pending = s.pending ∧
    (State.judgeTiming payload s).1.config.zones = s.config.zones ∧
    (State.judgeTiming payload s).1.config.classes = s.config.classes ∧
    (State.judgeTiming payload s).1.config.levels = s.config.levels ∧
    (State.judgeTiming payload s).1.config.scan = s.config.scan ∧
    (State.judgeTiming payload s).1.monitor.comparator = s.monitor.comparator ∧
    (State.judgeTiming payload s).1.monitor.filters = s.monitor.filters := by
  and_intros <;> first
    | rfl
    | (simp [State.judgeTiming]; done)
    | (unfold State.judgeTiming State.judgeRecord; (repeat' split) <;> simp; done)
    | (unfold State.judgeTiming State.judgeRecord; simp only []; (repeat' split) <;> simp [*])

@[simp] theorem State.judgeWeight_frame (payload : List Byte) (s : State) :
    (State.judgeWeight payload s).1.device = s.device ∧ (State.judgeWeight payload s).1.ports = s.ports ∧
    (State.judgeWeight payload s).1.intake = s.intake ∧ (State.judgeWeight payload s).1.pool = s.pool ∧
    (State.judgeWeight payload s).1.faults = s.faults ∧ (State.judgeWeight payload s).1.ladder = s.ladder ∧
    (State.judgeWeight payload s).1.lines = s.lines ∧ (State.judgeWeight payload s).1.publication = s.publication ∧
    (State.judgeWeight payload s).1.monitor = s.monitor ∧ (State.judgeWeight payload s).1.motion = s.motion ∧
    (State.judgeWeight payload s).1.pending = s.pending ∧
    (State.judgeWeight payload s).1.config.zones = s.config.zones ∧
    (State.judgeWeight payload s).1.config.classes = s.config.classes ∧
    (State.judgeWeight payload s).1.config.levels = s.config.levels ∧
    (State.judgeWeight payload s).1.config.timing = s.config.timing ∧
    (State.judgeWeight payload s).1.config.scan = s.config.scan := by
  and_intros <;> first
    | rfl
    | (simp [State.judgeWeight]; done)
    | (unfold State.judgeWeight State.judgeRecord; (repeat' split) <;> simp; done)
    | (unfold State.judgeWeight State.judgeRecord; simp only []; (repeat' split) <;> simp [*])

@[simp] theorem State.judgeConsistency_frame (s : State) :
    (State.judgeConsistency s).1.config = s.config ∧ (State.judgeConsistency s).1.pool = s.pool ∧
    (State.judgeConsistency s).1.monitor = s.monitor ∧ (State.judgeConsistency s).1.motion = s.motion ∧
    (State.judgeConsistency s).1.pending = s.pending ∧
    (State.judgeConsistency s).1.device.topology = s.device.topology ∧
    (State.judgeConsistency s).1.device.clock = s.device.clock ∧
    (State.judgeConsistency s).1.intake.queues = s.intake.queues ∧
    (State.judgeConsistency s).1.intake.slots = s.intake.slots ∧
    (State.judgeConsistency s).1.faults.parked = s.faults.parked ∧
    (State.judgeConsistency s).1.faults.overflow = s.faults.overflow ∧
    (State.judgeConsistency s).1.faults.applying = s.faults.applying ∧
    (State.judgeConsistency s).1.faults.highWater = s.faults.highWater ∧
    (State.judgeConsistency s).1.ladder.parked = s.ladder.parked := by
  and_intros <;> first
    | (unfold State.judgeConsistency; simp; done)
    | (unfold State.judgeConsistency; (repeat' split) <;> simp; done)
    | (unfold State.judgeConsistency; simp only []; (repeat' split) <;> simp [*])

@[simp] theorem State.judgeCommit_frame (p : Station) (payload : List Byte) (s : State) :
    (State.judgeCommit p payload s).1.config = s.config ∧ (State.judgeCommit p payload s).1.pool = s.pool ∧
    (State.judgeCommit p payload s).1.monitor = s.monitor ∧ (State.judgeCommit p payload s).1.motion = s.motion ∧
    (State.judgeCommit p payload s).1.pending = s.pending ∧
    (State.judgeCommit p payload s).1.device.topology = s.device.topology ∧
    (State.judgeCommit p payload s).1.device.clock = s.device.clock ∧
    (State.judgeCommit p payload s).1.intake.queues = s.intake.queues ∧
    (State.judgeCommit p payload s).1.intake.slots = s.intake.slots ∧
    (State.judgeCommit p payload s).1.faults.parked = s.faults.parked ∧
    (State.judgeCommit p payload s).1.faults.overflow = s.faults.overflow ∧
    (State.judgeCommit p payload s).1.faults.applying = s.faults.applying ∧
    (State.judgeCommit p payload s).1.faults.highWater = s.faults.highWater ∧
    (State.judgeCommit p payload s).1.ladder.parked = s.ladder.parked := by
  and_intros <;> first
    | (unfold State.judgeCommit; simp; done)
    | (unfold State.judgeCommit; (repeat' split) <;> simp; done)
    | (unfold State.judgeCommit; simp only []; (repeat' split) <;> simp [*])

/-! ### Time -/

@[simp] theorem State.pass_frame (s : State) :
    (State.pass s).config = s.config ∧ (State.pass s).pool = s.pool ∧ (State.pass s).lines = s.lines ∧
    (State.pass s).pending = s.pending ∧ (State.pass s).device.topology = s.device.topology ∧
    (State.pass s).device.state = s.device.state ∧ (State.pass s).intake.queues = s.intake.queues ∧
    (State.pass s).intake.conds = s.intake.conds ∧ (State.pass s).faults.parked = s.faults.parked ∧
    (State.pass s).faults.overflow = s.faults.overflow ∧ (State.pass s).faults.applying = s.faults.applying ∧
    (State.pass s).faults.highWater = s.faults.highWater ∧ (State.pass s).ladder.parked = s.ladder.parked ∧
    (State.pass s).ladder.published = s.ladder.published ∧ (State.pass s).ladder.adopted = s.ladder.adopted ∧
    (State.pass s).publication.counter = s.publication.counter ∧
    (State.pass s).monitor.comparator = s.monitor.comparator ∧
    (State.pass s).monitor.filters = s.monitor.filters := by
  and_intros <;> first
    | rfl
    | (simp [State.pass]; done)
    | (unfold State.pass; (repeat' split) <;> simp; done)
    | (unfold State.pass; simp only []; (repeat' split) <;> simp [*])

@[simp] theorem State.tick_frame (s : State) :
    (State.tick s).config = s.config ∧ (State.tick s).pool = s.pool ∧ (State.tick s).lines = s.lines ∧
    (State.tick s).pending = s.pending ∧ (State.tick s).device.topology = s.device.topology ∧
    (State.tick s).device.state = s.device.state ∧ (State.tick s).intake.queues = s.intake.queues ∧
    (State.tick s).intake.conds = s.intake.conds ∧ (State.tick s).faults.parked = s.faults.parked ∧
    (State.tick s).faults.overflow = s.faults.overflow ∧ (State.tick s).faults.applying = s.faults.applying ∧
    (State.tick s).faults.highWater = s.faults.highWater ∧ (State.tick s).ladder.parked = s.ladder.parked ∧
    (State.tick s).ladder.published = s.ladder.published ∧ (State.tick s).ladder.adopted = s.ladder.adopted ∧
    (State.tick s).publication.counter = s.publication.counter ∧
    (State.tick s).monitor.comparator = s.monitor.comparator ∧
    (State.tick s).monitor.filters = s.monitor.filters := by
  and_intros <;> first
    | rfl
    | (simp [State.tick]; done)
    | (unfold State.tick; (repeat' split) <;> simp; done)
    | (unfold State.tick; simp only []; (repeat' split) <;> simp [*])

end Sys2Proof.Machine
end

