-- ==== Sys2Proof/Laws/Effects.lean ====
section
/-!
SUPPORT. What the shared operations do: frames taken in a turn, condition records, publications, the Ladder's and Motion's
effect on the ports, and the end of a turn.
-/
namespace Sys2Proof

theorem PerStation.put_put {α : Type} (t : PerStation α) (p : Station) (x y : α) : (t.put p x).put p y = t.put p y := by
  cases p <;> rfl

theorem PerSource.put_put {α : Type} (t : PerSource α) (q : Source) (x y : α) : (t.put q x).put q y = t.put q y := by
  cases q <;> rfl

namespace Machine

/-! ### Ports -/

theorem State.modPort_modPort (s : State) (p : Station) (f g : Port → Port) :
    (s.modPort p f).modPort p g = s.modPort p fun o => g (f o) := by
  simp [State.modPort, State.setPort, State.port, PerStation.put_put]

theorem State.port_modPort_eq (s : State) (p q : Station) (f : Port → Port) :
    (s.modPort p f).port q = if q = p then f (s.port q) else s.port q := by
  by_cases h : q = p
  · subst h; simp
  · simp [h, State.port_modPort_ne _ _ h]

/-! ### Frames in a turn -/

@[simp] theorem State.counted_frame (s : State) (p : Station) :
    (s.counted p).device = s.device ∧ (s.counted p).config = s.config ∧ (s.counted p).intake = s.intake ∧
      (s.counted p).pool = s.pool ∧ (s.counted p).faults = s.faults ∧ (s.counted p).ladder = s.ladder ∧
      (s.counted p).lines = s.lines ∧ (s.counted p).publication = s.publication ∧
      (s.counted p).monitor = s.monitor ∧ (s.counted p).motion = s.motion ∧ (s.counted p).pending = s.pending :=
  ⟨rfl, rfl, rfl, rfl, rfl, rfl, rfl, rfl, rfl, rfl, rfl⟩

@[simp] theorem State.counted_read (s : State) (p : Station) :
    (∀ q, (s.counted p).queue q = s.queue q) ∧ (∀ q, (s.counted p).slot q = s.slot q) ∧
      (∀ e, (s.counted p).entry e = s.entry e) ∧ (∀ b, (s.counted p).buffer b = s.buffer b) ∧
      (∀ k, (s.counted p).cond k = s.cond k) ∧ (∀ q, (s.counted p).adoption q = s.adoption q) ∧
      (s.counted p).running = s.running ∧ (∀ c, (s.counted p).classOf c = s.classOf c) ∧
      (∀ z, (s.counted p).zoneOf z = s.zoneOf z) :=
  ⟨fun _ => rfl, fun _ => rfl, fun _ => rfl, fun _ => rfl, fun _ => rfl, fun _ => rfl, rfl, fun _ => rfl, fun _ => rfl⟩

@[simp] theorem State.counted_port (s : State) (p : Station) :
    (s.counted p).port p = { s.port p with frames := (s.port p).frames + 1 } := by
  simp [State.counted]

theorem State.counted_addVerdict (s : State) (p : Station) (v : Verdict) :
    (s.counted p).addVerdict p v = s.answered p v := by
  simp [State.counted, State.addVerdict, State.answered, State.modPort_modPort]

/-- A frame without TURN that a port takes is handed to its block. -/
theorem State.takeFrame_takes {s : State} {p : Station} {hand : State → State} (h : s.takes p) :
    s.takeFrame p false hand = hand (s.counted p) := by
  obtain ⟨a, b, c⟩ := h
  simp [State.takeFrame, State.inTurn, a, b, State.takeInTurn, turnFrameMax, c, State.counted]

/-- A receipted frame without TURN that a port takes is answered by its block. -/
theorem State.receipted_takes {s : State} {p : Station} {judge : State → State × Verdict} (h : s.takes p) :
    s.takeFrame p false (State.receipted p judge) =
      (judge (s.counted p)).1.addVerdict p (judge (s.counted p)).2 := by
  rw [State.takeFrame_takes h]
  rfl

/-! ### Condition records -/

theorem State.cond_setCond (k : Fin 24) (a : Bool) (d : Option Detail) (s : State) :
    (s.setCond k a d).cond k =
      if (s.cond k).asserted = a then s.cond k
      else ⟨a, match d with | some _ => d | none => (s.cond k).detail, !(s.cond k).unsent⟩ := by
  unfold State.setCond
  split
  · rfl
  · simp only [State.cond]
    exact getElem_putAt_same _ _ _

theorem State.cond_setCond_ne (a : Bool) (d : Option Detail) (s : State) {j k : Fin 24} (h : j ≠ k) :
    (s.setCond k a d).cond j = s.cond j := by
  unfold State.setCond
  split
  · rfl
  · simp only [State.cond]
    exact getElem_putAt_ne _ _ h

@[simp] theorem State.asserted_setCond (k : Fin 24) (a : Bool) (d : Option Detail) (s : State) :
    ((s.setCond k a d).cond k).asserted = a := by
  rw [State.cond_setCond]
  split
  · assumption
  · rfl

/-! ### Publication -/

/-- What a publication does: the envelope and its number, the adoption set, the records and the ports. -/
theorem State.publish_spec (l : Limits) (cause : Option (Fin 48)) (s : State) :
    let t := s.publish l cause
    let e := s.formEnvelope (State.nextGeneration s.publication.counter) l cause
    t.ladder.published = e ∧ t.publication.counter = State.nextGeneration s.publication.counter ∧
      (∀ p, t.publication.members.get p = s.addressed p) ∧
      (t.publication.complete = true ↔ ∀ p, s.addressed p = false) ∧
      (∀ p, t.port p = State.publishPort e (s.addressed p) (s.port p)) ∧
      (∀ p, t.adoption p =
        State.publishRecord (!(s.publication.counter < generationMax)) (s.addressed p) (s.adoption p)) ∧
      t.ladder.target = s.ladder.target ∧ t.ladder.relax = s.ladder.relax ∧ t.ladder.hold = s.ladder.hold ∧
      t.ladder.parked = s.ladder.parked ∧
      t.ladder.adopted = (if t.publication.complete then e else s.ladder.adopted) ∧
      t.ladder.inForce = State.inForceOf e t.ladder.adopted ∧
      t.lines = linesOf s.device.state t.ladder.inForce.limits := by
  unfold State.publish
  simp only []
  split
  · rename_i h
    refine ⟨rfl, rfl, fun p => ?_, ?_, fun p => ?_, fun p => ?_, rfl, rfl, rfl, rfl, ?_, rfl, rfl⟩
    · cases p <;> rfl
    · simp [State.completeAdoption, State.refreshInForce, State.driveLines, PerStation.any, PerStation.tabulate] at h ⊢
      constructor
      · rintro ⟨⟨⟨h1, h2⟩, h3⟩, h4⟩ p
        cases p <;> assumption
      · intro h
        exact ⟨⟨⟨h _, h _⟩, h _⟩, h _⟩
    · cases p <;> rfl
    · cases p <;> rfl
    · exact (if_pos h).symm
  · rename_i h
    refine ⟨rfl, rfl, fun p => ?_, ?_, fun p => ?_, fun p => ?_, rfl, rfl, rfl, rfl, ?_, rfl, rfl⟩
    · cases p <;> rfl
    · simp [State.refreshInForce, State.driveLines, PerStation.any, PerStation.tabulate] at h ⊢
      constructor
      · rintro ⟨⟨⟨h1, h2⟩, h3⟩, h4⟩ p
        cases p <;> assumption
      · intro h
        exact ⟨⟨⟨h _, h _⟩, h _⟩, h _⟩
    · cases p <;> rfl
    · cases p <;> rfl
    · exact (if_neg h).symm

/-! ### What the Ladder and Motion can do to a port -/

/-- A port after whatever publications: at most a new ENVELOPE waits on a port in the exchange, with grant due. -/
def Port.Reached (o o' : Port) : Prop :=
  o' = { o with envelope := o'.envelope, grantDue := o'.grantDue } ∧ (o.grantDue = true → o'.grantDue = true) ∧
    (o.envelope.isSome = true → o'.envelope.isSome = true) ∧ (o.inExchange = false → o' = o)

theorem Port.Reached.refl (o : Port) : o.Reached o := ⟨rfl, id, id, fun _ => rfl⟩

theorem Port.Reached.trans {a b c : Port} (h : a.Reached b) (g : b.Reached c) : a.Reached c := by
  obtain ⟨h1, h2, h3, h4⟩ := h
  obtain ⟨g1, g2, g3, g4⟩ := g
  refine ⟨?_, g2 ∘ h2, g3 ∘ h3, fun h => ?_⟩
  · rw [g1, h1]
  · have hb := h4 h
    rw [g4 (by rw [hb]; exact h), hb]

/-- Everything but the ENVELOPE and grant due. -/
theorem Port.Reached.fields {o o' : Port} (h : o.Reached o') :
    o'.state = o.state ∧ o'.silent = o.silent ∧ o'.contentions = o.contentions ∧ o'.discards = o.discards ∧
      o'.maxFrame = o.maxFrame ∧ o'.reqPin = o.reqPin ∧ o'.reqSample = o.reqSample ∧ o'.heartbeat = o.heartbeat ∧
      o'.turnWindow = o.turnWindow ∧ o'.recoverQuiet = o.recoverQuiet ∧ o'.syncTimer = o.syncTimer ∧
      o'.syncTurn = o.syncTurn ∧ o'.turnExpired = o.turnExpired ∧ o'.frames = o.frames ∧ o'.verdicts = o.verdicts ∧
      o'.gotStatus = o.gotStatus ∧ o'.receipts = o.receipts ∧ o'.replies = o.replies ∧ o'.notice = o.notice ∧
      o'.sending = o.sending ∧ o'.status = o.status := by
  obtain ⟨h1, -⟩ := h
  rw [h1]
  simp

/-- Every port of `t` is reached from that of `s`. -/
def State.PortsReached (s t : State) : Prop := ∀ p, (s.port p).Reached (t.port p)

theorem State.PortsReached.refl (s : State) : s.PortsReached s := fun _ => Port.Reached.refl _

theorem State.PortsReached.of_ports {s t : State} (h : t.ports = s.ports) : s.PortsReached t := by
  intro p
  rw [State.port_congr h]
  exact Port.Reached.refl _

theorem State.PortsReached.trans {s t u : State} (h : s.PortsReached t) (g : t.PortsReached u) : s.PortsReached u :=
  fun p => (h p).trans (g p)

theorem State.publish_reaches (l : Limits) (cause : Option (Fin 48)) (s : State) : s.PortsReached (s.publish l cause) := by
  intro p
  obtain ⟨-, -, -, -, hp, -⟩ := State.publish_spec l cause s
  rw [hp]
  unfold State.publishPort
  split
  · rename_i h
    refine ⟨rfl, fun _ => rfl, fun _ => rfl, fun h0 => ?_⟩
    simp [State.addressed, h0] at h
  · exact Port.Reached.refl _

theorem State.setRelax_reaches (moved : Bool) {s t : State} (h : s.PortsReached t) : s.PortsReached (t.setRelax moved) :=
  h.trans (.of_ports (by simp))

theorem State.tighten_reaches (s : State) : s.PortsReached s.tighten :=
  State.setRelax_reaches _ (State.publish_reaches _ _ _)

theorem State.reform_reaches (s : State) : s.PortsReached s.reform := by
  unfold State.reform
  simp only []
  split
  · refine State.PortsReached.trans ?_ (State.tighten_reaches _)
    intro p
    exact Port.Reached.refl _
  · exact .of_ports (by simp)

theorem State.tryStep_reaches (s : State) : s.PortsReached s.tryStep := by
  unfold State.tryStep
  simp only []
  split
  · exact State.setRelax_reaches _ (State.publish_reaches _ _ _)
  · exact .refl _

theorem State.reportParked_reaches (b : Bool) (s : State) : s.PortsReached (s.reportParked b) := by
  unfold State.reportParked
  simp only []
  split
  · split
    · exact (State.PortsReached.trans (.of_ports (by simp)) (State.reform_reaches _)).trans (State.tryStep_reaches _)
    · exact State.PortsReached.trans (.of_ports (by simp)) (State.reform_reaches _)
  · exact .of_ports (by simp)

theorem State.moveMotion_reaches (m : Motion) (s : State) : s.PortsReached (s.moveMotion m) := by
  unfold State.moveMotion
  simp only []
  split
  · exact .of_ports (by simp)
  · exact State.PortsReached.trans (.of_ports (by simp)) (State.reportParked_reaches _ _)

theorem State.motionPort_reaches (p : Station) (s : State) : s.PortsReached (s.motionPort p) := by
  unfold State.motionPort
  split
  · exact State.moveMotion_reaches _ _
  · exact .refl _

/-- What the end of a turn leaves in its own port, but for an ENVELOPE that Motion's report may place. -/
theorem State.endTurn_port (how : TurnEnd) (p : Station) (s : State) :
    let o := s.port p
    let o1 := if o.receiptDue then o.addReceipt (s.receiptOf p) else o
    ((o1.closeTurn how s.config.timing.heartbeat).afterTurn how).Reached ((s.endTurn how p).port p) := by
  have h := State.motionPort_reaches p
    ((s.setPort p (((if (s.port p).receiptDue then (s.port p).addReceipt (s.receiptOf p) else s.port p).closeTurn how
      s.config.timing.heartbeat).afterTurn how)).motionSilence p ((s.port p).silentTurn how)) p
  have e : ∀ x b, (State.motionSilence p b (s.setPort p x)).port p = x := fun x b => by
    rw [State.port_congr (s := s.setPort p x) (by simp)]
    simp
  rw [e] at h
  exact h

/-! ### Motion -/

theorem State.reportParked_motion (b : Bool) (s : State) : (s.reportParked b).motion = s.motion := by
  simp

/-- Motion after a change of speeds or liveness. -/
theorem State.moveMotion_motion (m : Motion) (s : State) :
    (s.moveMotion m).motion = Motion.settleFrom s.device.topology s.config.timing s.motion m := by
  unfold State.moveMotion
  simp only []
  split <;> simp

/-- Motion sets no condition but the two mismatch ones, when speeds or liveness change. -/
theorem State.releaseMismatch_cond (old : Motion) (s : State) {k : Fin 24} (h : k ≠ 9) (h' : k ≠ 10) :
    (s.releaseMismatch old).cond k = s.cond k := by
  unfold State.releaseMismatch
  split
  · split
    · rename_i a _ _
      exact State.cond_setCond_ne _ _ _ (by cases a <;> assumption)
    · rfl
  · rfl

theorem State.moveMotion_cond (m : Motion) (s : State) {k : Fin 24} (h : k ≠ 9) (h' : k ≠ 10) :
    (s.moveMotion m).cond k = s.cond k := by
  have key : ∀ t : State, t.intake = s.intake → (t.releaseMismatch s.motion).cond k = s.cond k := fun t ht => by
    rw [State.releaseMismatch_cond _ _ h h', State.cond_congr ht]
  unfold State.moveMotion
  simp only []
  split
  · exact key _ rfl
  · rw [State.cond_congr (State.reportParked_frame _ _).2.2.1]
    exact key _ rfl

theorem State.motionPort_cond (p : Station) (s : State) {k : Fin 24} (h : k ≠ 9) (h' : k ≠ 10) :
    (s.motionPort p).cond k = s.cond k := by
  unfold State.motionPort
  split
  · exact State.moveMotion_cond _ _ h h'
  · rfl

/-- Motion's detector and its PARKED state leave speeds and liveness alone. -/
@[simp] theorem Motion.settleFrom_speeds (t : Topology) (k : Timing) (old m : Motion) :
    (Motion.settleFrom t k old m).speedFront = m.speedFront ∧ (Motion.settleFrom t k old m).speedRear = m.speedRear ∧
      (Motion.settleFrom t k old m).liveFront = m.liveFront ∧ (Motion.settleFrom t k old m).liveRear = m.liveRear := by
  unfold Motion.settleFrom Motion.detect Motion.settleParked Motion.quiet
  simp only []
  and_intros <;> (repeat' split) <;> rfl

end Machine

end Sys2Proof
end

