-- ==== Sys2Proof/Laws/Pool.lean ====
section
/-!
SUPPORT. The form of the snapshot pool: no buffer holds more than its 240 bytes and a FREE one holds none (R42, R43). Every
operation over the pool keeps it; and what freeing a buffer leaves (R43, R48).
-/
namespace Sys2Proof.Machine

/-- A buffer holds at most 240 bytes, and none while it is FREE. -/
abbrev Buffer.wf (x : Buffer) : Prop :=
  x.data.length ≤ 240 ∧ (x.owner = .free → x.data = [] ∧ x.writer = none)

/-- The form of the whole pool. -/
abbrev Pool.wf (s : State) : Prop :=
  ∀ b, (s.buffer b).wf

theorem Pool.wf_of_pool_eq {s t : State} (h : t.pool = s.pool) (w : Pool.wf s) : Pool.wf t := by
  intro b
  have e : t.buffer b = s.buffer b := by simp [State.buffer, h]
  rw [e]
  exact w b

theorem Pool.wf_reset : Pool.wf State.reset := by decide

theorem Pool.wf_setBuffer {s : State} (w : Pool.wf s) (b : Fin 8) {x : Buffer} (h : x.wf) : Pool.wf (s.setBuffer b x) := by
  intro c
  by_cases e : c = b
  · subst e
    simpa using h
  · have : (s.setBuffer b x).buffer c = s.buffer c := by
      simp only [State.buffer, State.setBuffer]
      exact getElem_putAt_ne _ _ e
    rw [this]
    exact w c

theorem State.detach_pool (b : Fin 8) (p : Station) (s : State) : (s.detach b p).pool = s.pool := by
  unfold State.detach
  split
  · split <;> rfl
  · rfl

theorem Pool.wf_freeBuffer {s : State} (w : Pool.wf s) (b : Fin 8) : Pool.wf (s.freeBuffer b) := by
  unfold State.freeBuffer
  refine Pool.wf_setBuffer ?_ b (by decide)
  split
  · exact Pool.wf_of_pool_eq (State.detach_pool ..) w
  · exact w

theorem State.dropOwner_pool (b : Fin 8) (s : State) : (s.dropOwner b).pool = s.pool := by
  unfold State.dropOwner
  split <;> rfl

theorem Pool.wf_truncate {s : State} (w : Pool.wf s) (p : Station) : Pool.wf (s.truncate p) := by
  unfold State.truncate
  split
  · exact w
  · split
    · exact w
    · exact Pool.wf_freeBuffer (Pool.wf_of_pool_eq (State.dropOwner_pool ..) w) _

theorem Pool.wf_lend {s : State} (w : Pool.wf s) (b : Fin 8) (p : Station) (n : Nat) : Pool.wf (s.lend b p n) :=
  Pool.wf_setBuffer w b ⟨by simp, by simp⟩

theorem Pool.wf_writeData {s : State} (w : Pool.wf s) (b : Fin 8) (d : List Byte)
    (owned : (s.buffer b).owner ≠ .free) (fits : (s.buffer b).data.length + d.length ≤ 240) :
    Pool.wf (s.writeData b d) :=
  Pool.wf_setBuffer w b ⟨by simpa using fits, fun h => absurd h owned⟩

theorem Pool.wf_completeAssembly {s : State} (w : Pool.wf s) (b : Fin 8) (p : Station) :
    Pool.wf (s.completeAssembly b p) :=
  Pool.wf_setBuffer w b ⟨(w b).1, fun h => ⟨((w b).2 h).1, rfl⟩⟩

theorem Pool.wf_bindBuffer {s : State} (w : Pool.wf s) (b : Fin 8) (e : Fin 48) : Pool.wf (s.bindBuffer b e) :=
  Pool.wf_setBuffer w b ⟨(w b).1, fun h => BufferOwner.noConfusion h⟩

/-- Detaching a buffer from the assembly that writes into it changes that long slot alone (R43, R48). -/
theorem State.detach_spec (b : Fin 8) (p : Station) (s : State) :
    (∀ a, (s.slot p).assembly = some a → a.buffer = some b →
      (s.detach b p).slot p = ⟨some { a with buffer := none }, (s.slot p).outcome⟩) ∧
    (∀ q, q ≠ p → (s.detach b p).slot q = s.slot q) ∧
    (s.detach b p).intake = { s.intake with slots := (s.detach b p).intake.slots } := by
  unfold State.detach
  split
  case h_1 a h =>
    split
    case isTrue e =>
      refine ⟨fun x hx _ => ?_, fun q hq => State.slot_setSlot_ne s _ hq, rfl⟩
      rw [h] at hx
      cases hx
      exact State.slot_setSlot ..
    case isFalse e =>
      refine ⟨fun x hx hb => ?_, fun _ _ => rfl, rfl⟩
      rw [h] at hx
      cases hx
      exact absurd hb e
  case h_2 h => exact ⟨fun x hx _ => absurd (h.symm.trans hx) (by simp), fun _ _ => rfl, rfl⟩

/-- Freeing a buffer, in one record (R43, R48). -/
theorem State.freeBuffer_freed (b : Fin 8) (s : State) : BuffersFreed (fun c => c = b) s (s.freeBuffer b) := by
  have pool : ∀ c, c ≠ b → (s.freeBuffer b).buffer c = s.buffer c := by
    intro c hc
    unfold State.freeBuffer
    rw [State.buffer_setBuffer_ne _ _ hc]
    split
    · exact congrArg (fun v : Vector Buffer 8 => v[c]) (State.detach_pool ..)
    · rfl
  refine ⟨?_, pool, ?_, ?_, ?_⟩
  · rintro c rfl
    exact State.buffer_setBuffer ..
  · rintro c p a rfl hw ha hb
    unfold State.freeBuffer
    simp only [hw]
    exact (State.detach_spec c p s).1 a ha hb
  · intro p hp
    unfold State.freeBuffer
    split
    case h_1 q hq =>
      exact (State.detach_spec b q s).2.1 p fun e => hp b rfl (by rw [hq, e])
    case h_2 => rfl
  · unfold State.freeBuffer
    split
    case h_1 q _ => exact (State.detach_spec b q s).2.2
    case h_2 => rfl

/-- Freeing the snapshot that an entry names, if it names one. -/
theorem State.freeSnapshot_freed (o : Option (Fin 8)) (s : State) :
    BuffersFreed (fun c => o = some c) s (s.freeSnapshot o) := by
  cases o with
  | none => exact ⟨fun _ h => (nomatch h), fun _ _ => rfl, fun _ _ _ h => (nomatch h), fun _ _ => rfl, rfl⟩
  | some b =>
    obtain ⟨h1, h2, h3, h4, h5⟩ := State.freeBuffer_freed b s
    exact ⟨fun c h => h1 c (Option.some.inj h).symm, fun c h => h2 c fun e => h (e ▸ rfl),
      fun c p a h => h3 c p a (Option.some.inj h).symm, fun p h => h4 p fun c e => h c (e ▸ rfl), h5⟩

end Sys2Proof.Machine
end

