-- ==== Sys2Proof/Laws/Settles.lean ====
section
/-!
SUPPORT. What follows an event, as Safety.lean says it: a scan as it begins and the rest of one, Motion settled and told, a
publication, the Ladder's reaction to a new target, the notices and the roots after an event of the Fault Table; and a byte
read off the line.
-/
namespace Sys2Proof.Machine
open Sys2Proof

/-! ### Scans -/

/-- The samples of a scan as it begins, in the order of R152. -/
theorem scanItems_order (c : Tables) : ∃ (slots : List (Fin 8)) (channels : List (Fin 7)),
    slots.Pairwise (· < ·) ∧ channels.Pairwise (· < ·) ∧
    (∀ k, k ∈ slots ↔ c.scan[k].used = true ∧ c.enable[c.scan[k].channel] = true) ∧
    (∀ ch : Fin 7, ch ∈ channels ↔ c.enable[ch] = true) ∧
    scanItems c = slots.map (fun k => .slot k c.scan[k].channel) ++ channels.map .alone := by
  refine ⟨(List.finRange 8).filter fun k => c.scan[k].used && c.enable[c.scan[k].channel],
    (List.finRange 7).filter fun ch => c.enable[ch], (List.pairwise_lt_finRange 8).filter _,
    (List.pairwise_lt_finRange 7).filter _, by simp, by simp, ?_⟩
  have side : ∀ {α β : Type} (l : List α) (q : α → Bool) (f : α → β),
      l.filterMap (fun x => if q x then some (f x) else none) = (l.filter q).map f := by
    intro α β l q f
    induction l with
    | nil => rfl
    | cons x l ih => cases h : q x <;> simp [h, ih]
  rw [← side, ← side]
  rfl

/-- The rest of a scan samples no channel a second time on its own. -/
theorem restOf_alone (c : Tables) (ch : Fin 7) (rest : List ScanItem) : .alone ch ∉ restOf c ch rest := by
  intro h
  have := List.mem_filter.mp (List.dropWhile_sublist _ |>.subset h)
  simp at this

/-- The rest of a scan adds nothing. -/
theorem restOf_sub (c : Tables) (ch : Fin 7) (rest : List ScanItem) : ∀ j ∈ restOf c ch rest, j ∈ rest :=
  fun _ h => (List.mem_filter.mp ((List.dropWhile_sublist _).subset h)).1

/-- The next sample of a scan is one that the records still ask for. -/
theorem restOf_head (c : Tables) (ch : Fin 7) (rest : List ScanItem) (j : ScanItem)
    (h : (restOf c ch rest).head? = some j) : j.valid c = true := by
  unfold restOf at h
  have := List.head?_dropWhile_not (fun j : ScanItem => !j.valid c) (rest.filter fun j => j ≠ .alone ch)
  rw [h] at this
  simpa using this

/-- Dropping leaves every member that is not to be dropped. -/
theorem mem_dropWhile {α : Type} {p : α → Bool} {x : α} : ∀ {l : List α}, x ∈ l → p x = false → x ∈ l.dropWhile p
  | y :: l, hx, hp => by
    rw [List.dropWhile_cons]
    split
    · rename_i hy
      cases List.mem_cons.mp hx with
      | inl e => subst e; simp [hp] at hy
      | inr h => exact mem_dropWhile h hp
    · exact hx

/-- The rest of a scan keeps every sample that the records still ask for, but for the channel on its own just sampled. -/
theorem restOf_keeps (c : Tables) (ch : Fin 7) (rest : List ScanItem) (j : ScanItem) (hj : j ∈ rest) (hv : j.valid c = true)
    (hn : j ≠ .alone ch) : j ∈ restOf c ch rest :=
  mem_dropWhile (List.mem_filter.mpr ⟨hj, by simpa using hn⟩) (by simp [hv])

/-- The records ask for a sample. -/
theorem ScanItem.valid_iff (c : Tables) (j : ScanItem) : j.valid c = true ↔ asked c j := by
  cases j <;> simp [ScanItem.valid, asked, and_assoc]
  constructor
  · rintro ⟨h, rfl, g⟩; exact ⟨rfl, h, g⟩
  · rintro ⟨rfl, h, g⟩; exact ⟨h, rfl, g⟩

/-- A scan goes on under new records as R149 and R156 say. -/
theorem scanOn_goesOn (c : Tables) (l : List ScanItem) : ScanGoesOn c l (scanOn c l) := by
  refine ⟨?_, ?_, ?_, ?_, ?_⟩
  · rintro rfl; rfl
  · rintro i rest ch rfl (rfl | ⟨h, rfl | ⟨k, rfl⟩⟩) <;> simp [scanOn, ScanItem.goesOn, ScanItem.valid, *]
  · rintro ch rest rfl h; simp [scanOn, ScanItem.goesOn, ScanItem.valid, h]
  · rintro k ch rest rfl h
    simp only [scanOn, ScanItem.goesOn, ScanItem.valid, h]
    simp
  · rintro i rest rfl j; simp [scanOn, ScanItem.valid_iff]

/-- The reset of a slot leaves the scan in progress and the latest samples alone. -/
theorem State.resetSlot_scan (k : Fin 8) (s : State) :
    (s.resetSlot k).monitor.scan = s.monitor.scan ∧ (s.resetSlot k).monitor.latest = s.monitor.latest := by
  simp [State.resetSlot, State.setFilter]

theorem State.resetIfMoved_scan (old : Vector Bool 7) (s : State) (k : Fin 8) :
    (s.resetIfMoved old k).monitor.scan = s.monitor.scan ∧ (s.resetIfMoved old k).monitor.latest = s.monitor.latest := by
  unfold State.resetIfMoved
  dsimp only
  split
  · exact State.resetSlot_scan k s
  · exact ⟨rfl, rfl⟩

/-- So do resets of several slots. -/
theorem State.foldl_scan {f : State → Fin 8 → State}
    (h : ∀ s k, (f s k).monitor.scan = s.monitor.scan ∧ (f s k).monitor.latest = s.monitor.latest) (l : List (Fin 8)) :
    ∀ s, (l.foldl f s).monitor.scan = s.monitor.scan ∧ (l.foldl f s).monitor.latest = s.monitor.latest := by
  induction l with
  | nil => exact fun _ => ⟨rfl, rfl⟩
  | cons k l ih => exact fun s => ⟨(ih _).1.trans (h s k).1, (ih _).2.trans (h s k).2⟩

/-- A SCAN record leaves the scan in progress going on under it, and every latest sample. -/
theorem State.writeScan_scan (k : Fin 8) (r : ScanRec) (s : State) :
    ScanGoesOn (s.writeScan k r).config s.monitor.scan (s.writeScan k r).monitor.scan ∧
      (s.writeScan k r).monitor.latest = s.monitor.latest := by
  have hc : (s.writeScan k r).config = { s.config with scan := putAt s.config.scan k r } := by simp [State.writeScan]
  rw [hc]
  unfold State.writeScan
  rw [(State.resetSlot_scan _ _).1, (State.resetSlot_scan _ _).2]
  exact ⟨scanOn_goesOn _ _, rfl⟩

/-- What dropping the disabled channels leaves of the scan and the latest samples. -/
theorem State.dropDisabled_scan (s : State) :
    ScanGoesOn s.config s.monitor.scan s.dropDisabled.monitor.scan ∧
      ∀ c : Fin 7, s.dropDisabled.monitor.latest[c] = if s.config.enable[c] then s.monitor.latest[c] else none := by
  refine ⟨scanOn_goesOn _ _, fun c => ?_⟩
  simp [State.dropDisabled]

/-- A CHANNELS record leaves the scan in progress going on under it, and the latest samples of the channels in the set. -/
theorem State.writeEnable_scan (enable : Vector Bool 7) (s : State) :
    ScanGoesOn { s.config with enable := enable } s.monitor.scan (s.writeEnable enable).monitor.scan ∧
      ∀ c : Fin 7, (s.writeEnable enable).monitor.latest[c] = if enable[c] then s.monitor.latest[c] else none := by
  have d := State.dropDisabled_scan { s with config := { s.config with enable := enable } }
  unfold State.writeEnable
  dsimp only
  generalize State.dropDisabled _ = u at *
  rw [(State.foldl_scan (State.resetIfMoved_scan s.config.enable) _ u).1,
    (State.foldl_scan (State.resetIfMoved_scan s.config.enable) _ u).2]
  exact d

/-- The comparator touches neither the scan in progress nor a latest sample. -/
theorem State.compareLink_scan (mV : Nat) (s : State) :
    (s.compareLink mV).monitor.scan = s.monitor.scan ∧ (s.compareLink mV).monitor.latest = s.monitor.latest := by
  unfold State.compareLink State.rise State.fall
  (repeat' split) <;> simp

/-- The defaults loaded over the records leave the scan in progress going on under them. -/
theorem State.loadDefaults_scan (mV : Nat) (s : State) :
    let c := topologyDefaults s.device.topology
    ScanGoesOn c s.monitor.scan (s.loadDefaults mV).monitor.scan ∧
      ∀ ch : Fin 7, (s.loadDefaults mV).monitor.latest[ch] = if c.enable[ch] then s.monitor.latest[ch] else none := by
  unfold State.loadDefaults
  dsimp only
  generalize topologyDefaults s.device.topology = c
  have d := State.dropDisabled_scan { s.writeTiming c.timing with config := c }
  generalize State.dropDisabled _ = u at *
  rw [(State.compareLink_scan _ _).1, (State.compareLink_scan _ _).2,
    (State.foldl_scan (fun t k => State.resetSlot_scan k t) _ u).1,
    (State.foldl_scan (fun t k => State.resetSlot_scan k t) _ u).2]
  exact d

/-! ### Motion -/

/-- Still, PARKED and the parked hold after a change of a speed or a liveness, in one record (R167, R168). -/
theorem Motion.settleParked_spec (n : Nat) (j : Bool) (m : Motion) :
    Motion.settleParked n j m = { m with
      still := m.stillNow
      parked := m.stillNow && m.parked
      parkedHold := if m.stillNow then (if !m.parked && (j || !m.still) then some n else m.parkedHold) else none } := by
  unfold Motion.settleParked
  obtain ⟨sf, sr, lf, lr, vs, st, pk, ph, mm, ma, mt⟩ := m
  generalize Motion.stillNow _ = x
  cases x <;> cases pk <;> cases j <;> cases st <;> rfl

/-- The mismatch detector changes its own three fields only. -/
theorem Motion.detect_frame (mo : Moment) (m : Motion) : Motion.detect mo m = { m with
    mismatch := (Motion.detect mo m).mismatch, mismatchAxle := (Motion.detect mo m).mismatchAxle
    mismatchTimer := (Motion.detect mo m).mismatchTimer } := by
  unfold Motion.detect Motion.quiet
  (repeat' split) <;> rfl

/-- The mismatch detector changes no speed and no liveness. -/
theorem Motion.detect_speeds (mo : Moment) (m : Motion) :
    (Motion.detect mo m).speedFront = m.speedFront ∧ (Motion.detect mo m).speedRear = m.speedRear ∧
    (Motion.detect mo m).liveFront = m.liveFront ∧ (Motion.detect mo m).liveRear = m.liveRear := by
  rw [Motion.detect_frame]; simp

/-- How a moment is classed, from the live speeds (R170). -/
theorem Motion.moment_spec (limit : Nat) (m : Motion) (hv : m.vehicleSpeed = m.vehicle) :
    (∀ f r, m.liveFront = true → m.liveRear = true → m.speedFront = some f → m.speedRear = some r →
      m.moment limit = if limit < max f r - min f r ∧ 50 ≤ max f r then .out (if f < r then .front else .rear) else .inside) ∧
    (m.liveFront = false ∨ m.liveRear = false ∨ m.speedFront = none ∨ m.speedRear = none →
      m.moment limit = .notEvaluable) := by
  obtain ⟨sf, sr, lf, lr, vs, st, pk, ph, mm, ma, mt⟩ := m
  simp only [Motion.vehicle] at hv
  subst hv
  unfold Motion.moment liveSpeed
  refine ⟨fun f r h1 h2 h3 h4 => ?_, fun h => ?_⟩
  · simp only at h1 h2 h3 h4
    subst h1 h2 h3 h4
    simp only [Option.getD_some, if_true, speedGap]
    exact if_congr (by rw [Bool.and_eq_true]; exact and_congr decide_eq_true_iff decide_eq_true_iff) rfl rfl
  · simp only at h
    cases lf <;> cases lr <;> cases sf <;> cases sr <;> simp_all

/-- The detector follows the table of R170. -/
theorem Motion.detect_moves (limit : Nat) (old m : Motion) (hv : m.vehicleSpeed = m.vehicle) (hd : m.detector = old.detector) :
    DetectorMoves limit old (m.detect (m.moment limit)) := by
  obtain ⟨s1, s2, s3, s4⟩ := Motion.detect_speeds (m.moment limit) m
  obtain ⟨hw, hb⟩ := Motion.moment_spec limit m hv
  have e1 : m.mismatch = old.mismatch := congrArg Prod.fst hd
  have e2 : m.mismatchAxle = old.mismatchAxle := congrArg (fun x => x.2.1) hd
  refine ⟨fun f r h1 h2 h3 h4 h5 h6 => ?_, fun f r h1 h2 h3 h4 h5 => ?_, fun h => ?_⟩
  · rw [hw f r (s3 ▸ h1) (s4 ▸ h2) (s1 ▸ h3) (s2 ▸ h4), if_pos (And.intro h5 h6), ← hd, ← e1, ← e2]
    clear hw hb hv hd e1 e2 s1 s2 s3 s4 h1 h2 h3 h4 h5 h6
    generalize (if f < r then Axle.front else Axle.rear) = a
    refine ⟨fun h => ?_, fun h h' => ?_, fun h h' => ?_, fun h => ?_, fun h => ?_⟩ <;>
      simp [Motion.detect, Motion.detector, mismatchMs, *]
  · rw [hw f r (s3 ▸ h1) (s4 ▸ h2) (s1 ▸ h3) (s2 ▸ h4), if_neg (by omega), ← hd, ← e1, ← e2]
    clear hw hb hv hd e1 e2 s1 s2 s3 s4 h1 h2 h3 h4 h5
    refine ⟨fun h => ?_, fun h => ?_, fun h => ?_⟩
    · rcases h with h | h <;> simp [Motion.detect, Motion.detector, h]
    · simp [Motion.detect, Motion.detector, Motion.quiet, h]
    · simp [Motion.detect, Motion.detector, mismatchMs, h]
  · rw [s1, s2, s3, s4] at h
    rw [hb h, ← hd, ← e1]
    clear hw hb hv hd e1 e2 s1 s2 s3 s4 h
    refine ⟨fun h => ?_, fun h => ?_⟩
    · simp [Motion.detect, Motion.detector, h]
    · cases hm : m.mismatch <;> simp_all [Motion.detect, Motion.detector, Motion.quiet]

/-- Motion settles as R166 to R168 and R170 say. -/
theorem Motion.settleFrom_settles (topo : Topology) (k : Timing) (old m : Motion) (hs : m.still = old.still)
    (hp : m.parked = old.parked) (hh : m.parkedHold = old.parkedHold) (hd : m.detector = old.detector) :
    MotionSettles topo k old (Motion.settleFrom topo k old m) := by
  have key : ∀ d : Motion, d = { m with
        still := m.stillNow, parked := m.stillNow && m.parked
        parkedHold := if m.stillNow then (if !m.parked && (m.joinedFrom old || !m.still) then some k.parkedHold else m.parkedHold)
          else none
        vehicleSpeed := m.vehicle
        mismatch := d.mismatch, mismatchAxle := d.mismatchAxle, mismatchTimer := d.mismatchTimer } →
      (topo = .dual ∨ topo = .dualUnsupervised → d.speedFront ≠ old.speedFront ∨ d.speedRear ≠ old.speedRear ∨
        d.liveFront ≠ old.liveFront ∨ d.liveRear ≠ old.liveRear → DetectorMoves k.mismatchLimit old d) →
      (topo = .rearOnly ∨ topo = .frontOnly → d.detector = old.detector) → MotionSettles topo k old d := by
    intro d e h1 h2
    have hf : d.speedFront = m.speedFront ∧ d.speedRear = m.speedRear ∧ d.liveFront = m.liveFront ∧ d.liveRear = m.liveRear ∧
        d.vehicleSpeed = m.vehicle ∧ d.still = m.stillNow ∧ d.parked = (m.stillNow && m.parked) ∧ d.parkedHold =
        if m.stillNow then (if !m.parked && (m.joinedFrom old || !m.still) then some k.parkedHold else m.parkedHold) else none := by
      rw [e]; simp
    obtain ⟨f1, f2, f3, f4, f5, f6, f7, f8⟩ := hf
    refine ⟨?_, ?_, ?_, ?_, ?_, ?_, h1, h2⟩
    · rw [f5, f3, f4, f1, f2]
      unfold Motion.vehicle liveSpeed
      cases m.liveFront <;> cases m.liveRear <;> rfl
    · rw [f6, f1, f2, f3, f4]
      unfold Motion.stillNow stillAxle stopped
      cases m.liveFront <;> cases m.liveRear <;> cases m.speedFront <;> cases m.speedRear <;> simp
    · intro h; rw [f6] at h; rw [f7, f8, h]; simp
    · intro h ho; rw [f6] at h; rw [f7, f8, h, hp, ho, hh]; simp
    · intro h ho hj
      rw [f6] at h; rw [f7, f8, h, hp, ho, hs]; rw [f3, f4] at hj
      have : (m.joinedFrom old || !old.still) = true := by
        unfold Motion.joinedFrom
        rcases hj with hj | hj | hj <;> simp [hj]
      simp [this]
    · intro h ho hst hfj hrj
      rw [f6] at h; rw [f7, f8, h, hp, ho, hs, hh]; rw [f3] at hfj; rw [f4] at hrj
      have : m.joinedFrom old = false := by
        unfold Motion.joinedFrom
        revert hfj hrj
        cases m.liveFront <;> cases m.liveRear <;> simp +contextual
      simp [this, hst]
  have hx := Motion.settleParked_spec k.parkedHold (m.joinedFrom old) m
  unfold Motion.settleFrom
  generalize Motion.settleParked k.parkedHold (m.joinedFrom old) m = x at hx
  have hv : x.vehicle = m.vehicle := by rw [hx]; rfl
  have hy : { x with vehicleSpeed := x.vehicle } = { m with
        still := m.stillNow, parked := m.stillNow && m.parked
        parkedHold := if m.stillNow then (if !m.parked && (m.joinedFrom old || !m.still) then some k.parkedHold else m.parkedHold)
          else none
        vehicleSpeed := m.vehicle } := by rw [hv, hx]
  have hyv : ({ x with vehicleSpeed := x.vehicle } : Motion).vehicleSpeed =
      Motion.vehicle { x with vehicleSpeed := x.vehicle } := rfl
  simp only []
  generalize ({ x with vehicleSpeed := x.vehicle } : Motion) = y at hy hyv
  have hyd : y.detector = old.detector := by rw [hy]; exact hd
  split
  · rename_i hc
    refine key _ (by rw [Motion.detect_frame, hy]) (fun _ _ => Motion.detect_moves _ _ _ hyv hyd) (fun h => ?_)
    rcases h with rfl | rfl <;> exact absurd (Bool.and_eq_true_iff.mp hc).1 (by decide)
  · rename_i hc
    refine key _ (by rw [hy]) (fun ht h => absurd ?_ hc) (fun _ => hyd)
    have : y.movedFrom old = true := by
      unfold Motion.movedFrom
      rcases h with h | h | h | h <;> simp [h]
    rw [this]
    rcases ht with rfl | rfl <;> rfl

/-! ### The line -/

/-- Eight bits, the lowest first, are their byte again. -/
theorem bitsByte_byte (b : Byte) : bitsByte [b.getLsbD 0, b.getLsbD 1, b.getLsbD 2, b.getLsbD 3, b.getLsbD 4, b.getLsbD 5,
    b.getLsbD 6, b.getLsbD 7] = b := by
  revert b; decide +kernel

/-- A reader between bytes takes one byte off the line. -/
theorem LineReader.read_byte (n : Nat) (l : List Byte) (b : Byte) (rest : List Bool) :
    (LineReader.mk n none l).read (byteLevels b ++ rest) = (LineReader.mk 10 none (l ++ [b])).read rest := by
  have h : byteLevels b = [false, b.getLsbD 0, b.getLsbD 1, b.getLsbD 2, b.getLsbD 3, b.getLsbD 4, b.getLsbD 5,
    b.getLsbD 6, b.getLsbD 7, true] := rfl
  rw [h]
  simp [LineReader.read, LineReader.bit]
  rw [show bitsByte [b[0], b[1], b[2], b[3], b[4], b[5], b[6], b[7]] = b from bitsByte_byte b]

/-! ### The Ladder -/

/-- Relaxation after the target or the published envelope has moved (R117, R124). -/
theorem State.setRelax_spec (moved : Bool) (s : State) :
    let t := s.setRelax moved
    t.ladder.target = s.ladder.target ∧
      (s.ladder.target.limits = s.ladder.published.limits → t.ladder.relax = .idle ∧ t.ladder.hold = none) ∧
      (s.ladder.target.limits ≠ s.ladder.published.limits → moved = true →
        t.ladder.relax = .holding ∧ t.ladder.hold = some s.config.timing.relaxHold) ∧
      (s.ladder.target.limits ≠ s.ladder.published.limits → moved = false →
        t.ladder.relax = s.ladder.relax ∧ t.ladder.hold = s.ladder.hold) := by
  unfold State.setRelax
  by_cases h : s.ladder.target.limits = s.ladder.published.limits
  · simp [h]
  · cases moved <;> simp [h]

/-- A publication, with relaxation set from the target that stands. -/
theorem State.publish_publishes (l : Limits) (s : State) (hd : s.device.state ≠ .standby) :
    Publishes l s.ladder.target.limits s ((s.publish l (causeOf s.faults)).setRelax true) := by
  have hm : ∀ p, s.addressed p = (s.port p).inExchange := fun p => by simp [State.addressed, hd]
  obtain ⟨h1, h2, h3, -, h5, h6, h7, -⟩ := State.publish_spec l (causeOf s.faults) s
  have hf := (State.publish_frame l (causeOf s.faults) s)
  generalize s.publish l (causeOf s.faults) = u at *
  obtain ⟨r1, r2, r3, -⟩ := State.setRelax_spec true u
  have hpub : (u.setRelax true).ladder.published = u.ladder.published := by simp
  have hpn : (u.setRelax true).publication = u.publication := by simp
  have hpt : ∀ p, (u.setRelax true).port p = u.port p := State.port_congr (by simp)
  have had : ∀ p, (u.setRelax true).adoption p = u.adoption p := fun p => by unfold State.adoption; rw [hpn]
  have hfl : (u.setRelax true).faults = s.faults := by simp [hf]
  have hl : u.ladder.published.limits = l := by rw [h1]; rfl
  generalize u.setRelax true = t at *
  refine ⟨?_, ?_, ?_, ?_, ?_, ?_, ?_, ?_, ?_⟩
  · rw [hpub, hl]
  · rw [hpub, h1, hfl]; exact ⟨rfl, rfl, rfl, rfl⟩
  · rw [hpub, hpn, h1, h2]; exact ⟨rfl, rfl⟩
  · rw [r1, h7]
  · intro h; exact r2 (by rw [h7, hl, h])
  · intro h
    have := r3 (by rw [h7, hl]; exact h) rfl
    rwa [hf.2.1] at this
  · intro p; rw [hpn, h3, hm]
  · intro p hp
    rw [hpt, had, hpub, h5, h6, hm, hp, h1]
    exact ⟨rfl, rfl, rfl, rfl, rfl⟩
  · intro p hp
    rw [had, h6, hm, hp]
    rfl

/-- The Ladder forms its target anew, and tightens at once or waits (R117, R119, R121). -/
theorem State.reform_spec (s : State) (hd : s.device.state ≠ .standby) :
    (s.formedTarget.someStricter s.ladder.published.limits = true →
      Publishes (s.ladder.published.limits.stricter s.formedTarget).escalate s.formedTarget s s.reform) ∧
    (s.formedTarget.someStricter s.ladder.published.limits = false → Waits s.formedTarget s s.reform) := by
  refine ⟨fun h => ?_, fun h => ?_⟩
  · have hp := State.publish_publishes (s.ladder.published.limits.stricter s.formedTarget).escalate
      { s with ladder := { s.ladder with target := s.formEnvelope 0 s.formedTarget (causeOf s.faults) } } hd
    have e : s.reform = _ := if_pos h
    rw [e]
    exact ⟨hp.1, hp.2, hp.3, hp.4, hp.5, hp.6, hp.7, hp.8, hp.9⟩
  · have e : s.reform = _ := if_neg (by rw [h]; decide)
    have hr := State.setRelax_spec (decide (s.formedTarget ≠ s.ladder.target.limits))
      { s with ladder := { s.ladder with target := s.formEnvelope 0 s.formedTarget (causeOf s.faults) } }
    obtain ⟨r1, r2, r3, r4⟩ := hr
    rw [e]
    refine ⟨⟨by simp, by simp⟩, congrArg Envelope.limits r1, r2, fun h1 h2 => r3 h1 (by simpa using h2),
      fun h1 h2 => r4 h1 (by simpa using h2)⟩

/-! ### The Fault Table -/

/-- Roots are found from what entries hold besides their roots. -/
theorem rootOf_congr (c : Tables) {v w : Vector Entry 48} (h : ∀ i : Fin 48, v[i].unrooted = w[i].unrooted) (z : Fin 16) :
    rootOf c v z = rootOf c w z := by
  have key : ∀ a, firstAt (rootIn c.classes a) v = firstAt (rootIn c.classes a) w := fun a => by
    unfold firstAt
    congr 1
    funext i
    show rootIn c.classes a v[i].unrooted = rootIn c.classes a w[i].unrooted
    rw [h i]
  unfold rootOf
  simp only [key]

/-- Two tables agree under a map when they agree entry by entry. -/
theorem map_entries_eq {β : Type} {n : Nat} (f : Entry → β) (v w : Vector Entry n) :
    v.toList.map f = w.toList.map f ↔ ∀ i : Fin n, f v[i] = f w[i] := by
  constructor
  · intro h i
    have := congrArg (fun l : List β => l[i.val]?) h
    simpa using this
  · intro h
    apply List.ext_getElem
    · simp
    · intro k h1 h2
      have hk : k < n := by simpa using h1
      simpa using h ⟨k, hk⟩

/-- Settling the roots changes no other field of an entry. -/
theorem State.settleRoots_entry (s : State) (e : Fin 48) : s.settleRoots.entry e = { s.entry e with
    root := if (s.entry e).active then rootOf s.config s.faults.entries (s.entry e).zone else none } := by
  unfold State.settleRoots State.entry
  simp

/-- What a publication leaves rests on the records, the generation and who is in the exchange. -/
theorem Publishes.of_start {l tgt : Limits} {s w t : State} (hc : w.config = s.config) (hq : w.publication = s.publication)
    (hx : ∀ p, (w.port p).inExchange = (s.port p).inExchange) (h : Publishes l tgt w t) : Publishes l tgt s t := by
  obtain ⟨h1, h2, h3, h4, h5, h6, h7, h8, h9⟩ := h
  rw [hc] at h2 h6
  rw [hq] at h3
  exact ⟨h1, h2, h3, h4, h5, h6, fun p => by rw [h7, hx], fun p hp => h8 p (by rw [hx, hp]), fun p hp => h9 p (by rw [hx, hp])⟩

/-- What waiting leaves rests on the records, the generation and the Ladder. -/
theorem Waits.of_start {tgt : Limits} {s w t : State} (hc : w.config = s.config) (hq : w.publication = s.publication)
    (hl : w.ladder = s.ladder) (h : Waits tgt w t) : Waits tgt s t := by
  obtain ⟨h1, h2, h3, h4, h5⟩ := h
  rw [hl, hq] at h1
  rw [hl] at h3 h4 h5
  rw [hc] at h4
  exact ⟨h1, h2, h3, h4, h5⟩

/-- The states and the contributions of two tables, entry by entry. -/
theorem FaultTable.entries_told (t u : FaultTable) :
    (t.states = u.states ↔ ∀ e : Fin 48, t.entries[e].state = u.entries[e].state) ∧
    (t.contributors = u.contributors ↔ ∀ e : Fin 48, t.entries[e].contributing = u.entries[e].contributing) :=
  ⟨map_entries_eq _ _ _, map_entries_eq _ _ _⟩

/-- How many entries are active rests on their states. -/
theorem FaultTable.activeCount_congr {t u : FaultTable} (h : t.states = u.states) : t.activeCount = u.activeCount := by
  have key : ∀ x : FaultTable, x.activeCount = (x.states.filter fun y => match y with
      | .suspect | .confirmed | .healing | .latched => true
      | .free | .retired => false).length := fun x => by
    unfold FaultTable.activeCount countAt FaultTable.states
    rw [List.filter_map, List.length_map]
    rfl
  rw [key, key, h]

/-- The notices an event calls for: both timers, the flag and the NOTICE at high water, the timers at another notice change. -/
theorem State.notify_spec (old : FaultTable) (s : State) :
    let t := s.notify old
    (highWaterReached old s.faults = true → t.faults.highWater = true ∧ t.faults.noticeDelay = none ∧
      t.faults.absoluteDelay = none ∧ ((s.port .ride).inExchange = true → (t.port .ride).notice = true)) ∧
    (highWaterReached old s.faults = false → noticeChange old s.faults = true → t.faults.noticeDelay = some 20 ∧
      t.faults.absoluteDelay = some (s.faults.absoluteDelay.getD 100) ∧ t.faults.highWater = s.faults.highWater) ∧
    (highWaterReached old s.faults = false → noticeChange old s.faults = false → t = s) ∧
    ∀ p, (t.port p).inExchange = (s.port p).inExchange := by
  have hport : ∀ p, s.reachHighWater.port p = if p = .ride then
      (if (s.port .ride).inExchange then { s.port .ride with notice := true } else s.port .ride) else s.port p := fun p => by
    cases p <;> rfl
  unfold State.notify
  cases highWaterReached old s.faults
  · cases noticeChange old s.faults
    · simp
    · refine ⟨by simp, fun _ _ => ⟨rfl, ?_, rfl⟩, by simp, fun p => rfl⟩
      unfold State.startNoticeTimers
      cases s.faults.absoluteDelay <;> rfl
  · refine ⟨fun _ => ⟨?_, rfl, rfl, fun h => ?_⟩, by simp, by simp, fun p => ?_⟩
    · simp [State.reachHighWater, State.stopNoticeTimers]
    · rw [if_pos rfl, hport .ride, if_pos rfl, if_pos h]
    · rw [if_pos rfl, hport p]
      split
      · rename_i e
        subst e
        split <;> rfl
      · rfl

/-- What follows an event of the Fault Table in RUN, for an event that has changed nothing but entries, overflow cells, the
report in application, buffers and slots. -/
theorem State.settle_settles {s u : State} (hr : u.running = true) (hc : u.config = s.config)
    (hp : u.ports = s.ports) (hl : u.ladder = s.ladder) (hq : u.publication = s.publication)
    (h1 : u.faults.noticeDelay = s.faults.noticeDelay) (h2 : u.faults.absoluteDelay = s.faults.absoluteDelay)
    (h3 : u.faults.highWater = s.faults.highWater) : TableSettles s (u.settle s.faults) := by
  have hst : u.device.state ≠ .standby := by
    intro h
    rw [State.running, h] at hr
    exact absurd hr (by decide)
  have ev : u.settle s.faults = (u.settleRoots.notify s.faults).tellLadder s.faults := if_pos hr
  rw [ev]
  obtain ⟨v1, v2, v3, -, -, v4, -, v5, -, -, -, -, v6, -, v7⟩ := State.settleRoots_frame u
  have v8 : u.settleRoots.faults.noticeDelay = u.faults.noticeDelay ∧
    u.settleRoots.faults.absoluteDelay = u.faults.absoluteDelay := ⟨rfl, rfl⟩
  have hve := State.settleRoots_entry u
  generalize u.settleRoots = v at *
  obtain ⟨w1, w2, -, -, w3, -, w4, -, -, -, -, w5, w6, -⟩ := State.notify_frame s.faults v
  obtain ⟨n1, n2, n3, n4⟩ := State.notify_spec s.faults v
  have ex : ∀ p, ((v.notify s.faults).port p).inExchange = (s.port p).inExchange := fun p => by
    rw [n4]; unfold State.port; rw [v3, hp]
  have hstw : (v.notify s.faults).device.state ≠ .standby := by rw [w1, v1]; exact hst
  generalize v.notify s.faults = w at *
  obtain ⟨t1, t2, -, -, t3, -⟩ := State.tellLadder_frame s.faults w
  obtain ⟨r1, r2⟩ := State.reform_spec w hstw
  have het : ∀ e, (w.tellLadder s.faults).entry e = v.entry e := fun e => by unfold State.entry; rw [t3, w5]
  have hft : (w.tellLadder s.faults).formedTarget = w.formedTarget := by
    unfold State.formedTarget
    rw [t1, t2, t3, (State.tellLadder_frame s.faults w).2.2.2.2.2.2.2.2]
  have hch : demandChange s.faults w.faults = true ↔
      (∃ e, ((w.tellLadder s.faults).entry e).contributing ≠ (s.entry e).contributing) ∨
        (w.tellLadder s.faults).faults.anyCell ≠ s.faults.anyCell := by
    rw [t3]
    unfold demandChange State.entry
    rw [t3, Bool.or_eq_true, bne_iff_ne, bne_iff_ne]
    refine or_congr ?_ ne_comm
    rw [← not_iff_not, not_ne_iff, (FaultTable.entries_told _ _).2]
    push Not
    exact ⟨fun h e => (h e).symm, fun h e => (h e).symm⟩
  have hs : s.faults.states = w.faults.states ↔ ∀ e, ((w.tellLadder s.faults).entry e).state = (s.entry e).state := by
    rw [(FaultTable.entries_told _ _).1]
    unfold State.entry
    rw [t3]
    exact ⟨fun h e => (h e).symm, fun h e => (h e).symm⟩
  have hn : noticeChange s.faults w.faults = true ↔
      (∃ e, ((w.tellLadder s.faults).entry e).state ≠ (s.entry e).state) ∨
        (w.tellLadder s.faults).faults.cellCount ≠ s.faults.cellCount := by
    unfold noticeChange
    rw [t3, Bool.or_eq_true, bne_iff_ne, bne_iff_ne]
    refine or_congr ?_ ne_comm
    rw [← not_iff_not, not_ne_iff, hs]
    push Not
    rfl
  have hvw : w.faults.states = v.faults.states ∧ w.faults.activeCount = v.faults.activeCount ∧
      w.faults.cellCount = v.faults.cellCount ∧ noticeChange s.faults v.faults = noticeChange s.faults w.faults := by
    have a : w.faults.states = v.faults.states := by unfold FaultTable.states; rw [w5]
    have b : w.faults.cellCount = v.faults.cellCount := by unfold FaultTable.cellCount; rw [w6]
    refine ⟨a, FaultTable.activeCount_congr a, b, ?_⟩
    unfold noticeChange
    rw [a, b]
  obtain ⟨-, q2, -, q4⟩ := hvw
  have hwater : highWaterReached s.faults v.faults = true ↔ s.faults.activeCount < 40 ∧ 40 ≤ v.faults.activeCount := by
    unfold highWaterReached
    rw [Bool.and_eq_true, decide_eq_true_eq, decide_eq_true_eq]
  have hun : ∀ e, ((w.tellLadder s.faults).entry e).unrooted = (u.entry e).unrooted := fun e => by rw [het, hve]; rfl
  have hact : (w.tellLadder s.faults).faults.activeCount = v.faults.activeCount := by rw [t3, q2]
  refine ⟨fun e => ?_, fun ha hb => ?_, fun ha hb => ?_, fun ha hb => ?_, fun ha hb => ?_, fun ha hb => ?_, fun ha hb => ?_⟩
  · rw [rootOf_congr _ (w := u.faults.entries) hun, het, hve, t2, w2, v2]
    rfl
  · rw [hact] at hb
    obtain ⟨a, b, c, d⟩ := n1 (hwater.mpr ⟨ha, hb⟩)
    rw [t3]
    refine ⟨a, b, c, fun h => ?_⟩
    have hnot : ((w.tellLadder s.faults).port .ride).notice = (w.port .ride).notice := by
      unfold State.tellLadder
      split
      · rw [(State.reform_reaches w .ride).1]
      · rfl
    rw [hnot]
    exact d (by unfold State.port at h ⊢; rw [v3, hp]; exact h)
  · have hnw : highWaterReached s.faults v.faults = false := by
      rw [← Bool.not_eq_true, hwater]
      omega
    obtain ⟨a, b, c⟩ := n2 hnw (q4.trans (hn.mpr hb))
    rw [t3]
    exact ⟨a, by rw [b, v8.2, h2], by rw [c, v7, h3]⟩
  · have hs' : s.faults.states = w.faults.states := hs.mpr ha
    have hnw : highWaterReached s.faults v.faults = false := by
      rw [← Bool.not_eq_true, hwater, ← q2, ← FaultTable.activeCount_congr hs']
      omega
    have hno : noticeChange s.faults w.faults = false := by
      rw [← Bool.not_eq_true, hn]
      rintro (⟨e, he⟩ | h)
      · exact he (ha e)
      · exact h hb
    have := n3 hnw (q4.trans hno)
    rw [t3, this, v8.1, v8.2, v7]
    exact ⟨h1, h2, h3⟩
  · have e : w.tellLadder s.faults = w.reform := if_pos (hch.mpr ha)
    rw [hft] at hb ⊢
    have := r1 (by rw [w3, v4, hl]; exact hb)
    rw [← e, w3, v4, hl] at this
    exact this.of_start (by rw [w2, v2, hc]) (by rw [w4, v5, hq]) ex
  · have e : w.tellLadder s.faults = w.reform := if_pos (hch.mpr ha)
    rw [hft] at hb ⊢
    have := r2 (by rw [w3, v4, hl]; exact hb)
    rw [← e] at this
    exact this.of_start (by rw [w2, v2, hc]) (by rw [w4, v5, hq]) (by rw [w3, v4, hl])
  · have hd : demandChange s.faults w.faults = false := by
      rw [← Bool.not_eq_true, hch]
      rintro (⟨e, he⟩ | h)
      · exact he (ha e)
      · exact h hb
    have e : w.tellLadder s.faults = w := if_neg (by rw [hd]; decide)
    rw [e, w3, v4, hl, w4, v5, hq]
    exact ⟨rfl, rfl⟩

/-- What Motion makes of new speeds or liveness, and what it tells the other blocks. -/
theorem State.moveMotion_told (m : Motion) (s : State) (hs : m.still = s.motion.still) (hp : m.parked = s.motion.parked)
    (hh : m.parkedHold = s.motion.parkedHold) (hd : m.detector = s.motion.detector) : MotionTold s (s.moveMotion m) := by
  have hm := State.moveMotion_motion m s
  have hset := Motion.settleFrom_settles s.device.topology s.config.timing s.motion m hs hp hh hd
  rw [← hm] at hset
  refine ⟨hset, fun a ha hw hq => ?_, fun h => ?_, fun h => ?_⟩
  · have hheld : s.motion.mismatchHeld = true := by
      unfold Motion.mismatchHeld
      rcases hw with hw | hw <;> rw [hw]
    rw [hm] at hq
    have key : ∀ t : State, t.motion = Motion.settleFrom s.device.topology s.config.timing s.motion m →
        ((t.releaseMismatch s.motion).cond (mismatchCond a)).asserted = false := fun t ht => by
      have hnot : t.motion.mismatchHeld = false := by
        unfold Motion.mismatchHeld
        rw [ht, hq]
      unfold State.releaseMismatch
      rw [ha, hheld, hnot]
      simp
    unfold State.moveMotion
    simp only []
    split
    · exact key _ rfl
    · rw [State.cond_congr (State.reportParked_frame _ _).2.2.1]
      exact key _ rfl
  · rw [hm] at h ⊢
    have e : s.moveMotion m = _ := if_neg h
    rw [e]
    unfold State.reportParked
    split
    · split <;> simp
    · exact ⟨rfl, rfl⟩
  · rw [hm] at h
    have e : s.moveMotion m = _ := if_pos h
    rw [e]
    simp

end Sys2Proof.Machine
end

