-- ==== Sys2Proof/Laws/Turns.lean ====
section
/-!
SUPPORT. What a frame, a completed transmission and a verdict keep, whatever the block behind them does: a condition kept by
the parts is kept by the whole.
-/
namespace Sys2Proof.Machine

open Sys2Proof

/-- A condition kept by a change of the port, by the block's own effect and by the end of the turn is kept by a frame. -/
theorem State.takeFrame_holds (P : State → Prop) {p : Station} {turn : Bool} {hand : State → State} {s : State}
    (hport : ∀ t f, P t → P (t.modPort p f)) (hend : ∀ t, P t → P (t.endTurn .normal p))
    (hhand : ∀ t, P t → P (hand t)) (hs : P s) : P (s.takeFrame p turn hand) := by
  have hc : ∀ t, P t → P (t.countDiscard p) := fun t ht => hport t _ ht
  unfold State.takeFrame State.takeInTurn State.refuseFrame
  simp only []
  split
  · split
    · apply hend
      split
      · exact hhand _ (hport _ _ hs)
      · exact hc _ (hport _ _ hs)
    · split
      · exact hhand _ (hport _ _ hs)
      · exact hc _ (hport _ _ hs)
  · split
    · split
      · exact hs
      · exact hc _ hs
    · exact hport _ _ (hc _ hs)
    all_goals exact hs

/-- A condition kept by a change of the port and by the judge is kept by a receipted frame. -/
theorem State.receipted_holds (P : State → Prop) {p : Station} {judge : State → State × Verdict} {s : State}
    (hport : ∀ t f, P t → P (t.modPort p f)) (hj : P s → P (judge s).1) (hs : P s) : P (State.receipted p judge s) := by
  unfold State.receipted State.addVerdict
  exact hport _ _ (hj hs)

/-- A CONFIG changes nothing, or does what its record's judge does in CONFIGURE on port 0. -/
theorem State.judgeConfig_holds (P : State → Prop) {p : Station} {judge : State → State × Verdict} {s : State}
    (hj : s.device.state = .configure → p = .ride → P (judge s).1) (hs : P s) : P (State.judgeConfig p judge s).1 := by
  unfold State.judgeConfig
  split
  · exact hs
  · rename_i h1
    split
    · exact hs
    · rename_i h2
      exact hj (by simpa using h1) (by simpa using h2)

/-- A record is written only after its checks: what holds before and after every write holds after the judgement. -/
theorem State.judgeRecord_holds {α : Type} (P : State → Prop) {body : Option (Nat × List Byte)}
    {lengthOf : Nat → Option Nat} {fixed : Nat → Bool} {parse : Nat → List Byte → Option α} {write : Nat → α → State}
    {s : State} (hw : ∀ i x, fixed i = false → P (write i x)) (hs : P s) :
    P (State.judgeRecord body lengthOf fixed parse write s).1 := by
  unfold State.judgeRecord
  repeat' split
  all_goals first | exact hs | skip
  rename_i h _ _ _
  exact hw _ _ (by simpa using h)

/-- A completed transmission keeps what a change of the port and the block of the frame keep. -/
theorem State.completeIf_holds (P : State → Prop) {p : Station} {is : Sending → Bool} {s : State}
    (hport : ∀ t f, P t → P (t.modPort p f)) (htell : ∀ f, P (s.tellSent p f)) (hs : P s) : P (s.completeIf p is) := by
  unfold State.completeIf
  split
  · split
    · unfold State.complete State.frameSent
      exact hport _ _ (htell _)
    · exact hs
  · exact hs

end Sys2Proof.Machine
end

