-- ==== Sys2Proof/WellFormed.lean ====
section
/-!
DEFINITION. Which commands the environment can send.

A payload holds at most 255 bytes (R16). A frame of a kind that several rows share (READ, CONFIG, DISCARD) stands under the
row its first byte names; a first byte that names no row at all may stand under any of them, and is MALFORMED there (log 5).
-/
namespace Sys2Proof

/-- A payload that fits a frame (R16). -/
def payloadFits (payload : List Byte) : Bool :=
  payload.length ≤ 255

/-- The first byte is this row's code, or no row's (`rows` codes are in use), or there is none. -/
def codeFits (code rows : Nat) (payload : List Byte) : Bool :=
  match payload with
  | [] => true
  | b :: _ => b.toNat = code || rows ≤ b.toNat

/-- What the environment can send as this command. -/
def Instr.wellFormed : Instr → Bool
  | .powerOn | .resetNLow | .resetEnd _ _ _ _ | .keyPinChange _ | .keyDebounceExpiry _
  | .configureWindowExpiry _ | .reqChange _ _ => true
  | .hello _ _ l | .status _ _ l | .report _ _ l | .snapshot _ _ l | .adopt _ _ l | .clear _ _ l
  | .clearOverflow _ _ l | .commit _ _ l => payloadFits l
  | .discardEntry _ _ l => payloadFits l && codeFits 0 2 l
  | .discardAllRetired _ _ l => payloadFits l && codeFits 1 2 l
  | .readTable _ _ l => payloadFits l && codeFits 0 7 l
  | .readEntry _ _ l => payloadFits l && codeFits 1 7 l
  | .readSnapshot _ _ l => payloadFits l && codeFits 2 7 l
  | .readEnvelope _ _ l => payloadFits l && codeFits 3 7 l
  | .readMonitor _ _ l => payloadFits l && codeFits 4 7 l
  | .readOverflow _ _ l => payloadFits l && codeFits 5 7 l
  | .readIdent _ _ l => payloadFits l && codeFits 6 7 l
  | .zoneRecord _ _ l => payloadFits l && codeFits 0 9 l
  | .classRecord _ _ l => payloadFits l && codeFits 1 9 l
  | .levelRecord _ _ l => payloadFits l && codeFits 2 9 l
  | .responseRecord _ _ l => payloadFits l && codeFits 3 9 l
  | .scanRecord _ _ l => payloadFits l && codeFits 4 9 l
  | .channelsRecord _ _ l => payloadFits l && codeFits 5 9 l
  | .comparatorRecord _ _ l _ => payloadFits l && codeFits 6 9 l
  | .timingRecord _ _ l => payloadFits l && codeFits 7 9 l
  | .weightRecord _ _ l => payloadFits l && codeFits 8 9 l
  | .discardedFrame _ _ | .outOfTurnFrame _ | .brokenFrame _ | .contention _
  | .outboundArbiterChoice _ | .syncDue _ | .syncSent _ | .grantSent _ | .envelopeSent _
  | .receiptSent _ | .readReplySent _ | .noticeSent | .heartbeatExpiry _ | .turnWindowExpiry _ _
  | .expiredTurnLineIdle _ | .syncTurnExpiry _ | .recoverQuietExpiry _ | .snapshotWindowExpiry _
  | .selfReportFormed | .arbiterHandOff | .reportApplied | .confirmWindowExpiry _
  | .healHoldExpiry _ | .noticeDelayExpiry | .absoluteDelayExpiry | .relaxHoldExpiry
  | .adoptionWindowExpiry _ | .scanDue | .sampleComplete _ | .falling _ | .rising _
  | .parkedHoldExpiry | .mismatchTimerExpiry | .stationDrivesLine _ => true

end Sys2Proof
end

