-- ==== Sys2Proof/Tests/Slice0.lean ====
section
/-!
SUPPORT. Tests: ill-formed commands refused by WellFormed, states that meet the hypotheses of every statement (`meets_…`, one
clause after another), and one step of each kind with the values the rules give (`test_…`).
-/
open Sys2Proof Sys2Proof.Machine

set_option Elab.async false

/-! ### Small states -/

namespace Tests

/-- A device of the DUAL topology in a device state, everything else at reset. -/
def base (d : DeviceState) : State :=
  { State.reset with
    device := { Device.reset with state := d, topology := .dual }
    config := topologyDefaults .dual }

/-- A port in a port state. -/
def put (p : Station) (x : PortState) (s : State) : State := s.modPort p fun o => { o with state := x }

/-- The state after a command. -/
def after (c : Instr) (s : State) : State :=
  match exec c s with
  | .next t => t
  | .fault _ => s
  | .refused _ => s

/-- In RUN, port `p` in a turn. -/
def turn (p : Station) : State := put p .turn (base .run)

/-- In CONFIGURE, port `p` in a turn. -/
def setup (p : Station) : State := put p .turn (base .configure)

/-- A port in HOLD with a frame on the line. -/
def sends (p : Station) (f : OutFrame) (t : Bool) : State :=
  (base .run).modPort p fun o => { o with state := .hold, sending := some ⟨f, t, []⟩ }

/-- A report from FRONT of class 0 or another in FRONT_BRIDGE or another. -/
def report (zone : Fin 16) (cls : Fin 32) (present : Bool) : QReport := ⟨.front, zone, cls, present, none, 7, none⟩

/-- In RUN, with this report handed to the table. -/
def applying (r : QReport) : State := { base .run with faults := { (base .run).faults with applying := some r } }

/-- An entry of zone 3 and class 4 in a state of its life, FRONT present. -/
def fault (x : EntryState) : Entry :=
  { Entry.free with
    state := x, zone := 3, cls := 4, episode := 1, reportCount := 1
    witness := SourceSet.single .front, present := SourceSet.single .front }

/-- Every entry busy with a pair of its own in state `x`. -/
def full (x : EntryState) (s : State) : State :=
  { s with faults := { s.faults with
    entries := tabulate fun i => { Entry.free with state := x, zone := Fin.ofNat 16 (i.val % 16), cls := Fin.ofNat 32 (i.val / 16) } } }

/-- An assembly with `n` bytes to come and a buffer or none. -/
def fills (p : Station) (n : Nat) (b : Option (Fin 8)) (s : State) : State := s.setSlot p ⟨some ⟨n, 0, 0, b, 50⟩, .none⟩

end Tests

open Tests

/-! ### Commands that no environment sends -/

theorem test_wf_payload : (Instr.report .ride false (List.replicate 256 0)).wellFormed = false := by decide +kernel
theorem test_wf_payload_hello : (Instr.hello .ride false (List.replicate 256 0)).wellFormed = false := by decide +kernel
theorem test_wf_payload_255 : (Instr.report .ride false (List.replicate 255 0)).wellFormed = true := by decide +kernel
theorem test_wf_discard : (Instr.discardEntry .ride false [1]).wellFormed = false ∧
    (Instr.discardAllRetired .ride false [0, 3]).wellFormed = false := by decide
theorem test_wf_reads : (Instr.readTable .ride false [1, 3]).wellFormed = false ∧
    (Instr.readEntry .ride false [0, 0, 1]).wellFormed = false ∧ (Instr.readSnapshot .ride false [3]).wellFormed = false ∧
    (Instr.readEnvelope .ride false [4]).wellFormed = false ∧ (Instr.readMonitor .ride false [5]).wellFormed = false ∧
    (Instr.readOverflow .ride false [6]).wellFormed = false ∧ (Instr.readIdent .ride false [3]).wellFormed = false := by decide
theorem test_wf_records : (Instr.zoneRecord .ride false [1]).wellFormed = false ∧
    (Instr.classRecord .ride false [0]).wellFormed = false ∧ (Instr.levelRecord .ride false [3]).wellFormed = false ∧
    (Instr.responseRecord .ride false [2]).wellFormed = false ∧ (Instr.scanRecord .ride false [5]).wellFormed = false ∧
    (Instr.channelsRecord .ride false [4]).wellFormed = false ∧
    (Instr.comparatorRecord .ride false [7] 0).wellFormed = false ∧
    (Instr.timingRecord .ride false [8]).wellFormed = false ∧ (Instr.weightRecord .ride false [7]).wellFormed = false := by
  decide

/-! ### Hypotheses that some state meets -/

theorem meets_StepRunsTheFrontCommand :
    ({ base .run with pending := [.scanDue, .falling 37900] } : State).pending = .scanDue :: [.falling 37900] := rfl

theorem meets_IdleStepIsOneMillisecond : State.reset.pending = [] ∧ State.reset.device.state = .reset ∧
    (base .standby).pending = [] ∧ (base .standby).device.state ≠ .reset := by decide

theorem meets_ResetEndWithKeyLowEntersStandby : State.reset.device.state = .reset ∧ (base .run).device.state ≠ .reset := by
  decide

theorem meets_KeyHighEntersConfigure : (∀ p, (State.reset.port p).state = .offline) ∧ State.reset.device.state = .reset := by
  refine ⟨fun p => by cases p <;> decide, by decide⟩

/-- STANDBY with the key on for the debounce time. -/
def Tests.keyed : State :=
  { base .standby with device := { (base .standby).device with debounce := some 0, keyPin := true } }

theorem meets_KeyHighEntersConfigure_standby : (∀ p, (keyed.port p).state = .offline) ∧ keyed.device.state = .standby ∧
    keyed.device.debounce.isSome = true ∧ keyed.device.keyPin = true := by
  refine ⟨fun p => by cases p <;> decide, by decide, by decide, by decide⟩

/-- A device with the key off for the debounce time and a port in HOLD: a LATCHED entry with a complete snapshot, one whose
snapshot FRONT still fills, a CONFIRMED entry, a queued report with the buffer that REAR fills, and an ASSERTED slot. -/
def Tests.unkeyed (d : DeviceState) : State :=
  let s := put .front .hold ((((base d).setEntry 0 { fault .latched with snapshot := some 0 }).setEntry 1
    { fault .confirmed with cls := 5 }).setEntry 2 { fault .latched with cls := 6, snapshot := some 1 })
  let s := ((s.setBuffer 0 ⟨.entry 0, none, 60, List.replicate 60 7, true⟩).setBuffer 1
    ⟨.entry 2, some .front, 60, [], false⟩).setBuffer 2 ⟨.pending .rear, some .rear, 60, [], false⟩
  let s := (fills .front 60 (some 1) (fills .rear 60 (some 2) s)).setQueue .rear
    [{ report 4 4 true with source := .rear, buffer := some 2 }]
  { s with
    device := { s.device with debounce := some 0, keyPin := false }
    monitor := { s.monitor with filters := putAt s.monitor.filters 7 ⟨.asserted, 0, 2⟩ } }

/-- The same with a report in application. -/
def Tests.handedOver : State :=
  { unkeyed .run with faults := { (unkeyed .run).faults with applying := some (report 3 4 true) } }

/-- The pool and the assemblies agree, found port by port and buffer by buffer. -/
theorem Tests.fits {s : State}
    (buffers : ∀ b, (s.buffer b).data.length ≤ 240 ∧
      ((s.buffer b).owner = .free → (s.buffer b).data = [] ∧ (s.buffer b).writer = none))
    (slots : ∀ p ∈ stations, (s.slot p).assembly.all (fun a => decide (a.received ≤ a.expected ∧ a.expected ≤ 240) &&
      a.buffer.all fun b => decide ((s.buffer b).writer = some p ∧ (s.buffer b).data.length = a.received)) = true)
    (writers : ∀ b, (s.buffer b).writer.all (fun p =>
      (s.slot p).assembly.any fun a => decide (a.buffer = some b)) = true) : SnapshotsFit s := by
  refine ⟨fun b => (buffers b).1, fun b => (buffers b).2, fun p a h => ?_, fun b p h => ?_⟩
  · have key := slots p (by cases p <;> decide)
    rw [h] at key
    simp only [Option.all_some, Bool.and_eq_true, decide_eq_true_eq] at key
    refine ⟨key.1.1, key.1.2, fun b hb => ?_⟩
    have last := key.2
    rw [hb] at last
    simpa using last
  · have key := writers b
    rw [h] at key
    cases e : (s.slot p).assembly with
    | none => simp [e] at key
    | some a => exact ⟨a, rfl, by simpa [e] using key⟩

theorem meets_KeyOffPurgesEveryBlock :
    ((unkeyed .run).device.state = .configure ∨ (unkeyed .run).device.state = .run) ∧
    (unkeyed .run).device.debounce.isSome = true ∧ (unkeyed .run).device.keyPin = false ∧
    (unkeyed .run).faults.applying = none ∧ ParkedAgrees (unkeyed .run) ∧ (unkeyed .configure).device.state = .configure ∧
    ((unkeyed .run).port .front).state ≠ .offline ∧ ((unkeyed .run).port .rear).state = .offline ∧
    ((unkeyed .run).slot .ride).assembly = none ∧ ((unkeyed .run).slot .front).assembly = some ⟨60, 0, 0, some 1, 50⟩ ∧
    (((unkeyed .run).entry 0).state = .latched ∧ ((unkeyed .run).entry 0).snapshot = some 0 ∧
      ((unkeyed .run).buffer 0).writer = none) ∧ ((unkeyed .run).entry 1).state ≠ .latched ∧
    (((unkeyed .run).entry 2).state = .latched ∧ ((unkeyed .run).entry 2).snapshot = some 1 ∧
      ((unkeyed .run).buffer 1).writer = some .front) ∧
    ((unkeyed .run).buffer 2).owner = .pending .rear ∧ ((unkeyed .run).buffer 3).owner = .free ∧
    ((unkeyed .run).filter 7).state = .asserted ∧ ((unkeyed .run).filter 0).state ≠ .asserted ∧
    Tests.handedOver.faults.applying = some (report 3 4 true) ∧ ParkedAgrees Tests.handedOver := by
  unfold ParkedAgrees
  decide +kernel

theorem meets_KeyOffPurgesEveryBlock_pool : SnapshotsFit (unkeyed .run) ∧ BuffersOwned (unkeyed .run) ∧
    SnapshotsFit Tests.handedOver ∧ BuffersOwned Tests.handedOver := by
  refine ⟨Tests.fits (by decide +kernel) (by decide +kernel) (by decide +kernel), ?_,
    Tests.fits (by decide +kernel) (by decide +kernel) (by decide +kernel), ?_⟩
  all_goals
    unfold BuffersOwned
    decide +kernel

/-- The configure window runs; with every level ceiling 0 but that of L5 the level table is not monotone. -/
def Tests.window (bad : Bool) : State :=
  let c := (base .configure).config
  { base .configure with
    device := { (base .configure).device with configureWindow := some 0 }
    config := if bad then { c with levels := putAt c.levels 0 ⟨0, 1⟩ } else c }

theorem meets_ConfigureWindowExpiryEntersRun (bad : Bool) : (window bad).device.state = .configure ∧
    (window bad).device.configureWindow.isSome = true ∧ ((window bad).cond 23).asserted = false := by
  cases bad <;> decide +kernel

theorem meets_ConfigureWindowExpiryEntersRun_checks :
    firstFailed (window false).device.topology (window false).config = none ∧
    (firstFailed (window true).device.topology (window true).config).isSome = true := by decide +kernel

/-- With the comparator asserted or not, record 8 as it is, and a scan in progress. -/
def Tests.watching (under : Bool) : State :=
  let s := window true
  { s with
    monitor := { s.monitor with comparator := under, scan := [.alone 6], scanTimer := some 5 }
    intake := { s.intake with conds := putAt s.intake.conds 8 ⟨under, none, false⟩ } }

theorem meets_ConfigureWindowExpiryEntersRun_comparator : (∀ x, (Tests.watching x).device.state = .configure ∧
      (Tests.watching x).device.configureWindow.isSome = true ∧ ((Tests.watching x).cond 23).asserted = false ∧
      (firstFailed (Tests.watching x).device.topology (Tests.watching x).config).isSome = true ∧
      ((Tests.watching x).cond 8).asserted = (Tests.watching x).monitor.comparator ∧
      (Tests.watching x).monitor.comparator = x) ∧ (37999 < 1000 * 38 ∧ ¬38000 < 1000 * 38) ∧
    (39000 ≤ 1000 * (38 + 1) ∧ ¬39001 ≤ 1000 * (38 + 1)) := by decide +kernel

/-- A COMMIT in a turn of RIDE. -/
def Tests.committing (bad : Bool) : State := put .ride .turn (window bad)

theorem meets_CommitIsJudgedInOrder : (turn .ride).takes .ride ∧ (turn .ride).device.state ≠ .configure ∧
    (setup .rear).takes .rear ∧ (setup .rear).device.state = .configure ∧ ([0] : List Byte) ≠ [] ∧ Station.rear ≠ .ride ∧
    (committing false).takes .ride ∧ (committing false).device.state = .configure ∧
    firstFailed (committing false).device.topology (committing false).config = none ∧ (committing true).takes .ride ∧
    (firstFailed (committing true).device.topology (committing true).config).isSome = true := by
  unfold State.takes
  decide +kernel

theorem meets_RequestHeartbeatAndRecovery :
    (((base .run).modPort .ride fun o => { o with heartbeat := some 0 }).port .ride).heartbeat.isSome = true ∧
    ((put .pack .recover (base .run)).port .pack).state = .recover ∧ Station.pack ≠ .front ∧ Station.pack ≠ .rear ∧
    ((put .front .recover (base .run)).port .front).state = .recover := by decide +kernel

/-- A port in SYNC, a SYNC on the line or a sync turn open. -/
def Tests.syncing (sending opened : Bool) : State :=
  (base .run).modPort .front fun o =>
    { o with state := .sync, syncTurn := opened, sending := if sending then some ⟨.sync, true, []⟩ else none }

theorem meets_SyncFramesOpenSyncTurns : (∀ a b, ((syncing a b).port .front).state = .sync) ∧
    ((syncing false false).port .front).sending = none ∧ ((syncing false false).port .front).syncTurn = false ∧
    ((syncing true false).port .front).sending.isSome = true ∧ ((syncing false true).port .front).syncTurn = true ∧
    ((2 : Byte).toNat ≠ Station.front.index.val ∨ (31 : Byte).toNat < 32) ∧ (31 : Byte).toNat < 32 := by
  decide +kernel

theorem meets_HelloSynchronisesOrRestarts : ((syncing false true).port .front).state = .sync ∧
    ((syncing false true).port .front).syncTurn = true ∧ (1 : Byte).toNat = Station.front.index.val ∧
    32 ≤ (32 : Byte).toNat ∧ (turn .front).takes .front ∧ (2 : Byte).toNat ≠ Station.front.index.val ∧
    (31 : Byte).toNat < 32 := by
  unfold State.takes
  decide +kernel

theorem meets_StatusIsKeptOrDiscarded : (turn .ride).takes .ride ∧ (turn .front).takes .front ∧ (turn .pack).takes .pack ∧
    parseStatus .ride [100, 1] = some (.ride 100 true) ∧ parseStatus .ride [101, 1] = none ∧
    parseStatus .front [3, 0xE8, 7] = some (.inverter 1000 7) ∧ parseStatus .front [3, 0xE9, 7] = none ∧
    parseStatus .rear [0, 0, 0x80] = some (.inverter 0 0x80) ∧ parseStatus .ride [100, 2] = none ∧
    parseStatus .pack [3, 0xE8, 0, 0, 100] = some (.pack 1000 0 100) ∧ parseStatus .pack [3, 0xE9, 0, 0, 100] = none ∧
    parseStatus .pack [3, 0xE8, 0, 0, 101] = none := by
  unfold State.takes
  decide +kernel

theorem meets_TurnFlagEndsTheTurn : ((turn .rear).port .rear).state = .turn ∧ ((turn .rear).port .rear).turnExpired = false ∧
    (frameCommands .rear true [] 0).zip (frameCommands .rear false [] 0) ≠ [] := by decide +kernel

/-- A turn whose window runs, or has expired. -/
def Tests.turned (expired : Bool) : State :=
  (turn .ride).modPort .ride fun o => { o with turnWindow := some 0, turnExpired := expired }

theorem meets_TurnsEndWithTheirReceipt : ((turned false).port .ride).state = .turn ∧
    ((turned false).port .ride).turnWindow.isSome = true ∧ ((turned true).port .ride).state = .turn ∧
    ((turned true).port .ride).turnExpired = true ∧ ((turned false).port .ride).turnExpired = false ∧
    ((turned false).port .ride).gotStatus = false ∧ ((turned false).port .ride).verdicts = [] ∧
    ((turned false).port .ride).discards = 0 ∧
    (({ (turned false).port .ride with discards := 1 } : Port).verdicts ≠ [] ∨
      0 < ({ (turned false).port .ride with discards := 1 } : Port).discards) ∧
    (turned false).config.timing.silenceLimit ≤
      (if ({ (turned false).port .ride with silent := 2 } : Port).silent < 255 then 2 + 1 else 255) := by decide +kernel

theorem meets_FramesThatNoBlockTakes :
    ((put .pack .hold (base .run)).port .pack).state = .hold ∧ ((put .pack .hold (base .run)).port .pack).sending = none ∧
    ((put .pack .recover (base .run)).port .pack).state = .recover ∧ ((base .run).port .pack).state = .offline ∧
    16 ≤ (((turn .pack).modPort .pack fun o => { o with frames := 16 }).port .pack).frames ∧
    ((turn .pack).port .pack).state = .turn ∧ ((turn .pack).port .pack).turnExpired = false ∧
    ((syncing false true).port .front).state = .sync ∧ ((syncing false true).port .front).syncTurn = true ∧
    ((sends .pack .grant true).port .pack).state = .hold ∧ DiscardCause.badCrc ≠ .badLength .hello true := by
  decide +kernel

theorem meets_ContentionCutsTheFrameOff : ((sends .rear .grant true).port .rear).state = .hold ∧
    ((sends .rear .grant true).port .rear).sending = some ⟨.grant, true, []⟩ ∧
    ((sends .rear .grant true).port .rear).contentions + 1 < 3 ∧
    3 ≤ (((sends .rear .grant true).modPort .rear fun o => { o with contentions := 2 }).port .rear).contentions + 1 ∧
    ((sends .ride (.envelope (base .run).ladder.published) true).port .ride).sending =
      some ⟨.envelope (base .run).ladder.published, true, []⟩ ∧ ((sends .rear .grant true).port .rear).grantDue = false ∧
    (((sends .rear .grant true).modPort .rear fun o => { o with grantDue := true }).port .rear).grantDue = true := by
  decide +kernel

/-- A port in HOLD with what waits in its list. -/
def Tests.waits (f : Port → Port) : State := (put .ride .hold (base .run)).modPort .ride f

theorem meets_OutboundArbiterOrder : ((base .run).port .ride).state ≠ .hold ∧
    ((sends .ride .grant true).port .ride).sending.isSome = true ∧ ((waits id).port .ride).state = .hold ∧
    ((waits id).port .ride).sending = none ∧
    ((waits fun o => { o with envelope := some (base .run).ladder.published }).port .ride).envelope =
      some (base .run).ladder.published ∧
    ((waits fun o => { o with receipts := [⟨[], 1, 8, false, .none⟩] }).port .ride).receipts = [⟨[], 1, 8, false, .none⟩] ∧
    ((waits fun o => { o with replies := [.ident] }).port .ride).replies = [.ident] ∧
    ((waits fun o => { o with notice := true }).port .ride).notice = true ∧
    ((waits fun o => { o with grantDue := true }).port .ride).grantDue = true ∧ ((waits id).port .ride).grantDue = false ∧
    ((waits id).port .ride).envelope = none ∧ ((waits id).port .ride).receipts = [] ∧ ((waits id).port .ride).replies = [] ∧
    ((waits id).port .ride).notice = false := by decide +kernel

theorem meets_SentFramesOpenTurns : ((sends .ride .grant true).port .ride).state = .hold ∧
    ((sends .ride .grant true).port .ride).sending = some ⟨.grant, true, []⟩ ∧
    ((sends .ride (.receipt ⟨[], 1, 8, false, .none⟩) false).port .ride).sending =
      some ⟨.receipt ⟨[], 1, 8, false, .none⟩, false, []⟩ ∧
    ((sends .ride (.readReply .ident) true).port .ride).sending = some ⟨.readReply .ident, true, []⟩ ∧
    ((sends .ride (.notice true) false).port .ride).sending = some ⟨.notice true, false, []⟩ := by decide +kernel

/-- A port in HOLD that sends the ENVELOPE of the generation it owes, its window in a state. -/
def Tests.enveloping (x : WindowState) (lapsed owing : Bool) : State :=
  (sends .front (.envelope (base .run).ladder.published) true).setAdoption .front ⟨0, owing, x, none, false, lapsed⟩

theorem meets_EnvelopeSentStartsTheAdoptionWindow :
    ((enveloping .idle false true).port .front).sending = some ⟨.envelope (base .run).ladder.published, true, []⟩ ∧
    ((enveloping .idle false true).port .front).state = .hold ∧
    (base .run).ladder.published.generation = (enveloping .idle false true).publication.counter ∧
    ((enveloping .idle false true).adoption .front).owing = true ∧
    ((enveloping .idle false true).adoption .front).window = .idle ∧
    ((enveloping .idle false true).adoption .front).lapsed = false ∧
    ((enveloping .resent false true).adoption .front).window = .resent ∧
    ((enveloping .resent false true).adoption .front).timer = none ∧
    ((enveloping .idle true true).adoption .front).lapsed = true ∧
    ((enveloping .waiting false true).adoption .front).window = .waiting ∧
    ((enveloping .idle false false).adoption .front).owing = false := by decide +kernel

/-- A REPORT of zone 3, class 4, PRESENT, from FRONT in its turn; `s` may have other records. -/
def Tests.changed (f : Tables → Tables) : State := { turn .front with config := f (turn .front).config }

theorem meets_ReportIsJudgedInOrder : (setup .front).takes .front ∧ (setup .front).running = false ∧
    (turn .front).takes .front ∧ (turn .front).running = true ∧ ([3, 4, 1, 0, 0] : List Byte).length ≠ 6 ∧
    16 ≤ (16 : Byte).toNat ∧ 32 ≤ (32 : Byte).toNat ∧ 8 ≤ (8 : Byte).toNat ∧
    ((4 : Byte).getLsbD 2 = true ∧ ((0 : Byte).toNat = 0 ∨ 240 < (0 : Byte).toNat)) ∧
    ((4 : Byte).getLsbD 2 = true ∧ ((241 : Byte).toNat = 0 ∨ 240 < (241 : Byte).toNat)) ∧
    ((7 : Byte).getLsbD 2 = true → 1 ≤ (240 : Byte).toNat ∧ (240 : Byte).toNat ≤ 240) ∧
    ((3 : Byte).getLsbD 2 = false) := by
  unfold State.takes
  decide +kernel

theorem meets_ReportIsJudgedInOrder_checks :
    ((turn .front).classOf 31).assigned = false ∧ ((turn .front).classOf 4).assigned = true ∧
    ((Tests.changed fun c => { c with zones := (topologyDefaults .rearOnly).zones }).zoneOf 3).valid = false ∧
    ((turn .front).zoneOf 3).valid = true ∧ ((turn .front).zoneOf 6).reporters.has .front = false ∧
    ((turn .front).zoneOf 3).reporters.has .front = true ∧
    8 ≤ (((turn .front).setQueue .front (List.replicate 8 (report 3 4 true))).queue .front).length ∧
    ((turn .front).queue .front).length < 8 := by decide +kernel

/-- Every buffer lent. -/
def Tests.lentOut : State :=
  { turn .front with pool := mapTable (fun b => { b with owner := .pending .ride }) (turn .front).pool }

theorem meets_AnnouncingReportBorrowsABuffer : (turn .front).takes .front ∧ (turn .front).running = true ∧
    parseReport [3, 4, 5, 0, 0, 240] = some ⟨3, 4, true, none, some 240⟩ ∧ ((turn .front).slot .front).assembly = none ∧
    (turn .front).pairRefusal Station.front.source 3 4 = none ∧ ((turn .front).queue .front).length < 8 ∧
    ((turn .front).buffer 0).owner = .free ∧ (∀ b' < (0 : Fin 8), ((turn .front).buffer b').owner ≠ .free) ∧
    (∀ b, (Tests.lentOut.buffer b).owner ≠ .free) ∧ Tests.lentOut.takes .front ∧
    Tests.lentOut.pairRefusal Station.front.source 3 4 = none := by
  unfold State.takes
  decide +kernel

/-- A turn of FRONT with an assembly open. -/
def Tests.filling (n : Nat) (b : Option (Fin 8)) : State :=
  fills .front n b ((turn .front).setBuffer 2 ⟨.pending .front, some .front, n, [], false⟩)

theorem meets_SnapshotSegmentCases : (setup .front).takes .front ∧ (setup .front).running = false ∧
    (Tests.filling 60 none).takes .front ∧ (Tests.filling 60 (some 2)).takes .front ∧ (turn .front).running = true ∧
    ([0] : List Byte).length < 2 ∧ 61 < (List.replicate 62 (0 : Byte)).length ∧ 3 < (4 : Byte).toNat ∧
    ((turn .front).slot .front).assembly = none ∧
    ((Tests.filling 60 none).slot .front).assembly = some ⟨60, 0, 0, none, 50⟩ ∧
    ((Tests.filling 60 (some 2)).slot .front).assembly = some ⟨60, 0, 0, some 2, 50⟩ ∧
    1 ≤ (List.replicate 60 (0 : Byte)).length ∧ (List.replicate 60 (0 : Byte)).length ≤ 60 ∧
    0 + (List.replicate 60 (0 : Byte)).length = 60 ∧ (0 : Byte).toNat = 0 ∧ (1 : Byte).toNat ≠ 0 ∧
    59 < 0 + (List.replicate 60 (0 : Byte)).length := by
  unfold State.takes
  decide +kernel

theorem meets_SnapshotWindowExpiryTruncates : ((Tests.filling 60 none).slot .front).assembly.isSome = true ∧
    ((Tests.filling 60 (some 2)).slot .front).assembly = some ⟨60, 0, 0, some 2, 50⟩ ∧
    ((Tests.filling 60 (some 2)).buffer 2).owner = .pending .front ∧
    (((Tests.filling 60 (some 2)).setBuffer 2 ⟨.entry 0, some .front, 60, [], false⟩).buffer 2).owner = .entry 0 := by
  decide +kernel

/-- In RUN with condition record `k` asserted and unsent. -/
def Tests.unsent (k : Fin 24) : State :=
  { base .run with intake := { (base .run).intake with conds := putAt (base .run).intake.conds k ⟨true, none, true⟩ } }

theorem meets_SelfReportIsFormed : (Tests.unsent 23).running = true ∧ ((Tests.unsent 23).queue .self).length < 8 ∧
    ((Tests.unsent 23).cond 23).unsent = true ∧ (∀ j < (23 : Fin 24), ((Tests.unsent 23).cond j).unsent = false) ∧
    ((Tests.unsent 23).zoneOf (condPair (Tests.unsent 23).config 23).1).reporters.self = true ∧
    ((Tests.unsent 23).zoneOf (condPair (Tests.unsent 23).config 23).1).valid = true ∧
    ((Tests.unsent 23).classOf (condPair (Tests.unsent 23).config 23).2).assigned = true ∧
    ((topologyDefaults .rearOnly).zones[(condPair (topologyDefaults .rearOnly) 11).1]).valid = true ∧
    ((topologyDefaults .rearOnly).zones[(condPair (topologyDefaults .rearOnly) 12).1]).valid = false := by
  decide +kernel

/-- In RUN with `n` reports in the queue of FRONT. -/
def Tests.queued (n : Nat) (current : Option Source) : State :=
  let s := (base .run).setQueue .front (List.replicate n (report 3 4 true))
  { s with intake := { s.intake with current := current, allowance := 2 } }

theorem meets_ArbiterHandsTheChosenHead : (Tests.queued 6 none).running = true ∧
    (Tests.queued 6 none).faults.applying = none ∧
    (Tests.queued 6 none).queue .front = report 3 4 true :: List.replicate 5 (report 3 4 true) ∧
    (Tests.queued 6 none).intake.current = none ∧ 6 ≤ ((Tests.queued 6 none).queue .front).length ∧
    (∀ x ∈ [Source.self], ((Tests.queued 6 none).queue x).length < ((Tests.queued 6 none).queue .front).length) ∧
    (∀ x ∈ [Source.rear, .pack, .ride],
      ((Tests.queued 6 none).queue x).length ≤ ((Tests.queued 6 none).queue .front).length) ∧
    (Tests.queued 5 (some .front)).intake.current = some .front ∧
    (∀ x ∈ [Source.self, .front, .rear, .pack, .ride], ((Tests.queued 5 none).queue x).length < 6) ∧
    rotationAfter (Tests.queued 5 none).intake.rotation = [Source.self] ++ Source.front :: [.rear, .pack, .ride] ∧
    (∀ x ∈ [Source.self], (Tests.queued 5 none).queue x = []) := by decide +kernel

theorem meets_PresentReportOpensAnEntry :
    (applying (report 3 4 true)).faults.applying = some (report 3 4 true) ∧ (report 3 4 true).present = true ∧
    (∀ i, ((applying (report 3 4 true)).entry i).state ≠ .free →
      ¬(((applying (report 3 4 true)).entry i).zone = 3 ∧ ((applying (report 3 4 true)).entry i).cls = 4)) ∧
    ((applying (report 3 4 true)).entry 0).state = .free ∧
    (∀ i < (0 : Fin 48), ((applying (report 3 4 true)).entry i).state ≠ .free) := by decide +kernel

/-- The table full of RETIRED entries, of which entry 5 is the oldest and holds snapshot 2 or none; the report of zone 3 and
class 4 has buffer 6 bound to it, or none. -/
def Tests.retiredOut (bound held : Option (Fin 8)) : State :=
  let s := full .retired (applying { report 3 4 true with buffer := bound })
  { s with
    device := { s.device with clock := 9 }
    faults := { s.faults with
      entries := tabulate fun i => if i = 5 then { s.faults.entries[i] with stateSince := 1, snapshot := held }
        else { s.faults.entries[i] with stateSince := 5 } } }

theorem meets_PresentReportOpensAnEntry_reclaim : ∀ bound ∈ [none, some 6], ∀ held ∈ [none, some 2],
    let s := Tests.retiredOut bound held
    (∀ i, (s.entry i).state ≠ .free) ∧ (s.entry 5).state = .retired ∧ (s.entry 5).snapshot = held ∧
    s.faults.applying = some { report 3 4 true with buffer := bound } ∧ s.running = true ∧
    (∀ i, ¬((s.entry i).zone = 3 ∧ (s.entry i).cls = 4)) ∧
    (∀ i, (s.device.clock - (s.entry i).stateSince).toNat ≤ (s.device.clock - (s.entry 5).stateSince).toNat) ∧
    (∀ i < (5 : Fin 48),
      (s.device.clock - (s.entry i).stateSince).toNat < (s.device.clock - (s.entry 5).stateSince).toNat) := by
  decide +kernel

/-- The same where FRONT still fills the snapshot of entry 5. -/
def Tests.stillFilling : State :=
  fills .front 60 (some 2) ((Tests.retiredOut none (some 2)).setBuffer 2 ⟨.entry 5, some .front, 60, [], false⟩)

theorem meets_PresentReportOpensAnEntry_reclaim_slots : (Tests.stillFilling.entry 5).snapshot = some 2 ∧
    (Tests.stillFilling.buffer 2).writer = some .front ∧
    (Tests.stillFilling.slot .front).assembly = some ⟨60, 0, 0, some 2, 50⟩ ∧
    Tests.stillFilling.faults.applying = some (report 3 4 true) ∧ (Tests.stillFilling.entry 5).state = .retired ∧
    (∀ i, (Tests.stillFilling.entry i).state ≠ .free) := by decide +kernel

theorem meets_PresentReportOverflows :
    (full .confirmed (applying (report 3 4 true))).faults.applying = some (report 3 4 true) ∧
    (∀ i, ((full .confirmed (applying (report 3 4 true))).entry i).state ≠ .free ∧
      ((full .confirmed (applying (report 3 4 true))).entry i).state ≠ .retired ∧
      ¬(((full .confirmed (applying (report 3 4 true))).entry i).zone = 3 ∧
        ((full .confirmed (applying (report 3 4 true))).entry i).cls = 4)) ∧
    (full .confirmed (applying (report 3 4 true))).running = true ∧
    (full .confirmed (applying (report 3 4 true))).faults.overflow[cellOf 3 4] = false := by decide +kernel

/-- A report of zone 3 and class 4 for the entry 0 in a state. -/
def Tests.landing (x : EntryState) (present : Bool) : State := (applying (report 3 4 present)).setEntry 0 (fault x)

/-- The same with buffer 2, which FRONT still fills, bound to the report, and a CONFIRMED entry 0 with a snapshot or none. -/
def Tests.bound (present : Bool) : State :=
  let s := (fills .front 60 (some 2) ((base .run).setBuffer 2 ⟨.pending .front, some .front, 60, [], false⟩))
  { s with faults := { s.faults with applying := some { report 3 4 present with buffer := some 2 } } }

def Tests.holding (held : Option (Fin 8)) (present : Bool) : State :=
  (Tests.bound present).setEntry 0 { fault .confirmed with snapshot := held }

theorem meets_PresentReportOnAnActiveEntry :
    (∀ x ∈ [EntryState.suspect, .confirmed, .healing, .latched, .retired],
      (Tests.landing x true).faults.applying = some (report 3 4 true) ∧
      (Tests.landing x true).faults.lookup 3 4 = some 0 ∧ ((Tests.landing x true).entry 0).state = x) ∧
    (report 3 4 true).present = true ∧ (Tests.landing .confirmed true).running = true ∧
    (Tests.bound true).faults.applying = some { report 3 4 true with buffer := some 2 } ∧
    (∀ held ∈ [none, some 5], ((Tests.holding held true).entry 0).snapshot = held ∧
      (Tests.holding held true).faults.lookup 3 4 = some 0) ∧
    ((Tests.landing .suspect true).classOf 4).confirmCount ≤ 2 ∧ 2 < ((Tests.landing .suspect true).classOf 1).confirmCount ∧
    ((SourceSet.single .front).insert .front).size < 2 ∧ 2 ≤ ((SourceSet.single .rear).insert .front).size := by
  decide +kernel

theorem meets_AbsentReportWithdrawsItsSource :
    (applying (report 3 4 false)).faults.applying = some (report 3 4 false) ∧
    (applying (report 3 4 false)).faults.lookup 3 4 = none ∧ (report 3 4 false).present = false ∧
    (∀ x ∈ [EntryState.suspect, .confirmed, .healing, .latched, .retired],
      (Tests.landing x false).faults.applying = some (report 3 4 false) ∧
      (Tests.landing x false).faults.lookup 3 4 = some 0 ∧ ((Tests.landing x false).entry 0).state = x ∧
      ((Tests.landing x false).entry 0).present.has .front = true ∧
      ((Tests.landing x false).entry 0).present.remove .front = SourceSet.empty) ∧
    (Tests.bound false).faults.lookup 3 4 = none ∧ ((Tests.bound false).buffer 2).writer = some .front ∧
    ((Tests.bound false).slot .front).assembly = some ⟨60, 0, 0, some 2, 50⟩ ∧
    0 < ((Tests.landing .confirmed false).classOf 4).healHold ∧ ((Tests.landing .confirmed false).classOf 0).healHold = 0 ∧
    (SourceSet.single .rear).has .front = false ∧ ((SourceSet.single .rear).insert .front).remove .front ≠ SourceSet.empty := by
  decide +kernel

theorem meets_FaultTableTimersExpire :
    (((base .run).setEntry 47 { fault .suspect with timer := .confirm 0 }).entry 47).timer = .confirm 0 ∧
    (((base .run).setEntry 47 { fault .healing with timer := .heal 0 }).entry 47).timer = .heal 0 ∧
    ({ (base .run).faults with noticeDelay := some 0, absoluteDelay := some 80 } : FaultTable).noticeDelay.isSome = true ∧
    ({ (base .run).faults with noticeDelay := some 0, absoluteDelay := some 80 } : FaultTable).absoluteDelay.isSome = true := by
  decide +kernel

/-- A turn of `p` with entry 47 in a state, its source present or withdrawn, the vehicle PARKED or not. -/
def Tests.clearing (p : Station) (x : EntryState) (still parked : Bool) : State :=
  let s := (turn p).setEntry 47 { fault x with present := if still then SourceSet.single .front else SourceSet.empty }
  { s with faults := { s.faults with parked := parked } }

theorem meets_ClearIsJudgedInOrder : (setup .ride).takes .ride ∧ (setup .ride).running = false ∧
    (turn .ride).takes .ride ∧ (turn .ride).running = true ∧
    (¬∃ i : Byte, i.toNat < 48 ∧ ([2] : List Byte) = [0, i]) ∧
    (¬∃ z c : Byte, z.toNat < 16 ∧ c.toNat < 32 ∧ ([2] : List Byte) = [1, z, c]) ∧
    (∀ i, ((turn .ride).entry i).state ≠ .free →
      ¬(((turn .ride).entry i).zone.val = (15 : Byte).toNat ∧ ((turn .ride).entry i).cls.val = (31 : Byte).toNat)) ∧
    ([0, 47] : List Byte) = [0, BitVec.ofNat 8 (47 : Fin 48).val] ∧ ((turn .ride).entry 47).state = .free ∧
    ((Tests.clearing .rear .latched false true).zoneOf 3).owner ≠ .rear ∧ (Tests.clearing .rear .latched false true).takes .rear ∧
    ((Tests.clearing .front .latched false true).zoneOf 3).owner = .front ∧ (Tests.clearing .front .latched false true).takes .front ∧
    ((Tests.clearing .ride .confirmed false true).entry 47).state ≠ .latched ∧
    (Tests.clearing .ride .latched false false).faults.parked = false ∧
    ((Tests.clearing .ride .latched true true).entry 47).present ≠ SourceSet.empty ∧
    (Tests.clearing .ride .latched false true).takes .ride ∧ (Tests.clearing .ride .latched false true).running = true ∧
    ((Tests.clearing .ride .latched false true).entry 47).state = .latched ∧
    (Tests.clearing .ride .latched false true).faults.parked = true ∧
    ((Tests.clearing .ride .latched false true).entry 47).present = SourceSet.empty ∧
    (∀ i, i ≠ 47 → ((Tests.clearing .ride .latched false true).entry i).state ≠ .free →
      ¬(((Tests.clearing .ride .latched false true).entry i).zone.val = (3 : Byte).toNat ∧
        ((Tests.clearing .ride .latched false true).entry i).cls.val = (4 : Byte).toNat)) := by
  unfold State.takes
  refine ⟨by decide +kernel, by decide +kernel, by decide +kernel, by decide +kernel, by simp, by simp, ?_⟩
  decide +kernel

theorem meets_DiscardFreesRetiredEntries : (setup .ride).takes .ride ∧ (setup .ride).running = false ∧
    (turn .pack).takes .pack ∧ (turn .pack).running = true ∧ Station.pack ≠ .ride ∧
    (¬∃ i : Byte, i.toNat < 48 ∧ ([0, 48] : List Byte) = [0, i]) ∧ ([0, 48] : List Byte) ≠ [1] ∧
    ([0, 47] : List Byte) = [0, BitVec.ofNat 8 (47 : Fin 48).val] ∧ (turn .ride).takes .ride ∧
    ((turn .ride).entry 47).state ≠ .retired ∧ ((Tests.clearing .ride .retired false false).entry 47).state = .retired ∧
    (Tests.clearing .ride .retired false false).takes .ride := by
  unfold State.takes
  refine ⟨by decide +kernel, by decide +kernel, by decide +kernel, by decide +kernel, by decide, ?_, ?_⟩
  · rintro ⟨i, h, e⟩
    simp at e
    subst e
    exact absurd h (by decide)
  · decide +kernel

/-- A turn of RIDE with entry 47 RETIRED and its snapshot still filled by FRONT. -/
def Tests.discarding : State :=
  let s := (Tests.clearing .ride .retired false false)
  fills .front 60 (some 2) ((s.setEntry 47 { s.entry 47 with snapshot := some 2 }).setBuffer 2
    ⟨.entry 47, some .front, 60, [], false⟩)

theorem meets_DiscardFreesRetiredEntries_slots : Tests.discarding.takes .ride ∧ Tests.discarding.running = true ∧
    (Tests.discarding.entry 47).state = .retired ∧ (Tests.discarding.entry 47).snapshot = some 2 ∧
    (Tests.discarding.buffer 2).writer = some .front ∧
    (Tests.discarding.slot .front).assembly = some ⟨60, 0, 0, some 2, 50⟩ := by
  unfold State.takes
  decide +kernel

/-- A turn of RIDE with the vehicle PARKED or not and cell 63 set or not. -/
def Tests.overflowing (parked set : Bool) : State :=
  { turn .ride with faults := { (turn .ride).faults with
      parked := parked, overflow := putAt (turn .ride).faults.overflow 63 set } }

theorem meets_ClearOverflowEmptiesTheMap : (setup .ride).takes .ride ∧ (setup .ride).running = false ∧
    (turn .pack).takes .pack ∧ (turn .pack).running = true ∧ Station.pack ≠ .ride ∧ ([0] : List Byte) ≠ [] ∧
    (Tests.overflowing false true).faults.parked = false ∧ (Tests.overflowing true true).faults.parked = true ∧
    (Tests.overflowing true true).takes .ride ∧ (∃ c : Fin 64, (Tests.overflowing true true).faults.overflow[c] = true) := by
  unfold State.takes
  decide +kernel

/-- In RUN with the relax hold over, level L2 published and the target a level lower or the same, adopted or not. -/
def Tests.relaxing (lower adopted : Bool) : State :=
  let pub : Limits := ⟨2, .drive, .drive, true, 100, false⟩
  let tgt : Limits := ⟨if lower then 1 else 2, .drive, .drive, true, 100, false⟩
  let s := base .run
  { s with
    ladder := { s.ladder with
      published := { s.ladder.published with limits := pub }
      target := { s.ladder.target with limits := tgt }
      relax := .holding
      hold := some 0 }
    publication := { s.publication with complete := adopted } }

theorem meets_RelaxHoldExpiryTakesOneStep : (Tests.relaxing true true).ladder.hold.isSome = true ∧
    (Tests.relaxing true true).running = true ∧ (Tests.relaxing true true).publication.complete = true ∧
    (Tests.relaxing true true).ladder.published.limits.level.val < 4 ∧
    (Tests.relaxing true true).ladder.published.limits.someStricter
      (Limits.step false (Tests.relaxing true true).ladder.published.limits (Tests.relaxing true true).ladder.target.limits) = true ∧
    (Tests.relaxing true true).ladder.target.limits =
      Limits.step false (Tests.relaxing true true).ladder.published.limits (Tests.relaxing true true).ladder.target.limits ∧
    (Tests.relaxing true false).ladder.hold.isSome = true ∧ (Tests.relaxing true false).publication.complete ≠ true := by
  decide +kernel

theorem meets_RelaxationStepLoosensFieldByField :
    let l5 : Limits := ⟨5, .cut, .cut, false, 50, true⟩
    let l0 : Limits := ⟨0, .drive, .drive, true, 100, false⟩
    l5.front ≠ .absent ∧ l0.front ≠ .absent ∧ l5.packOpen = true ∧ l0.packOpen = false ∧ l0.packOpen = l0.packOpen ∧
    (Limits.step false l5 l0).front ≠ .drive ∧ (Limits.step false l5 l0).rear ≠ .drive ∧ l0.level.val < l5.level.val ∧
    (Limits.step false ⟨2, .drive, .regenOnly, true, 100, false⟩ l0).front = .drive ∧
    l0.level.val ≤ (Limits.step false l0 l5).level.val ∧ (Limits.step false l0 l5).front = .drive := by decide +kernel

/-- A turn of FRONT with generation `g` published, which FRONT and perhaps REAR owe. -/
def Tests.owed (g : Nat) (rear silent : Bool) : State :=
  let s := turn .front
  { s with publication :=
    { counter := g
      members := ⟨false, true, rear, false⟩
      complete := false
      records := ⟨⟨0, false, .idle, none, false, false⟩, ⟨0, true, .waiting, some 3, silent, false⟩,
        ⟨0, rear, .waiting, some 3, false, false⟩, ⟨0, false, .idle, none, false, false⟩⟩ } }

/-- FRONT alone owes generation 258, level L2 is published with a target of L1, and relaxation is due or not. -/
def Tests.lastToAdopt (x : RelaxState) : State :=
  let s := Tests.owed 258 false false
  { s with ladder := { (Tests.relaxing true false).ladder with relax := x, hold := none } }

theorem meets_AdoptOfTheCurrentGeneration_relaxes : (∀ x, (Tests.lastToAdopt x).takes .front) ∧
    (∀ q, q ≠ .front → (Tests.lastToAdopt .due).publication.members.get q = true →
      ((Tests.lastToAdopt .due).adoption q).owing ≠ true) ∧
    (Tests.lastToAdopt .due).publication.complete = false ∧ (Tests.lastToAdopt .due).running = true ∧
    (Tests.lastToAdopt .due).ladder.relax = .due ∧ (Tests.lastToAdopt .idle).ladder.relax ≠ .due ∧
    (Tests.lastToAdopt .due).ladder.published.limits.level.val < 4 ∧
    (Tests.lastToAdopt .due).ladder.published.limits.someStricter (Limits.step (Tests.lastToAdopt .due).ladder.parked
      (Tests.lastToAdopt .due).ladder.published.limits (Tests.lastToAdopt .due).ladder.target.limits) = true := by
  unfold State.takes
  refine ⟨fun x => by cases x <;> decide +kernel, fun q => by cases q <;> decide +kernel, ?_⟩
  decide +kernel

theorem meets_AdoptOfTheCurrentGeneration : (Tests.owed 258 true true).takes .front ∧
    u32 0 0 1 2 = (Tests.owed 258 true true).publication.counter ∧ (Tests.owed 258 true true).ladder.relax ≠ .due ∧
    (Station.rear ≠ .front ∧ (Tests.owed 258 true true).publication.members.get .rear = true ∧
      ((Tests.owed 258 true true).adoption .rear).owing = true) ∧
    ((Tests.owed 258 true true).adoption .front).unresponsive = true ∧
    ((Tests.owed 258 false false).adoption .front).unresponsive = false ∧
    (Tests.owed 258 false false).publication.complete = false ∧ (Tests.owed 258 false false).takes .front ∧
    (∀ q, (Tests.owed 258 false false).publication.members.get q = true → q = .front) := by
  unfold State.takes
  refine ⟨by decide +kernel, by decide +kernel, by decide +kernel, by decide +kernel, by decide +kernel, by decide +kernel,
    by decide +kernel, by decide +kernel, fun q => by cases q <;> decide +kernel⟩

theorem meets_StaleAndUnknownAdopts : (Tests.owed 258 true true).takes .front ∧
    u32 0 0 1 1 < (Tests.owed 258 true true).publication.counter ∧
    (Tests.owed 258 true true).publication.counter < u32 0 0 1 3 ∧ (Tests.owed 4294967295 true true).takes .front ∧
    u32 255 255 255 254 < (Tests.owed 4294967295 true true).publication.counter := by
  unfold State.takes
  decide +kernel

theorem meets_AdoptionWindowExpiries : ((Tests.owed 1 true false).adoption .front).timer.isSome = true ∧
    ((Tests.owed 1 true false).adoption .front).window = .waiting ∧
    (((Tests.owed 1 true true).setAdoption .front ⟨0, true, .resent, some 0, false, false⟩).adoption .front).window = .resent ∧
    (((Tests.owed 1 true true).setAdoption .front ⟨0, true, .resent, some 0, false, false⟩).adoption .front).timer.isSome = true ∧
    (((Tests.owed 1 true true).setAdoption .front ⟨0, true, .resent, some 0, false, false⟩).adoption .front).unresponsive = false ∧
    ((Tests.owed 1 true true).adoption .front).unresponsive = true ∧
    ((Tests.owed 1 true true).cond (adoptCond .front)).asserted = false := by decide +kernel

/-- A scan of slot 7 in progress, the slot's filter in a state with its counts one short of the last. -/
def Tests.sampling (x : ScanState) : State :=
  let s := base .configure
  let c := { s.config with scan := putAt s.config.scan 7 ⟨true, 4, 2600, 3700, 10, 16, 3, 4⟩ }
  { s with
    config := c
    monitor := { s.monitor with scan := [.slot 7 4, .alone 6], filters := putAt s.monitor.filters 7 ⟨x, 2, 3⟩ }
    intake := { s.intake with conds := putAt s.intake.conds (slotCond 7) ⟨x == .asserted, none, false⟩ } }

/-- A scan whose last sample is of channel 6 on its own. -/
def Tests.lastSample : State :=
  { Tests.sampling .clear with monitor := { (Tests.sampling .clear).monitor with scan := [.alone 6] } }

/-- A scan of slots 7 and 4 in progress, with slot 4 unused meanwhile. -/
def Tests.unnamed : State :=
  let s := Tests.sampling .clear
  { s with
    config := { s.config with scan := putAt s.config.scan 4 ⟨false, 0, 0, 4095, 0, 0, 1, 1⟩ }
    monitor := { s.monitor with scan := [.slot 7 4, .alone 4, .slot 4 6, .alone 6] } }

theorem meets_ScansAndTheComparator : (base .configure).device.state = .configure ∧ (base .run).device.state = .run ∧
    (base .run).monitor.comparator = false ∧
    ({ (base .run).monitor with comparator := true } : Monitor).comparator = true ∧ ((base .run).cond 8).asserted = false ∧
    (37999 < 1000 * 38 ∧ 1000 * 38 ≤ 38000) ∧ (1000 * (38 + 1) < 39001 ∧ 39000 ≤ 1000 * (38 + 1)) ∧
    (#v[30, 33, 36, 38, 40, 42, 44, 46] : Vector Nat 8)[(base .run).config.threshold] = 38 ∧
    (Tests.sampling .clear).monitor.scan ≠ [] ∧ (Tests.sampling .clear).config.scan[(7 : Fin 8)].used = true ∧
    (Tests.sampling .clear).config.enable[(Tests.sampling .clear).config.scan[(7 : Fin 8)].channel] = true := by
  decide +kernel

theorem meets_SamplesAreFiltered : (∀ x ∈ [ScanState.clear, .asserted], (Tests.sampling x).device.state = .configure ∧
      (Tests.sampling x).monitor.scan = .slot 7 4 :: [.alone 6] ∧ (Tests.sampling x).config.scan[(7 : Fin 8)].used = true ∧
      (Tests.sampling x).config.scan[(7 : Fin 8)].channel = 4 ∧ (Tests.sampling x).config.enable[(4 : Fin 7)] = true ∧
      ((Tests.sampling x).filter 7).state = x) ∧
    ((Tests.sampling .clear).cond (slotCond 7)).asserted = false ∧
    ((Tests.sampling .asserted).cond (slotCond 7)).asserted = true ∧
    (2600 ≤ (2600 : Counts).toNat ∧ (2600 : Counts).toNat ≤ 3700) ∧ (2600 ≤ (3700 : Counts).toNat ∧ (3700 : Counts).toNat ≤ 3700) ∧
    ¬(2600 ≤ (2599 : Counts).toNat ∧ (2599 : Counts).toNat ≤ 3700) ∧ ¬(2600 ≤ (3701 : Counts).toNat ∧ (3701 : Counts).toNat ≤ 3700) ∧
    2 + 1 = (Tests.sampling .clear).config.scan[(7 : Fin 8)].assertCount ∧
    3 + 1 = (Tests.sampling .clear).config.scan[(7 : Fin 8)].releaseCount ∧
    1 + 1 ≠ (Tests.sampling .clear).config.scan[(7 : Fin 8)].assertCount ∧
    Tests.lastSample.monitor.scan = .alone 6 :: [] ∧ Tests.lastSample.config.enable[(6 : Fin 7)] = true ∧
    (Tests.unnamed).monitor.scan = .slot 7 4 :: [.alone 4, .slot 4 6, .alone 6] ∧
    (Tests.unnamed).config.scan[(4 : Fin 8)].used = false ∧ (Tests.unnamed).config.enable[(6 : Fin 7)] = true ∧
    ({ Tests.lastSample.config with enable := Vector.replicate 7 false } : Tables).enable[(6 : Fin 7)] = false ∧
    (scanOn { Tests.lastSample.config with enable := Vector.replicate 7 false } Tests.lastSample.monitor.scan) = [.lost 6] := by
  decide +kernel

/-- Motion with the parked hold running, or the mismatch detector in a state. -/
def Tests.moving (x : MismatchState) : State :=
  { base .run with motion := { (base .run).motion with
      speedFront := some 300, speedRear := some 100, liveFront := true, liveRear := true
      parkedHold := some 0, mismatch := x, mismatchAxle := some .front, mismatchTimer := some 0 } }

/-- In RUN with the parked hold over, and: a demand to open the pack when PARKED; level L2 published, with relaxation due; or
the same with the relax hold still running. -/
def Tests.stopping (x : Fin 3) : State :=
  let s := match x with
    | 0 => (base .run).setEntry 0 { fault .confirmed with demand := some ⟨1, .none, .none, false, 100, .openWhenParked⟩ }
    | 1 => Tests.relaxing true true
    | 2 => Tests.relaxing true true
  { s with
    ladder := { s.ladder with
      published := { s.ladder.published with limits := if x = 0 then s.formedTarget else s.ladder.published.limits }
      relax := if x = 1 then .due else s.ladder.relax
      target := { s.ladder.target with limits := if x = 1 then s.formedTarget else s.ladder.target.limits } }
    motion := { s.motion with speedFront := some 0, liveFront := true, still := true, parkedHold := some 0 } }

theorem meets_MotionTimersExpire_ladder : (∀ x, (Tests.stopping x).motion.parkedHold.isSome = true ∧
      (Tests.stopping x).running = true) ∧
    (after .parkedHoldExpiry (Tests.stopping 0)).formedTarget.someStricter (Tests.stopping 0).ladder.published.limits = true ∧
    (let tgt := (after .parkedHoldExpiry (Tests.stopping 1)).formedTarget
     let pub := (Tests.stopping 1).ladder.published.limits
     tgt.someStricter pub = false ∧ tgt ≠ pub ∧ tgt = (Tests.stopping 1).ladder.target.limits ∧
      (Tests.stopping 1).ladder.relax = .due ∧ (Tests.stopping 1).publication.complete = true ∧
      pub.someStricter (Limits.step true pub tgt) = true) ∧
    (after .parkedHoldExpiry (Tests.stopping 2)).formedTarget.someStricter (Tests.stopping 2).ladder.published.limits = false ∧
    (Tests.stopping 2).ladder.relax ≠ .due ∧ State.reset.running = false := by decide +kernel

theorem meets_MotionTimersExpire : (Tests.moving .arming).motion.parkedHold.isSome = true ∧
    (Tests.moving .arming).motion.mismatchTimer.isSome = true ∧ (Tests.moving .arming).motion.mismatch = .arming ∧
    (Tests.moving .arming).motion.mismatchAxle = some .front ∧
    ((Tests.moving .arming).cond (mismatchCond .front)).asserted = false ∧
    (Tests.moving .settling).motion.mismatch = .settling ∧ (Tests.moving .settling).motion.mismatchAxle = some .front := by
  decide +kernel

theorem meets_ConfigIsRefusedInOrder : (turn .ride).takes .ride ∧ (turn .ride).device.state ≠ .configure ∧
    (setup .pack).takes .pack ∧ (setup .pack).device.state = .configure ∧ Station.pack ≠ .ride ∧ (setup .ride).takes .ride ∧
    (setup .ride).device.state = .configure ∧ ([0, 0] : List Byte).length < 3 ∧ 9 ≤ (9 : Byte).toNat := by
  unfold State.takes
  decide +kernel

/-- For each target an index or a length that it has not, and a field or a condition out of range, at the boundary. -/
theorem meets_ConfigIsRefusedInOrder_records :
    (∀ x ∈ configTargets .ride [] 0,
      ((x.2.2.1 255 ≠ some 7) ∧ (x.1 = 2 ∧ x.2.2.1 6 = some 1 ∨ x.1 ≠ 2 ∧ (x.2.2.1 0).isSome = true))) ∧
    ¬zoneInRange 3 [1, 3, 1, 0, 0, 0, 0] ∧ ¬zoneInRange 3 [1, 16, 1, 0, 0, 0, 0] ∧ ¬zoneInRange 3 [1, 255, 32, 0, 0, 0, 0] ∧
    ¬classInRange [1, 16, 0, 1, 0, 0, 0, 0, 0, 0, 0, 0, 0, 0] ∧ ¬classInRange [1, 2, 0, 0, 0, 0, 0, 0, 0, 0, 0, 0, 0, 0] ∧
    ¬classInRange [1, 1, 0xEA, 0x61, 0, 0, 0, 0, 0, 0, 0, 0, 0, 0] ∧ ¬levelInRange 5 [101, 0] ∧ ¬levelInRange 6 [6] ∧
    ¬responseInRange [1, 6, 0, 0, 0, 0] ∧ ¬responseInRange [1, 0, 0, 0, 101, 0] ∧
    ¬scanInRange [1, 6, 0, 2, 0, 1, 0, 0, 1, 1] ∧ ¬scanInRange [1, 7, 0, 0, 0, 0, 0, 0, 1, 1] ∧
    ¬scanInRange [1, 6, 0, 0, 0, 0, 0, 0, 9, 1] ∧ ¬(∀ b ∈ ([128] : List Byte), b.toNat < 128) ∧
    ¬(∀ b ∈ ([8] : List Byte), b.toNat ≤ 7) ∧ ¬timingInRange [4, 1, 1, 0xF4, 5, 1, 0, 200, 2, 10] ∧
    ¬timingInRange [5, 1, 1, 0xF3, 5, 1, 0, 200, 2, 10] ∧ ¬weightInRange [1, 1, 1, 1, 9] ∧ ¬weightInRange [0, 1, 1, 1, 1] := by
  refine ⟨by decide +kernel, ?_⟩
  simp [zoneInRange, classInRange, levelInRange, responseInRange, scanInRange, timingInRange, weightInRange]

theorem meets_ConfigIsRefusedInOrder_fixed : (setup .ride).fixedRecord 0 15 ∧ (setup .ride).fixedRecord 1 21 ∧
    (setup .ride).fixedRecord 3 21 ∧ (setup .ride).fixedRecord 3 31 ∧ ¬(setup .ride).fixedRecord 3 20 ∧
    ¬(setup .ride).fixedRecord 0 14 := by
  unfold State.fixedRecord
  decide +kernel

theorem meets_ConfigWritesItsRecord : (setup .ride).takes .ride ∧ (setup .ride).device.state = .configure ∧
    (14 : Fin 16) ≠ 15 ∧ (31 : Fin 32) ≠ 21 ∧ ((setup .ride).classOf 22).assigned = true ∧ (22 : Fin 32) ≠ 21 ∧
    (100 : Byte).toNat ≤ 100 ∧ (127 : Byte).toNat < 128 ∧ (0 : Byte).toNat < 128 ∧
    ((setup .ride).config.scan[(4 : Fin 8)].used = true ∧ (setup .ride).config.enable[(6 : Fin 7)] = true) ∧
    (setup .ride).monitor.comparator = false ∧ ((setup .ride).cond 8).asserted = false ∧
    ¬36000 < 1000 * 36 ∧ 35999 < 1000 * 36 := by
  unfold State.takes
  decide +kernel

/-- Records with every field at an end of its range. -/
theorem meets_ConfigWritesItsRecord_ranges :
    zoneInRange 14 [1, 15, 31, 3, 3, 5, 2] ∧ zoneInRange 0 [0, 255, 0, 0, 0, 0, 0] ∧
    classInRange [1, 1, 0, 0, 1, 1, 0xEA, 0x60, 1, 5, 2, 1, 100, 2] ∧
    classInRange [1, 15, 0xEA, 0x60, 0, 0, 0, 0, 0, 0, 0, 0, 0, 0] ∧ classInRange [0, 1, 0, 0, 0, 0, 0, 0, 0, 0, 0, 0, 0, 0] ∧
    responseInRange [1, 5, 2, 1, 100, 2] ∧ responseInRange [0, 0, 0, 0, 0, 0] ∧
    scanInRange [1, 6, 0x0F, 0xFF, 0x0F, 0xFF, 15, 31, 8, 8] ∧ scanInRange [0, 0, 0, 0, 0, 0, 0, 0, 1, 1] ∧
    timingInRange [50, 8, 0x75, 0x30, 100, 100, 0x13, 0x88, 8, 200] ∧ timingInRange [5, 1, 1, 0xF4, 5, 1, 0, 200, 2, 10] ∧
    weightInRange [8, 8, 8, 8, 8] ∧ weightInRange [1, 1, 1, 1, 1] := by
  simp [zoneInRange, classInRange, responseInRange, scanInRange, timingInRange, weightInRange]

theorem meets_ReadsAreAnswered_malformed : (∀ y ∈ readCommands .rear false [7], y.2 = none) ∧
    (∀ y ∈ readCommands .rear false [2, 7, 240], y.2 = none) ∧ (∀ y ∈ readCommands .rear false [], y.2 = none) := by
  decide +kernel

theorem meets_ReadsAreAnswered : (turn .rear).takes .rear ∧ (setup .rear).takes .rear ∧
    (Instr.readSnapshot .rear false [2, 7, 239], some (ReadTarget.snapshot 7 239)) ∈ readCommands .rear false [2, 7, 239] ∧
    (Instr.readSnapshot .rear false [2, 7, 240], (none : Option ReadTarget)) ∈ readCommands .rear false [2, 7, 240] ∧
    (Instr.readTable .rear false [0, 47, 48], some (ReadTarget.table 47 48)) ∈ readCommands .rear false [0, 47, 48] ∧
    (Instr.readTable .rear false [0, 47, 49], (none : Option ReadTarget)) ∈ readCommands .rear false [0, 47, 49] ∧
    (Instr.readEntry .rear false [1, 48], (none : Option ReadTarget)) ∈ readCommands .rear false [1, 48] ∧
    (Instr.readEnvelope .rear false [3], some ReadTarget.envelope) ∈ readCommands .rear false [3] ∧
    (Instr.readMonitor .rear false [4], some ReadTarget.monitor) ∈ readCommands .rear false [4] ∧
    (Instr.readOverflow .rear false [5], some ReadTarget.overflow) ∈ readCommands .rear false [5] ∧
    (Instr.readIdent .rear false [6], some ReadTarget.ident) ∈ readCommands .rear false [6] ∧
    ((turn .rear).port .rear).replies.length < 16 ∧
    16 ≤ ({ (turn .rear).port .rear with replies := List.replicate 16 ReadTarget.ident } : Port).replies.length := by
  unfold State.takes
  decide +kernel

/-- A port with the least or the greatest max frame. -/
def Tests.framed (m : Nat) : State := (base .run).modPort .ride fun o => { o with maxFrame := some m }

theorem meets_RepliesFitTheMaxFrame : ((Tests.framed 32).port .ride).maxFrame = some 32 ∧
    ((Tests.framed 255).port .ride).maxFrame = some 255 ∧ (Tests.framed 32).device.state = .run := by decide +kernel

theorem meets_RepliesHoldTheirFields : ((Tests.framed 33).port .ride).maxFrame = some 33 ∧
    ((Tests.framed 255).port .ride).maxFrame = some 255 ∧ (1 : Nat) ≤ 48 ∧ (base .configure).device.state = .configure ∧
    (Tests.framed 32).device.state = .run ∧ (∀ m ∈ [32, 35, 39, 41, 42], m < 43) ∧ 43 ≤ 255 := by decide +kernel

theorem meets_RepliesHoldTheirFields_monitor : StatusFormsHold (Tests.framed 32) := by
  refine ⟨?_, ?_, ?_, ?_⟩ <;> intro x h <;> exact nomatch (show (none : Option StatusRec) = some x from h)

theorem meets_FramesReadBackWhole : (List.replicate 255 (0xB7 : Byte)).length ≤ 255 ∧ ([0xB7] : List Byte) ≠ [] ∧
    40 ≤ 40 ∧ 39 < 40 :=
  ⟨le_of_eq List.length_replicate, by decide, by decide, by decide⟩

/-- In RUN with a demand in force, one entry CONFIRMED, one buffer filling, and everything else as those call for. -/
def Tests.riding : State :=
  let s := ((((Tests.filling 60 (some 2)).setEntry 0
    { fault .confirmed with demand := some ⟨1, .none, .front, false, 100, .none⟩, timer := .none }).setQueue .front
      [{ report 3 4 true with buffer := some 2 }]))
  let t := { s with ladder := { s.ladder with target := { s.ladder.target with limits := s.formedTarget } } }
  { t with lines := linesOf .run t.ladder.inForce.limits }

theorem meets_RepliesHoldTheirFields_notice : (Tests.riding.entry 0).contributing = true ∧
    (Tests.riding.entry 0).demand.isSome = true ∧ (∃ c : Fin 64, (Tests.overflowing true true).faults.overflow[c] = true) := by
  decide +kernel

theorem meets_EveryStepKeepsTheHardLines : LinesFollow Tests.riding ∧ InForceIsStricter Tests.riding := by
  unfold LinesFollow InForceIsStricter
  decide +kernel

theorem meets_EveryStepCoversTheDemands : DemandsCovered Tests.riding ∧ Tests.riding.device.state = .run ∧
    (Tests.riding.entry 0).contributing = true ∧ (Tests.riding.entry 0).demand = some ⟨1, .none, .front, false, 100, .none⟩ := by
  unfold DemandsCovered
  decide +kernel

theorem meets_EveryStepKeepsTheAxleLossLevel : AxleLossHolds Tests.riding ∧
    Tests.riding.ladder.published.limits.front ≠ .drive ∧ Tests.riding.ladder.published.limits.rear ≠ .drive := by
  unfold AxleLossHolds
  decide +kernel

theorem meets_EveryStepKeepsFixedRecordsAndQueues : FixedRecordsHold Tests.riding ∧ QueuesFit Tests.riding := by
  refine ⟨?_, fun q => by cases q <;> decide +kernel⟩
  unfold FixedRecordsHold
  decide +kernel

theorem meets_EveryStepKeepsTheAdoptionRecords : GenerationsFit (Tests.owed 4294967295 true true) ∧
    CompletionAgrees (Tests.owed 4294967295 true true) := by
  refine ⟨⟨by decide +kernel, fun p => by cases p <;> decide +kernel⟩, ⟨fun p => by cases p <;> decide +kernel, ?_⟩⟩
  exact ⟨fun h => absurd h (by decide +kernel), fun h => absurd (h .front) (by decide +kernel)⟩

/-- In RUN with a root found for every active entry. -/
def Tests.rooted : State := (full .suspect (base .run)).settleRoots

theorem meets_EveryStepKeepsPairsAndRoots : PairsDistinct Tests.rooted ∧ RootsHold Tests.rooted ∧
    Tests.rooted.device.state = .run ∧ (Tests.rooted.entry 0).active = true := by
  unfold PairsDistinct RootsHold
  decide +kernel

theorem meets_EveryStepKeepsTheSnapshotPool : SnapshotsFit Tests.riding ∧ BuffersOwned Tests.riding ∧
    (Tests.riding.buffer 2).owner = .pending .front := by
  refine ⟨Tests.fits (by decide +kernel) (by decide +kernel) (by decide +kernel), ?_, by decide +kernel⟩
  unfold BuffersOwned
  decide +kernel

theorem meets_EveryStepKeepsPortsAndParked : PortsFollow Tests.riding ∧ ParkedAgrees Tests.riding ∧
    PortsFollow (base .standby) ∧ WindowInConfigure (window false) ∧ WindowInConfigure Tests.riding ∧
    (window false).device.configureWindow.isSome = true := by
  refine ⟨⟨fun h => absurd h (by decide), fun p => by cases p <;> decide +kernel⟩, by unfold ParkedAgrees; decide +kernel,
    ⟨fun _ p => by cases p <;> decide +kernel, fun p => by cases p <;> decide +kernel⟩, fun _ => by decide,
    fun h => absurd h (by decide), by decide⟩

theorem meets_RecordsChangeOnlyInConfigure : ({ turn .ride with pending := [.scanDue] } : State).pending.head? = some .scanDue ∧
    Instr.scanDue ≠ .powerOn ∧ (turn .ride).device.state ≠ .configure ∧ WindowInConfigure (turn .ride) := by
  refine ⟨rfl, by decide, by decide, fun h => absurd h (by decide)⟩

/-! ### One step of each kind -/

theorem test_crc_check : crc16 [0x31, 0x32, 0x33, 0x34, 0x35, 0x36, 0x37, 0x38, 0x39] = 0x29B1 := by decide +kernel

theorem test_receive_delimiter_inside : receive (0x00 :: frameBytes 0x23 true [0xB7, 0xB7] ++ [0xB7, 0x22]) =
    [.frame 0x23 1 [0xB7, 0xB7] true, .broken] := by decide +kernel

theorem test_bytes_to_commands : commandsOf .front 0 (frameBytes 0x20 true [1, 64] ++ frameBytes 0x26 false [3]) =
    [.hello .front true [1, 64], .readEnvelope .front false [3]] := by decide +kernel

theorem test_bad_crc_is_discarded : commandsOf .front 0 [0xB7, 0x20, 1, 2, 1, 64, 0, 0] = [.discardedFrame .front .badCrc] := by
  decide +kernel

theorem test_reset_end_key_high :
    (after (.resetEnd true false true 48000) State.reset).device.state = .configure ∧
    (after (.resetEnd true false true 48000) State.reset).lines = ⟨true, true, false, false, 6⟩ ∧
    (after (.resetEnd true false true 48000) State.reset).publication.counter = 1 ∧
    ((after (.resetEnd true false true 48000) State.reset).port .pack).state = .sync := by decide +kernel

theorem test_reset_end_straps : ((after (.resetEnd false false true 48000) State.reset).port .front).state = .offline ∧
    (after (.resetEnd true true false 0) State.reset).device.topology = .dualUnsupervised := by decide +kernel

theorem test_key_debounce_starts : (after (.keyPinChange true) (base .standby)).device.debounce = some 50 := by decide +kernel

theorem test_key_off_lines : (after (.keyDebounceExpiry 0) (unkeyed .run)).lines = ⟨true, true, true, true, 7⟩ ∧
    ((after (.keyDebounceExpiry 0) (unkeyed .run)).entry 1) = Entry.free := by decide +kernel

theorem test_key_off_snapshots :
    let t := after (.keyDebounceExpiry 0) (unkeyed .run)
    (t.entry 0).snapshot = some 0 ∧ t.buffer 0 = (unkeyed .run).buffer 0 ∧ (t.entry 2).snapshot = none ∧
    (t.entry 2).snapshotLost = true ∧ (t.buffer 1).owner = .free ∧ (t.buffer 2).owner = .free ∧
    t.slot .front = ⟨none, .truncated⟩ ∧ t.filter 7 = ⟨.clear, 0, 0⟩ := by decide +kernel

theorem test_key_off_applies_the_report_first : after (.keyDebounceExpiry 0) Tests.handedOver =
    after (.keyDebounceExpiry 0) (Tests.handedOver.applyReport (report 3 4 true)) := by decide +kernel

theorem test_hello_accepted : ((after (.hello .front true [1, 32]) (syncing false true)).port .front).maxFrame = some 32 ∧
    ((after (.hello .front true [1, 32]) (syncing false true)).adoption .front).owing = true := by decide +kernel

theorem test_hello_refused : ((after (.hello .front true [1, 31]) (syncing false true)).port .front).state = .sync := by
  decide +kernel

theorem test_status_speed : (after (.status .rear false [1, 0x2C, 40]) (turn .rear)).motion.speedRear = some 300 := by
  decide +kernel

theorem test_report_taken : ((after (.report .front false [3, 4, 1, 0, 0, 0]) (turn .front)).queue .front).length = 1 ∧
    ((after (.report .front false [3, 4, 1, 0, 0, 0]) (turn .front)).port .front).verdicts = [.taken] := by decide +kernel

theorem test_report_wrong_state : ((after (.report .front true [3, 4, 1, 0, 0, 0]) (setup .front)).port .front).receipts =
    [⟨[.wrongState], 0, 8, false, .none⟩] := by decide +kernel

theorem test_snapshot_completes :
    ((after (.snapshot .front false (0 :: List.replicate 60 9)) (filling 60 (some 2))).buffer 2).complete = true ∧
    ((after (.snapshot .front false (0 :: List.replicate 60 9)) (filling 60 (some 2))).slot .front) = ⟨none, .complete⟩ := by
  decide +kernel

theorem test_immediate_latching_class_latches :
    ((after .reportApplied (applying (report 3 0 true))).entry 0).state = .latched ∧
    ((after .reportApplied (applying (report 3 0 true))).entry 0).demand = some ⟨2, .cut, .front, false, 100, .none⟩ ∧
    (after .reportApplied (applying (report 3 0 true))).ladder.target.limits = ⟨2, .cut, .drive, true, 100, false⟩ := by
  decide +kernel

theorem test_counted_class_is_suspect :
    ((after .reportApplied (applying (report 3 4 true))).entry 0).state = .suspect ∧
    ((after .reportApplied (applying (report 3 4 true))).entry 0).timer = .confirm 1000 ∧
    (after .reportApplied (applying (report 3 4 true))).faults.noticeDelay = some 20 := by decide +kernel

theorem test_overflow_cell : (after .reportApplied (full .confirmed (applying (report 3 4 true)))).faults.overflow[(25 : Fin 64)] = true := by
  decide +kernel

theorem test_absent_starts_heal_hold :
    ((after .reportApplied (landing .confirmed false)).entry 0).timer = .heal 5000 := by decide +kernel

theorem test_clear_parked : ((after (.clear .front false [1, 3, 4]) (clearing .front .latched false true)).entry 47).outcome =
    some .cleared := by decide +kernel

theorem test_clear_not_parked :
    ((after (.clear .ride false [0, 47]) (clearing .ride .latched false false)).port .ride).verdicts = [.notParked] := by
  decide +kernel

theorem test_discard_all : ((after (.discardAllRetired .ride false [1]) (clearing .ride .retired false false)).entry 47) =
    Entry.free := by decide +kernel

theorem test_discard_detaches : ((after (.discardEntry .ride false [0, 47]) Tests.discarding).slot .front).assembly =
    some ⟨60, 0, 0, none, 50⟩ ∧ ((after (.discardEntry .ride false [0, 47]) Tests.discarding).buffer 2).owner = .free := by
  decide +kernel

theorem test_relax_step : (after .relaxHoldExpiry (relaxing true true)).ladder.published.limits.level = 1 ∧
    (after .relaxHoldExpiry (relaxing true true)).publication.counter = 1 ∧
    (after .relaxHoldExpiry (relaxing true false)).ladder.relax = .due := by decide +kernel

theorem test_adopt_completes : (after (.adopt .front false [0, 0, 0, 7]) (owed 7 false true)).publication.complete = true ∧
    (after (.adopt .front false [0, 0, 0, 7]) (owed 7 true true)).publication.complete = false := by decide +kernel

theorem test_third_sample_asserts : ((after (.sampleComplete 2599) (sampling .clear)).cond 7) = ⟨true, some 2599, true⟩ := by
  decide +kernel

theorem test_release_sample : ((after (.sampleComplete 2600) (sampling .asserted)).filter 7).state = .clear := by
  decide +kernel

theorem test_comparator_detail : ((after (.falling 37999) (base .run)).cond 8).detail = some 380 := by decide +kernel

theorem test_mismatch_asserts : ((after .mismatchTimerExpiry (moving .arming)).cond (mismatchCond .front)).detail = some 200 := by
  decide +kernel

theorem test_timing_record : (after (.timingRecord .ride false [7, 0, 10, 2, 1, 0xF4, 20, 5, 3, 0xE8, 3, 50]) (setup .ride)).config.timing.relaxHold =
    500 := by decide +kernel

theorem test_zone_15_is_fixed :
    ((after (.zoneRecord .ride false [0, 15, 1, 10, 16, 3, 0, 3, 0]) (setup .ride)).port .ride).verdicts = [.notPermitted] := by
  decide +kernel

theorem test_contention_third : ((after (.contention .rear)
      ((sends .rear .grant true).modPort .rear fun o => { o with contentions := 2 })).port .rear).state = .sync ∧
    ((after (.contention .rear)
      ((sends .rear .grant true).modPort .rear fun o => { o with contentions := 2 })).cond (linkLostCond .rear)).asserted = true := by
  decide +kernel

theorem test_grant_opens_turn : ((after (.grantSent .ride) (sends .ride .grant true)).port .ride).turnWindow = some 2 := by
  decide +kernel

theorem test_receipt_bytes : receiptBytes ⟨[.taken, .malformed], 3, 7, true, .truncated⟩ =
    [2, byteOf Verdict.taken.code, byteOf Verdict.malformed.code, 3, 7, 1, 2] := by decide +kernel

theorem test_tick : (match step (base .run) with | .next t => t.device.clock | _ => 0) = 1 := by decide +kernel

theorem test_no_word_is_a_command : decodeTableWord 8 0 = none := rfl

theorem test_bits_to_commands : commandsOnLine .front 0 (List.replicate 3 true ++ lineLevels (frameBytes 0x26 false [3]) ++
      List.replicate 50 true ++ lineLevels [0xB7, 0x26] ++ List.replicate 50 true) =
    [.readEnvelope .front false [3], .brokenFrame .front] := by decide +kernel

theorem test_moved_slot_leaves_its_channel_a_sample :
    (after (.sampleComplete 3000) unnamed).monitor.scan = [.alone 6] ∧
    (after (.sampleComplete 700) (after (.sampleComplete 3000) unnamed)).monitor.latest[(6 : Fin 7)] = some 700 := by
  decide +kernel

/-- A turn of RIDE in CONFIGURE in the middle of slot 7's sample of channel 4, the configuration failing its checks. -/
def Tests.midSample : State :=
  let s := put .ride .turn (Tests.sampling .clear)
  { s with
    device := { s.device with configureWindow := some 0 }
    config := { s.config with levels := putAt s.config.levels 0 ⟨0, 1⟩ } }

/-- A channel that leaves the set in the middle of its sample and comes back, by the defaults or by CHANNELS, has no value
before the next scan (R149). -/
theorem test_lost_sample_gives_no_value :
    let s := after (.channelsRecord .ride false [5, 0, 0x6F]) Tests.midSample
    let t := after (.configureWindowExpiry 48000) s
    let u := after (.channelsRecord .ride false [5, 0, 0x7F]) s
    s.monitor.scan = [.lost 4, .alone 6] ∧ t.device.state = .run ∧ t.config.enable[(4 : Fin 7)] = true ∧
    (after (.sampleComplete 0) t).monitor.latest[(4 : Fin 7)] = none ∧
    u.monitor.scan = [.lost 4, .alone 6] ∧ (u.filter 7).state = .clear ∧
    (after (.sampleComplete 0) u).monitor.latest[(4 : Fin 7)] = none ∧
    (after (.sampleComplete 0) u).filter 7 = ⟨.clear, 0, 0⟩ ∧ (after (.sampleComplete 0) u).monitor.scan = [.alone 6] := by
  decide +kernel

/-- A slot that leaves its channel in the middle of its sample and comes back is first sampled at the next scan (R156). -/
theorem test_slot_that_comes_back_waits :
    let away := after (.scanRecord .ride false [4, 7, 0, 0, 0, 0, 0x0F, 0xFF, 0, 0, 1, 1]) Tests.midSample
    let back := after (.scanRecord .ride false [4, 7, 1, 4, 0, 0, 0, 1, 10, 16, 3, 4]) away
    away.monitor.scan = [.alone 4, .alone 6] ∧ back.monitor.scan = [.alone 4, .alone 6] ∧
    (after (.sampleComplete 9) back).filter 7 = ⟨.clear, 0, 0⟩ ∧
    (after (.sampleComplete 9) back).monitor.latest[(4 : Fin 7)] = some 9 := by decide +kernel

theorem test_fall_is_judged_by_the_new_threshold :
    let s := after (.comparatorRecord .ride false [6, 0, 2] 38500) (setup .ride)
    (after (.falling 37900) s).monitor.comparator = false ∧ (after (.falling 35900) s).monitor.comparator = true ∧
    (after (.falling 37900) (setup .ride)).monitor.comparator = true := by decide +kernel

theorem test_rows_without_an_operand_cross_every_threshold : (after .falling (base .run)).monitor.comparator = true ∧
    (after .rising (after .falling (base .run))).monitor.comparator = false := by decide +kernel

theorem test_lapsed_window_stays_over_a_hello :
    let s := (syncing false true).setAdoption .front ⟨0, false, .idle, none, true, true⟩
    ((after (.hello .front true [1, 32]) s).adoption .front).lapsed = true := by decide +kernel

theorem test_broken_frame_counts_while_a_frame_goes_out :
    ((after (.brokenFrame .pack) (sends .pack .grant true)).port .pack).discards = 1 := by decide +kernel

/-- A second axle comes alive at rest while the parked hold runs: the hold begins anew (R168). -/
theorem test_joining_station_restarts_the_parked_hold :
    let s : State := { turn .rear with motion := { (turn .rear).motion with
      speedFront := some 0, liveFront := true, speedRear := some 0, still := true, parkedHold := some 3 } }
    let t := after (.status .rear true [0, 0, 20]) s
    t.motion.liveRear = true ∧ t.motion.parkedHold = some t.config.timing.parkedHold := by decide +kernel

/-- The fortieth active entry raises the high-water flag (R79). -/
theorem test_high_water : let s := applying (report 3 4 true)
    let u := put .ride .hold { s with faults := { s.faults with entries := tabulate fun i =>
      if i.val < 39 then { fault .confirmed with cls := Fin.ofNat 32 (i.val % 4), zone := Fin.ofNat 16 (i.val / 4) }
      else Entry.free } }
    let t := after .reportApplied u
    t.faults.highWater = true ∧ (t.port .ride).notice = true ∧ t.faults.noticeDelay = none := by decide +kernel
end

section
/-!
PROOFS. Zone records, class slots and the short queues: what a step makes of the configurable records, the latched topology
and the lengths of the short queues is said once (`exec_records`), and the statements on them follow.
-/
namespace Sys2Proof

/-- POWER_ON, RESET_N_LOW and RESET_END: the commands that latch a topology and load its defaults (R174, R175). -/
def Instr.resets : Instr → Bool
  | .powerOn | .resetNLow | .resetEnd .. => true
  | _ => false

theorem Instr.resets_eq_false {c : Instr}
    (h : c ≠ .powerOn ∧ c ≠ .resetNLow ∧ ∀ a b k v, c ≠ .resetEnd a b k v) : c.resets = false := by
  obtain ⟨hpower, hlow, hend⟩ := h
  cases c with
  | powerOn => exact absurd rfl hpower
  | resetNLow => exact absurd rfl hlow
  | resetEnd a b k v => exact absurd rfl (hend a b k v)
  | _ => rfl

namespace Machine

/-! ### What a step keeps that writes no record -/

/-- `t` has the records and the latched topology of `s`, and no short queue has grown past 8 reports. -/
structure KeepsRecords (s t : State) : Prop where
  config : t.config = s.config
  topology : t.device.topology = s.device.topology
  queues : ∀ q, (t.queue q).length ≤ max 8 (s.queue q).length

namespace KeepsRecords

theorem refl (s : State) : KeepsRecords s s := ⟨rfl, rfl, fun _ => Nat.le_max_right _ _⟩

theorem trans {s t u : State} (h : KeepsRecords s t) (g : KeepsRecords t u) : KeepsRecords s u where
  config := g.config.trans h.config
  topology := g.topology.trans h.topology
  queues q := by have := h.queues q; have := g.queues q; omega

/-- An operation whose frame holds the records, the topology and the queues. -/
theorem of_frame {s t : State} (hc : t.config = s.config := by simp)
    (ht : t.device.topology = s.device.topology := by simp)
    (hq : t.intake.queues = s.intake.queues := by simp) : KeepsRecords s t :=
  ⟨hc, ht, fun q => by simp [State.queue, hq]⟩

theorem ite {c : Prop} [Decidable c] {s a b : State} (ha : c → KeepsRecords s a) (hb : ¬c → KeepsRecords s b) :
    KeepsRecords s (if c then a else b) := by
  split
  · exact ha ‹_›
  · exact hb ‹_›

theorem foldl {α : Type} {g : State → α → State} (h : ∀ s a, KeepsRecords s (g s a)) (l : List α) (s : State) :
    KeepsRecords s (l.foldl g s) :=
  foldl_holds (KeepsRecords s) (fun t a ht => ht.trans (h t a)) l s (refl s)

theorem modPort (s : State) (p : Station) (f : Port → Port) : KeepsRecords s (s.modPort p f) := of_frame

/-- A frame keeps what its block keeps. -/
theorem takeFrame {p : Station} {turn : Bool} {hand : State → State} (h : ∀ t, KeepsRecords t (hand t)) (s : State) :
    KeepsRecords s (s.takeFrame p turn hand) :=
  State.takeFrame_holds (KeepsRecords s) (fun t f ht => ht.trans (modPort t p f)) (fun _ ht => ht.trans of_frame)
    (fun t ht => ht.trans (h t)) (refl s)

/-- A receipted frame keeps what its judge keeps. -/
theorem receipted {p : Station} {judge : State → State × Verdict} (h : ∀ t, KeepsRecords t (judge t).1) (s : State) :
    KeepsRecords s (State.receipted p judge s) :=
  State.receipted_holds (KeepsRecords s) (fun t f ht => ht.trans (modPort t p f)) (fun hs => hs.trans (h s)) (refl s)

theorem takeRead (p : Station) (turn : Bool) (target : Option ReadTarget) (s : State) :
    KeepsRecords s (s.takeRead p turn target) :=
  takeFrame (receipted fun _ => of_frame) s

theorem completeIf (p : Station) (is : Sending → Bool) (s : State) : KeepsRecords s (s.completeIf p is) :=
  State.completeIf_holds (KeepsRecords s) (fun t f ht => ht.trans (modPort t p f)) (fun _ => of_frame) (refl s)

/-! ### Operations that touch the short queues -/

/-- A queued report that loses its buffer stays in its queue (R47). -/
theorem unbind (b : Fin 8) (s : State) : KeepsRecords s (s.unbind b) where
  config := by simp
  topology := by simp
  queues q := by simp [State.queue, State.unbind]

theorem dropOwner (b : Fin 8) (s : State) : KeepsRecords s (s.dropOwner b) := by
  unfold State.dropOwner
  split
  · exact unbind b s
  · exact of_frame
  · exact refl s

theorem truncate (p : Station) (s : State) : KeepsRecords s (s.truncate p) := by
  unfold State.truncate
  split
  · exact refl s
  · split
    · exact of_frame
    · next b _ => exact (dropOwner b s).trans of_frame

/-- A report joins a queue that has room (R40). -/
theorem enqueue {r : QReport} {s : State} (h : (s.queue r.source).length < 8) : KeepsRecords s (s.enqueue r) where
  config := by simp
  topology := by simp
  queues q := by
    unfold State.enqueue
    by_cases hq : q = r.source
    · subst hq
      simp
      omega
    · rw [State.queue_setQueue_ne _ _ hq]
      exact Nat.le_max_right _ _

theorem acceptReport {p : Station} {s : State} (r : ReportFields) (h : (s.queue p.source).length < 8) :
    KeepsRecords s (s.acceptReport p r).1 := by
  unfold State.acceptReport
  split
  · exact enqueue h
  · split
    · next n _ _ b _ =>
      have lent : KeepsRecords s (s.lend b p n) := of_frame
      refine lent.trans (enqueue ?_)
      simpa [State.queue, State.reportOf] using h
    · exact enqueue h

theorem admitReport (p : Station) (r : ReportFields) (s : State) : KeepsRecords s (s.admitReport p r).1 := by
  unfold State.admitReport
  split
  · exact refl s
  · split
    · exact refl s
    · exact acceptReport r (Nat.lt_of_not_le ‹_›)

theorem openAssembly (p : Station) (announced : Option Nat) (s : State) :
    KeepsRecords s (s.openAssembly p announced) := by
  unfold State.openAssembly
  split
  · exact refl s
  · exact (truncate p s).trans of_frame

theorem judgeReport (p : Station) (payload : List Byte) (s : State) : KeepsRecords s (s.judgeReport p payload).1 := by
  unfold State.judgeReport
  split
  · exact refl s
  · split
    · exact refl s
    · exact (openAssembly p _ s).trans (admitReport p _ _)

theorem judgeSnapshot (p : Station) (payload : List Byte) (s : State) :
    KeepsRecords s (s.judgeSnapshot p payload).1 := by
  unfold State.judgeSnapshot
  split
  · exact refl s
  · split
    · exact truncate p s
    · split
      · exact refl s
      · split
        · exact truncate p s
        · exact of_frame

theorem formSelf (k : Fin 24) {s : State} (h : (s.queue .self).length < 8) : KeepsRecords s (s.formSelf k) := by
  have sent : KeepsRecords s (s.markSent k) := of_frame
  unfold State.formSelf
  dsimp only
  split
  · exact sent.trans (enqueue h)
  · exact sent

/-- The head of a queue leaves it (R56). -/
theorem handHead (q : Source) (s : State) : KeepsRecords s (s.handHead q) := by
  refine ⟨by simp, by simp, fun x => ?_⟩
  unfold State.handHead
  split
  · exact Nat.le_max_right _ _
  · next r rest hr =>
    change ((s.setQueue q rest).queue x).length ≤ _
    by_cases hx : x = q
    · subst hx
      simp [hr]
    · rw [State.queue_setQueue_ne _ _ hx]
      exact Nat.le_max_right _ _

theorem handOff (s : State) : KeepsRecords s s.handOff := by
  unfold State.handOff
  split
  · exact handHead _ s
  · split
    · next q _ =>
      have current : KeepsRecords s (s.makeCurrent q) := of_frame
      exact current.trans (handHead q _)
    · exact refl s

/-! ### Ports that leave the exchange, and changes of device state -/

theorem leaveExchange (p : Station) (s : State) : KeepsRecords s (s.leaveExchange p) := by
  unfold State.leaveExchange
  exact (truncate p s).trans of_frame

/-- A port takes another state, and leaves the exchange if it was in it (R19, R20). -/
theorem setPort_leave (s : State) (p : Station) (o : Port) : KeepsRecords s
    (if (s.port p).inExchange then (s.setPort p o).leaveExchange p else s.setPort p o) := by
  have moved : KeepsRecords s (s.setPort p o) := of_frame
  exact ite (fun _ => moved.trans (leaveExchange p _)) fun _ => moved

theorem enterOffline (p : Station) (s : State) : KeepsRecords s (s.enterOffline p) := by
  have out := setPort_leave s p (s.port p).toOffline
  unfold State.enterOffline
  exact ite (fun _ => refl s) fun _ => out.trans of_frame

theorem enterSync (p : Station) (s : State) : KeepsRecords s (s.enterSync p) := by
  have out := setPort_leave s p (s.port p).toSync
  unfold State.enterSync
  exact out.trans of_frame

theorem contention (p : Station) (f : OutFrame) (s : State) : KeepsRecords s (s.contention p f) := by
  have cut := modPort s p (Port.contend f)
  unfold State.contention
  refine ite (fun _ => cut.trans of_frame) fun _ => cut.trans ?_
  exact (enterSync p _).trans of_frame

theorem wakePort (s : State) (p : Station) : KeepsRecords s (s.wakePort p) :=
  ite (fun _ => enterSync p s) fun _ => refl s

theorem enterConfigure (mV : Nat) (s : State) : KeepsRecords s (s.enterConfigure mV) := by
  have woken : KeepsRecords s (stations.foldl State.wakePort { s with device := { s.device with
      state := .configure, configureWindow := some configureWindowMs, check := .none, way := .notYet } }) := by
    refine trans ?_ (foldl wakePort stations _)
    exact of_frame rfl rfl rfl
  unfold State.enterConfigure
  exact woken.trans of_frame

/-- Key-off empties every short queue (R57). -/
theorem purgeIntake (s : State) : KeepsRecords s s.purgeIntake :=
  ⟨by simp, by simp, fun q => by cases q <;> exact Nat.zero_le _⟩

theorem keyOff (s : State) : KeepsRecords s s.keyOff := by
  have off : KeepsRecords s (stations.foldl State.portOff
      ({ s with device := { s.device with state := .standby, configureWindow := none } } : State).finishReport) :=
    trans (of_frame rfl rfl rfl) (trans of_frame (foldl (fun t p => enterOffline p t) stations _))
  unfold State.keyOff
  exact (off.trans (purgeIntake _)).trans of_frame

theorem keyLow (s : State) : KeepsRecords s s.keyLow := by
  unfold State.keyLow
  split
  · exact keyOff s
  · exact keyOff s
  · exact refl s
  · exact refl s

theorem keyHigh (mV : Nat) (s : State) : KeepsRecords s (s.keyHigh mV) := by
  unfold State.keyHigh
  split
  · exact enterConfigure mV s
  all_goals exact refl s

end KeepsRecords

/-! ### What a CONFIG record writes -/

/-- `t` is `s` with records written in CONFIGURE: zone 15, class 21, the device and the short queues stay. -/
structure WritesRecords (s t : State) : Prop where
  device : t.device = s.device
  queues : t.intake.queues = s.intake.queues
  zone : t.config.zones[15] = s.config.zones[15]
  cls : t.config.classes[21] = s.config.classes[21]
  config : s.device.state ≠ .configure → t.config = s.config

namespace WritesRecords

theorem trans {s t u : State} (h : WritesRecords s t) (g : WritesRecords t u) : WritesRecords s u where
  device := g.device.trans h.device
  queues := g.queues.trans h.queues
  zone := g.zone.trans h.zone
  cls := g.cls.trans h.cls
  config hs := (g.config (by rwa [h.device])).trans (h.config hs)

theorem of_frame {s t : State} (hd : t.device = s.device := by simp) (hc : t.config = s.config := by simp)
    (hq : t.intake.queues = s.intake.queues := by simp) : WritesRecords s t :=
  ⟨hd, hq, by rw [hc], by rw [hc], fun _ => hc⟩

theorem of_configure {s t : State} (hs : s.device.state = .configure) (hd : t.device = s.device := by simp)
    (hq : t.intake.queues = s.intake.queues := by simp)
    (hz : t.config.zones[15] = s.config.zones[15] := by simp)
    (hk : t.config.classes[21] = s.config.classes[21] := by simp) : WritesRecords s t :=
  ⟨hd, hq, hz, hk, fun h => absurd hs h⟩

/-- A CONFIG frame writes what its record's judge writes in CONFIGURE. -/
theorem takeConfig {p : Station} {turn : Bool} {judge : State → State × Verdict}
    (h : ∀ t, t.device.state = .configure → WritesRecords t (judge t).1) (s : State) :
    WritesRecords s (s.takeConfig p turn judge) := by
  have judged : ∀ t, WritesRecords t (State.judgeConfig p judge t).1 := fun t =>
    State.judgeConfig_holds (WritesRecords t) (fun ht _ => h t ht) (of_frame rfl rfl rfl)
  refine State.takeFrame_holds (WritesRecords s) (fun t f ht => ht.trans of_frame) (fun t ht => ht.trans of_frame)
    (fun t ht => ?_) (of_frame rfl rfl rfl)
  exact State.receipted_holds (WritesRecords s) (fun u f hu => hu.trans of_frame) (fun hu => hu.trans (judged t)) ht

end WritesRecords

theorem fin?_val {n i : Nat} {k : Fin n} (h : fin? n i = some k) : k.val = i := by
  unfold fin? at h
  split at h
  · cases h
    rfl
  · cases h

/-- A table written at an index read from a frame holds its other entries. -/
theorem State.getElem_putNat_ne {α : Type} {n i j : Nat} (v : Vector α n) (x : α) (hj : j < n) (h : i ≠ j) :
    (State.putNat v i x)[j] = v[j] := by
  unfold State.putNat
  split
  · next k hk =>
    have hv := fin?_val hk
    exact getElem_putAt_ne (j := ⟨j, hj⟩) v x (fun e => h (by rw [← hv, ← e]))
  · rfl

/-- Zone 15 is fixed (R8): no ZONE record writes it. -/
theorem State.judgeZone_zone15 (payload : List Byte) (s : State) :
    (s.judgeZone payload).1.config.zones[15] = s.config.zones[15] :=
  State.judgeRecord_holds (fun t => t.config.zones[15] = s.config.zones[15])
    (fun _ z hi => State.getElem_putNat_ne _ z _ (by simpa using hi)) rfl

/-- Class 21 is fixed (R14): no CLASS record writes it. -/
theorem State.judgeClass_class21 (payload : List Byte) (s : State) :
    (s.judgeClass payload).1.config.classes[21] = s.config.classes[21] :=
  State.judgeRecord_holds (fun t => t.config.classes[21] = s.config.classes[21])
    (fun _ k hi => State.getElem_putNat_ne _ k _ (by simpa using hi)) rfl

theorem State.writeResponse_class21 (s : State) {i : Nat} (r : Response) (h : i ≠ 21) :
    (s.writeResponse i r).config.classes[21] = s.config.classes[21] := by
  unfold State.writeResponse
  split
  · next k hk =>
    have hv := fin?_val hk
    exact getElem_putAt_ne (j := 21) s.config.classes _ (fun e => h (by rw [← hv, ← e]; rfl))
  · rfl

/-- The response of class 21 is fixed (R14): no RESPONSE record writes it. -/
theorem State.judgeResponse_class21 (payload : List Byte) (s : State) :
    (s.judgeResponse payload).1.config.classes[21] = s.config.classes[21] :=
  State.judgeRecord_holds (fun t => t.config.classes[21] = s.config.classes[21])
    (fun _ r hi => s.writeResponse_class21 r fun h21 => by simp [State.responseFixed, h21] at hi) rfl

/-! ### The topology defaults -/

/-- The defaults of every topology hold the fixed records (R8, R14). -/
theorem fixedRecordsHold_of_defaults {s : State} {topo : Topology} (h : s.config = topologyDefaults topo) :
    FixedRecordsHold s := by
  unfold FixedRecordsHold
  rw [h]
  cases topo <;> decide

theorem State.loadDefaults_config (mV : Nat) (s : State) :
    (s.loadDefaults mV).config = topologyDefaults s.device.topology := by
  simp [State.loadDefaults]

/-- The window's expiry leaves the records, or loads the defaults over all of them (R182). -/
theorem State.expireConfigure_config (mV : Nat) (s : State) :
    (s.expireConfigure mV).config = s.config ∨ (s.expireConfigure mV).config = topologyDefaults s.device.topology := by
  unfold State.expireConfigure
  cases firstFailed s.device.topology s.config with
  | none => simp
  | some n => simp [State.loadDefaults_config]

/-! ### What a command makes of the records and the queues -/

/-- What every command but the three of a reset makes of the records, the latched topology and the short queues. -/
structure RecordsFollow (s t : State) : Prop where
  topology : t.device.topology = s.device.topology
  config : WindowInConfigure s → s.device.state ≠ .configure → t.config = s.config
  fixed : FixedRecordsHold s → FixedRecordsHold t
  queues : QueuesFit s → QueuesFit t

theorem QueuesFit.of_eq {s t : State} (h : t.intake.queues = s.intake.queues) (hs : QueuesFit s) : QueuesFit t :=
  fun q => by simpa [State.queue, h] using hs q

theorem KeepsRecords.fixed {s t : State} (h : KeepsRecords s t) (hs : FixedRecordsHold s) : FixedRecordsHold t := by
  unfold FixedRecordsHold
  rwa [h.config]

theorem KeepsRecords.fit {s t : State} (h : KeepsRecords s t) (hs : QueuesFit s) : QueuesFit t :=
  fun q => (h.queues q).trans (Nat.max_le.2 ⟨Nat.le_refl 8, hs q⟩)

theorem KeepsRecords.follow {s t : State} (h : KeepsRecords s t) : RecordsFollow s t :=
  ⟨h.topology, fun _ _ => h.config, h.fixed, h.fit⟩

theorem WritesRecords.follow {s t : State} (h : WritesRecords s t) : RecordsFollow s t where
  topology := by rw [h.device]
  config _ := h.config
  fixed := fun ⟨hz, hk⟩ => ⟨h.zone.trans hz, h.cls.trans hk⟩
  queues := .of_eq h.queues

theorem State.expireConfigure_follow (mV : Nat) {s : State} (hw : s.device.configureWindow.isSome = true) :
    RecordsFollow s (s.expireConfigure mV) where
  topology := by simp
  config hc hs := absurd (hc hw) hs
  fixed := fun ⟨hz, hk⟩ => by
    obtain h | h := s.expireConfigure_config mV
    · unfold FixedRecordsHold
      rw [h]
      exact ⟨hz, hk⟩
    · exact fixedRecordsHold_of_defaults h
  queues := .of_eq (by simp)

/-- The command answers a next state, whose records, topology and queues follow those of `s`. -/
def AnswersFollow (s : State) (o : Host.Outcome State Fault Refusal) : Prop :=
  ∃ t, o = .next t ∧ RecordsFollow s t

namespace AnswersFollow

theorem keep {s t : State} (h : KeepsRecords s t) : AnswersFollow s (.next t) := ⟨t, rfl, h.follow⟩

theorem write {s t : State} (h : WritesRecords s t) : AnswersFollow s (.next t) := ⟨t, rfl, h.follow⟩

theorem keyDebounceExpiry (mV : Nat) (s : State) : AnswersFollow s (execKeyDebounceExpiry mV s) := by
  unfold execKeyDebounceExpiry
  split
  · exact keep (.refl s)
  · refine keep (.trans ?_ (.ite (fun _ => .keyHigh mV _) fun _ => .keyLow _))
    exact .of_frame rfl rfl rfl

theorem configureWindowExpiry (mV : Nat) (s : State) : AnswersFollow s (execConfigureWindowExpiry mV s) := by
  unfold execConfigureWindowExpiry
  split
  · exact keep (.refl s)
  · next hw => exact ⟨_, rfl, s.expireConfigure_follow mV (by simp [hw])⟩

theorem contention (p : Station) (s : State) : AnswersFollow s (execContention p s) := by
  unfold execContention
  split
  · exact keep (.contention p _ s)
  · exact keep (.modPort s p _)
  · exact keep (.refl s)

theorem stationDrivesLine (p : Station) (s : State) : AnswersFollow s (execStationDrivesLine p s) := by
  unfold execStationDrivesLine
  split
  · exact keep .of_frame
  · exact keep .of_frame
  all_goals exact keep (.refl s)

theorem heartbeatExpiry (p : Station) (s : State) : AnswersFollow s (execHeartbeatExpiry p s) := by
  unfold execHeartbeatExpiry
  split
  · exact keep (.refl s)
  · exact keep (.modPort s p _)

theorem turnWindowExpiry (p : Station) (receiving : Bool) (s : State) :
    AnswersFollow s (execTurnWindowExpiry p receiving s) := by
  unfold execTurnWindowExpiry
  split
  · split
    · exact keep (.modPort s p _)
    · exact keep .of_frame
  · exact keep (.refl s)

theorem selfReportFormed (s : State) : AnswersFollow s (execSelfReportFormed s) := by
  refine keep (.ite (fun h => ?_) fun _ => .refl s)
  split
  · simp only [Bool.and_eq_true, decide_eq_true_eq] at h
    exact .formSelf _ h.2
  · exact .refl s

theorem reportApplied (s : State) : AnswersFollow s (execReportApplied s) := by
  unfold execReportApplied
  split
  · exact keep (.refl s)
  · exact keep .of_frame

end AnswersFollow

/-- Every command but those of a reset answers a state whose records, topology and queues follow those it found. -/
theorem exec_follow (c : Instr) (hc : c.resets = false) (s : State) : AnswersFollow s (exec c s) := by
  cases c with
  | powerOn => cases hc
  | resetNLow => cases hc
  | resetEnd => cases hc
  | keyPinChange level => exact .keep (.of_frame rfl rfl rfl)
  | keyDebounceExpiry dcLink => exact .keyDebounceExpiry dcLink s
  | configureWindowExpiry dcLink => exact .configureWindowExpiry dcLink s
  | reqChange p level => exact .keep (.modPort s p _)
  | hello p turn payload => exact .keep (.ite (fun _ => .of_frame) fun _ => .takeFrame (fun _ => .of_frame) s)
  | status p turn payload | adopt p turn payload => exact .keep (.takeFrame (fun _ => .of_frame) s)
  | report p turn payload => exact .keep (.takeFrame (.receipted (.judgeReport p payload)) s)
  | snapshot p turn payload => exact .keep (.takeFrame (.receipted (.judgeSnapshot p payload)) s)
  | clear p turn payload | discardEntry p turn payload | discardAllRetired p turn payload
  | clearOverflow p turn payload | commit p turn payload =>
    exact .keep (.takeFrame (.receipted fun _ => .of_frame) s)
  | readTable p turn payload | readEntry p turn payload | readSnapshot p turn payload | readEnvelope p turn payload
  | readMonitor p turn payload | readOverflow p turn payload | readIdent p turn payload =>
    exact .keep (.takeRead p turn _ s)
  | zoneRecord p turn payload =>
    exact .write (.takeConfig (fun t h => .of_configure h (hz := t.judgeZone_zone15 payload)) s)
  | classRecord p turn payload =>
    exact .write (.takeConfig (fun t h => .of_configure h (hk := t.judgeClass_class21 payload)) s)
  | responseRecord p turn payload =>
    exact .write (.takeConfig (fun t h => .of_configure h (hk := t.judgeResponse_class21 payload)) s)
  | levelRecord p turn payload | scanRecord p turn payload | channelsRecord p turn payload
  | comparatorRecord p turn payload dcLink | timingRecord p turn payload | weightRecord p turn payload =>
    exact .write (.takeConfig (fun _ h => .of_configure h) s)
  | discardedFrame p cause =>
    exact .keep (.ite (fun _ => .ite (fun _ => .modPort s p _) fun _ => .refl s)
      fun _ => .takeFrame (fun _ => .of_frame) s)
  | outOfTurnFrame p => exact .keep .of_frame
  | brokenFrame p => exact .keep (.ite (fun _ => .of_frame) fun _ => .of_frame)
  | contention p => exact .contention p s
  | stationDrivesLine p => exact .stationDrivesLine p s
  | syncDue p | syncSent p | syncTurnExpiry p => exact .keep (.ite (fun _ => .modPort s p _) fun _ => .refl s)
  | grantSent p | envelopeSent p | receiptSent p | readReplySent p => exact .keep (.completeIf p _ s)
  | noticeSent => exact .keep (.completeIf .ride _ s)
  | heartbeatExpiry p => exact .heartbeatExpiry p s
  | turnWindowExpiry p receiving => exact .turnWindowExpiry p receiving s
  | outboundArbiterChoice p | expiredTurnLineIdle p | recoverQuietExpiry p =>
    exact .keep (.ite (fun _ => .of_frame) fun _ => .refl s)
  | snapshotWindowExpiry p => exact .keep (.truncate p s)
  | selfReportFormed => exact .selfReportFormed s
  | arbiterHandOff => exact .keep (.ite (fun _ => .handOff s) fun _ => .refl s)
  | reportApplied => exact .reportApplied s
  | scanDue | sampleComplete value | falling dcLink | rising dcLink =>
    exact .keep (.ite (fun _ => .of_frame) fun _ => .refl s)
  | noticeDelayExpiry | absoluteDelayExpiry | relaxHoldExpiry | parkedHoldExpiry =>
    dsimp only [exec, execNoticeDelayExpiry, execAbsoluteDelayExpiry, execRelaxHoldExpiry, execParkedHoldExpiry]
    split
    · exact .keep .of_frame
    · exact .keep (.refl s)
  | confirmWindowExpiry e | healHoldExpiry e =>
    dsimp only [exec, execConfirmWindowExpiry, execHealHoldExpiry]
    split
    · exact .keep .of_frame
    all_goals exact .keep (.refl s)
  | adoptionWindowExpiry p | mismatchTimerExpiry =>
    dsimp only [exec, execAdoptionWindowExpiry, execMismatchTimerExpiry]
    split
    · exact .keep .of_frame
    · exact .keep .of_frame
    all_goals exact .keep (.refl s)

/-! ### The commands of a reset -/

theorem State.enterReset_holds (resetN settled : Bool) (s : State) :
    FixedRecordsHold (s.enterReset resetN settled) ∧ QueuesFit (s.enterReset resetN settled) :=
  ⟨fixedRecordsHold_of_defaults rfl, fun q => by cases q <;> exact Nat.zero_le _⟩

/-- The end of RESET loads the defaults of the straps' topology and leaves the short queues as they are (R175). -/
theorem State.leaveReset_holds (topo : Topology) (key : Bool) (mV : Nat) {s : State} (hq : QueuesFit s) :
    FixedRecordsHold (s.leaveReset topo key mV) ∧ QueuesFit (s.leaveReset topo key mV) := by
  have kept (u : State) : KeepsRecords u (if key then u.enterConfigure mV else u) :=
    .ite (fun _ => .enterConfigure mV u) fun _ => .refl u
  exact ⟨(kept _).fixed (fixedRecordsHold_of_defaults rfl), (kept _).fit hq⟩

/-- A command of a reset answers a state that holds the fixed records, with its short queues within their bound. -/
theorem exec_reset_holds {c : Instr} (hc : c.resets = true) {s t : State} (hf : FixedRecordsHold s) (hq : QueuesFit s)
    (h : exec c s = .next t) : FixedRecordsHold t ∧ QueuesFit t := by
  cases c with
  | powerOn =>
    cases h
    exact s.enterReset_holds _ _
  | resetNLow =>
    cases h
    exact s.enterReset_holds _ _
  | resetEnd topo1 topo0 key mV =>
    cases h
    split
    · exact s.leaveReset_holds _ key mV hq
    · exact ⟨hf, hq⟩
  | _ => cases hc

/-! ### The statements -/

/-- A step lets one millisecond pass when no command waits, and runs the front command otherwise (log 1). -/
theorem step_cases {s t : State} (h : step s = .next t) :
    (s.pending = [] ∧ t = s.tick) ∨
      ∃ c rest, s.pending = c :: rest ∧ exec c { s with pending := rest } = .next t := by
  unfold step at h
  split at h
  · next hp => exact .inl ⟨hp, (Host.Outcome.next.inj h).symm⟩
  · next c rest hp => exact .inr ⟨c, rest, hp, h⟩

theorem State.tick_follow (s : State) : RecordsFollow s s.tick :=
  KeepsRecords.follow .of_frame

theorem exec_records {c : Instr} (hc : c.resets = false) {s t : State} (h : exec c s = .next t) : RecordsFollow s t := by
  obtain ⟨u, hu, follow⟩ := exec_follow c hc s
  cases h.symm.trans hu
  exact follow

/-- Settles O54, by what each command makes of the records and the queues: those of a reset load the defaults, which hold the
fixed records, and the others write neither zone 15 nor class 21 and queue a report only where there is room. -/
theorem everyStepKeepsFixedRecordsAndQueues : Obligations.EveryStepKeepsFixedRecordsAndQueues := by
  intro s t hf hq h
  obtain ⟨-, rfl⟩ | ⟨c, rest, -, he⟩ := step_cases h
  · exact ⟨s.tick_follow.fixed hf, s.tick_follow.queues hq⟩
  · cases hc : c.resets
    · have follow := exec_records hc he
      exact ⟨follow.fixed hf, follow.queues hq⟩
    · exact exec_reset_holds (s := { s with pending := rest }) hc hf hq he

/-- Settles O59, by what every command but those of a reset makes of the records; the premise on the configure window rules out
that its expiry loads the defaults outside CONFIGURE. -/
theorem recordsChangeOnlyInConfigure : Obligations.RecordsChangeOnlyInConfigure := by
  intro s t h hw hc
  obtain ⟨-, rfl⟩ | ⟨c, rest, hp, he⟩ := step_cases h
  · exact ⟨s.tick_follow.topology, s.tick_follow.config hw⟩
  · have follow := exec_records (Instr.resets_eq_false (hc c (by rw [hp]; rfl))) he
    exact ⟨follow.topology, follow.config hw⟩

/-- Settles O5, by RESET_END's two cases on the device state, and in RESET by each setting of the straps (R3). -/
theorem resetEndWithKeyLowEntersStandby : Obligations.ResetEndWithKeyLowEntersStandby := by
  intro topo1 topo0 mV s
  refine ⟨fun hs => ?_, fun hs key => ?_⟩
  · cases topo1 <;> cases topo0 <;> simp [exec, execResetEnd, hs, State.leaveReset, Topology.ofStraps]
  · simp [exec, execResetEnd, hs]

end Machine

end Sys2Proof
end

section
/-!
PROOFS. Ports, PARKED, STATUS forms and the configure window: what each command but those that pass between device states
makes of them is said once (`exec_links`), and the statement on every step follows.
-/
namespace Sys2Proof.Machine

open Sys2Proof

/-! ### The form of a STATUS -/

/-- The record is of the form that a station's STATUS takes (R36). -/
def StatusRec.fits (p : Station) (x : StatusRec) : Bool :=
  match p, x with
  | .ride, .ride .. | .front, .inverter .. | .rear, .inverter .. | .pack, .pack .. => true
  | _, _ => false

theorem StatusRec.fits_ride (x : StatusRec) : x.fits .ride = true ↔ ∃ throttle brake, x = .ride throttle brake := by
  cases x <;> simp [StatusRec.fits]

theorem StatusRec.fits_front (x : StatusRec) : x.fits .front = true ↔ ∃ speed temperature, x = .inverter speed temperature := by
  cases x <;> simp [StatusRec.fits]

theorem StatusRec.fits_rear (x : StatusRec) : x.fits .rear = true ↔ ∃ speed temperature, x = .inverter speed temperature := by
  cases x <;> simp [StatusRec.fits]

theorem StatusRec.fits_pack (x : StatusRec) :
    x.fits .pack = true ↔ ∃ voltage current charge, x = .pack voltage current charge := by
  cases x <;> simp [StatusRec.fits]

theorem statusFormsHold_iff (s : State) :
    StatusFormsHold s ↔ ∀ p x, (s.port p).status = some x → x.fits p = true := by
  constructor
  · rintro ⟨ride, front, rear, pack⟩ p x hx
    cases p with
    | ride => exact (StatusRec.fits_ride x).2 (ride x hx)
    | front => exact (StatusRec.fits_front x).2 (front x hx)
    | rear => exact (StatusRec.fits_rear x).2 (rear x hx)
    | pack => exact (StatusRec.fits_pack x).2 (pack x hx)
  · intro h
    exact ⟨fun x hx => (StatusRec.fits_ride x).1 (h .ride x hx), fun x hx => (StatusRec.fits_front x).1 (h .front x hx),
      fun x hx => (StatusRec.fits_rear x).1 (h .rear x hx), fun x hx => (StatusRec.fits_pack x).1 (h .pack x hx)⟩

/-- A parsed STATUS is of its station's form (R36). -/
theorem parseStatus_fits {p : Station} {payload : List Byte} {r : StatusRec} (h : parseStatus p payload = some r) :
    r.fits p = true := by
  unfold parseStatus at h
  split at h
  · simp only [Option.bind_eq_bind, Option.bind_eq_some_iff, Option.some.injEq] at h
    obtain ⟨_, -, _, -, rfl⟩ := h
    rfl
  · simp only [Option.map_eq_some_iff] at h
    obtain ⟨_, -, rfl⟩ := h
    rfl
  · simp only [Option.map_eq_some_iff] at h
    obtain ⟨_, -, rfl⟩ := h
    rfl
  · simp only [Option.bind_eq_bind, Option.bind_eq_some_iff, Option.some.injEq] at h
    obtain ⟨_, -, _, -, rfl⟩ := h
    rfl
  · cases h

/-! ### PARKED in three blocks -/

theorem ParkedAgrees.of_eq {s t : State} (hm : t.motion.parked = s.motion.parked) (hl : t.ladder.parked = s.ladder.parked)
    (hf : t.faults.parked = s.faults.parked) (h : ParkedAgrees s) : ParkedAgrees t :=
  ⟨by rw [hl, hm, h.1], by rw [hf, hm, h.2]⟩

/-- The Ladder and the Fault Table take the PARKED state that Motion reports (R169). -/
@[simp] theorem State.reportParked_parked (b : Bool) (s : State) :
    (s.reportParked b).ladder.parked = b ∧ (s.reportParked b).faults.parked = b := by
  unfold State.reportParked
  split
  · split <;> simp
  · exact ⟨rfl, rfl⟩

theorem parkedAgrees_reportParked {b : Bool} {s : State} (h : s.motion.parked = b) : ParkedAgrees (s.reportParked b) := by
  unfold ParkedAgrees
  simp [h]

theorem parkedAgrees_moveMotion (m : Motion) {s : State} (h : ParkedAgrees s) : ParkedAgrees (s.moveMotion m) := by
  unfold State.moveMotion
  dsimp only
  split
  · next same => exact h.of_eq (by simpa using same) (by simp) (by simp)
  · exact parkedAgrees_reportParked (by simp)

theorem parkedAgrees_stopMotion {s : State} (h : ParkedAgrees s) : ParkedAgrees s.stopMotion := by
  unfold State.stopMotion
  dsimp only
  split
  · exact parkedAgrees_reportParked rfl
  · next fallen => exact h.of_eq (Bool.eq_false_iff.2 fallen).symm rfl rfl

/-! ### Ports that must be OFFLINE -/

/-- Port `p` must be OFFLINE: the device is in RESET or STANDBY, or the port's station is absent (R19, R4). -/
def State.asleep (s : State) (p : Station) : Prop :=
  s.device.state = .reset ∨ s.device.state = .standby ∨ s.device.topology.present p = false

theorem State.asleep_congr {s t : State} (h : t.device = s.device) (p : Station) : t.asleep p ↔ s.asleep p := by
  unfold State.asleep
  rw [h]

theorem portsFollow_iff (s : State) : PortsFollow s ↔ ∀ p, s.asleep p → (s.port p).state = .offline := by
  constructor
  · rintro ⟨rest, absent⟩ p (reset | standby | gone)
    · exact rest (.inl reset) p
    · exact rest (.inr standby) p
    · exact absent p gone
  · intro h
    exact ⟨fun rest p => h p (rest.elim .inl fun standby => .inr (.inl standby)), fun p gone => h p (.inr (.inr gone))⟩

/-! ### What an operation keeps -/

/-- `t` has come from `s` by what sends no port to sleep, wakes none that must sleep, and keeps the other three conditions. -/
structure LinksKept (s t : State) : Prop where
  asleep : ∀ p, t.asleep p → s.asleep p
  offline : ∀ p, t.asleep p → (s.port p).state = .offline → (t.port p).state = .offline
  status : StatusFormsHold s → StatusFormsHold t
  parked : ParkedAgrees s → ParkedAgrees t
  window : WindowInConfigure s → WindowInConfigure t

namespace LinksKept

theorem refl (s : State) : LinksKept s s := ⟨fun _ => id, fun _ _ => id, id, id, id⟩

theorem trans {s t u : State} (h : LinksKept s t) (g : LinksKept t u) : LinksKept s u where
  asleep p hu := h.asleep p (g.asleep p hu)
  offline p hu hp := g.offline p hu (h.offline p (g.asleep p hu) hp)
  status := g.status ∘ h.status
  parked := g.parked ∘ h.parked
  window := g.window ∘ h.window

theorem ite {c : Prop} [Decidable c] {s a b : State} (ha : c → LinksKept s a) (hb : ¬c → LinksKept s b) :
    LinksKept s (if c then a else b) := by
  split
  · exact ha ‹_›
  · exact hb ‹_›

theorem ite_fst {c : Prop} [Decidable c] {s : State} {a b : State × Verdict} (ha : LinksKept s a.1)
    (hb : LinksKept s b.1) : LinksKept s (if c then a else b).1 := by
  split
  · exact ha
  · exact hb

theorem foldl {α : Type} {g : State → α → State} (h : ∀ s a, LinksKept s (g s a)) (l : List α) (s : State) :
    LinksKept s (l.foldl g s) :=
  foldl_holds (LinksKept s) (fun t a ht => ht.trans (h t a)) l s (refl s)

/-- An operation that leaves the device alone, and changes the state and the STATUS of no port. -/
theorem of_fields {s t : State} (state : ∀ p, (t.port p).state = (s.port p).state)
    (status : ∀ p, (t.port p).status = (s.port p).status)
    (parked : ParkedAgrees s → ParkedAgrees t) (hd : t.device = s.device := by simp) : LinksKept s t where
  asleep p := (State.asleep_congr hd p).1
  offline p _ hp := by rwa [state]
  status := by
    simp only [statusFormsHold_iff, status]
    exact id
  parked := parked
  window := by
    unfold WindowInConfigure
    rw [hd]
    exact id

/-- An operation whose frame holds the device and the ports. -/
theorem of_ports {s t : State} (parked : ParkedAgrees s → ParkedAgrees t) (hd : t.device = s.device := by simp)
    (hp : t.ports = s.ports := by simp) : LinksKept s t :=
  of_fields (fun p => by rw [State.port_congr hp]) (fun p => by rw [State.port_congr hp]) parked hd

/-- An operation whose frame holds the device, the ports and PARKED. -/
theorem of_frame {s t : State} (hd : t.device = s.device := by simp) (hp : t.ports = s.ports := by simp)
    (hm : t.motion = s.motion := by simp) (hl : t.ladder.parked = s.ladder.parked := by simp)
    (hf : t.faults.parked = s.faults.parked := by simp) : LinksKept s t :=
  of_ports (.of_eq (by rw [hm]) hl hf) hd hp

/-- An operation that places at most ENVELOPEs on ports. -/
theorem of_reached {s t : State} (h : s.PortsReached t) (parked : ParkedAgrees s → ParkedAgrees t)
    (hd : t.device = s.device := by simp) : LinksKept s t := by
  refine of_fields (fun p => ?_) (fun p => ?_) parked hd
  · obtain ⟨state, -⟩ := (h p).fields
    exact state
  · obtain ⟨-, -, -, -, -, -, -, -, -, -, -, -, -, -, -, -, -, -, -, -, status⟩ := (h p).fields
    exact status

/-- A port changes: it leaves OFFLINE only where it need not sleep, and takes a STATUS of its form only. -/
theorem setPort {s t : State} (h : LinksKept s t) {p : Station} {o : Port}
    (state : o.state = (t.port p).state ∨ o.state = .offline ∨ (s.port p).state ≠ .offline ∨ ¬ t.asleep p)
    (status : ∀ x, o.status = some x → (t.port p).status = some x ∨ x.fits p = true) :
    LinksKept s (t.setPort p o) where
  asleep := h.asleep
  offline q ht hq := by
    by_cases e : q = p
    · subst e
      rw [State.port_setPort]
      obtain same | off | on | awake := state
      · exact same.trans (h.offline q ht hq)
      · exact off
      · exact absurd hq on
      · exact absurd ht awake
    · rw [State.port_setPort_ne _ _ e]
      exact h.offline q ht hq
  status hs := by
    have held := (statusFormsHold_iff t).1 (h.status hs)
    refine (statusFormsHold_iff _).2 fun q x hx => ?_
    by_cases e : q = p
    · subst e
      rw [State.port_setPort] at hx
      exact (status x hx).elim (held q x) id
    · rw [State.port_setPort_ne _ _ e] at hx
      exact held q x hx
  parked := h.parked
  window := h.window

/-- A port changes, but neither its state nor its STATUS. -/
theorem modPort {p : Station} {f : Port → Port} (s : State) (state : ∀ o, (f o).state = o.state := by intro _; rfl)
    (status : ∀ o, (f o).status = o.status := by intro _; rfl) : LinksKept s (s.modPort p f) :=
  (refl s).setPort (.inl (state _)) fun _ hx => .inl (by rwa [status] at hx)

/-- A port that is not OFFLINE changes, but not its STATUS. -/
theorem modPort_of_ne {s : State} {p : Station} {f : Port → Port} (h : (s.port p).state ≠ .offline)
    (status : ∀ o, (f o).status = o.status := by intro _; rfl) : LinksKept s (s.modPort p f) :=
  (refl s).setPort (.inr (.inr (.inl h))) fun _ hx => .inl (by rwa [status] at hx)

/-! ### Motion, the Ladder and the Fault Table -/

theorem moveMotion (m : Motion) (s : State) : LinksKept s (s.moveMotion m) :=
  of_reached (s.moveMotion_reaches m) (parkedAgrees_moveMotion m)

theorem motionPort (p : Station) (s : State) : LinksKept s (s.motionPort p) :=
  ite (fun _ => moveMotion _ s) fun _ => refl s

theorem publish (l : Limits) (cause : Option (Fin 48)) (s : State) : LinksKept s (s.publish l cause) :=
  of_reached (s.publish_reaches l cause) (.of_eq (by simp) (by simp) (by simp))

theorem publishWhole (l : Limits) (cause : Option (Fin 48)) (s : State) : LinksKept s (s.publishWhole l cause) :=
  (publish l cause s).trans (of_frame rfl rfl rfl rfl rfl)

theorem reform (s : State) : LinksKept s s.reform :=
  of_reached s.reform_reaches (.of_eq (by simp) (by simp) (by simp))

theorem tryStep (s : State) : LinksKept s s.tryStep :=
  of_reached s.tryStep_reaches (.of_eq (by simp) (by simp) (by simp))

theorem raiseParked (s : State) : LinksKept s s.raiseParked := by
  unfold State.raiseParked
  refine of_reached (.trans ?_ (State.reportParked_reaches true _)) fun _ => parkedAgrees_reportParked rfl
  exact .of_ports rfl

theorem stopMotion (s : State) : LinksKept s s.stopMotion := by
  refine of_reached ?_ parkedAgrees_stopMotion
  unfold State.stopMotion
  dsimp only
  split
  · refine .trans ?_ (State.reportParked_reaches false _)
    exact .of_ports rfl
  · exact .of_ports rfl

/-- The mismatch timer moves the detector alone (R170). -/
theorem assertMismatch (s : State) : LinksKept s s.assertMismatch := by
  refine of_ports (.of_eq ?_ (by simp) (by simp))
  unfold State.assertMismatch
  dsimp only
  split
  · simp
  · rfl

theorem settleMismatch (s : State) : LinksKept s s.settleMismatch := by
  refine of_ports (.of_eq ?_ (by simp) (by simp))
  simp [State.settleMismatch, Motion.quiet]

theorem relaxDue (s : State) : LinksKept s s.relaxDue := by
  unfold State.relaxDue
  refine trans ?_ (tryStep _)
  exact of_frame rfl rfl rfl rfl rfl

theorem handNotice (s : State) : LinksKept s s.handNotice :=
  modPort s (fun o => by split <;> rfl) fun o => by split <;> rfl

theorem reachHighWater (s : State) : LinksKept s s.reachHighWater := by
  unfold State.reachHighWater
  have stopped (t : State) : LinksKept t t.stopNoticeTimers := of_frame
  refine trans ?_ ((handNotice _).trans (stopped _))
  exact of_frame rfl rfl rfl rfl rfl

theorem notify (old : FaultTable) (s : State) : LinksKept s (s.notify old) :=
  ite (fun _ => reachHighWater s) fun _ => ite (fun _ => of_frame) fun _ => refl s

/-- What follows an event of the Fault Table (R60, R103, R117). -/
theorem settle (old : FaultTable) (s : State) : LinksKept s (s.settle old) := by
  have roots : LinksKept s s.settleRoots := of_frame
  have told (t : State) : LinksKept t (t.tellLadder old) := ite (fun _ => reform t) fun _ => refl t
  exact ite (fun _ => roots.trans ((notify old _).trans (told _))) fun _ => refl s

theorem settle_of_frame (old : FaultTable) {s t : State} (h : LinksKept s t) : LinksKept s (t.settle old) :=
  h.trans (settle old t)

/-! ### Frames in a turn -/

theorem countDiscard (p : Station) (s : State) : LinksKept s (s.countDiscard p) := modPort s

theorem restartQuiet (p : Station) (s : State) : LinksKept s (s.restartQuiet p) := modPort s

theorem addVerdict (p : Station) (v : Verdict) (s : State) : LinksKept s (s.addVerdict p v) := modPort s

theorem placeEnvelope (p : Station) (s : State) : LinksKept s (s.placeEnvelope p) := modPort s

/-- A port that was not OFFLINE at the start ends its turn (R25). -/
theorem endTurn {s t : State} (h : LinksKept s t) (how : TurnEnd) {p : Station} (on : (s.port p).state ≠ .offline) :
    LinksKept s (t.endTurn how p) := by
  have silence (u : State) (silent : Bool) : LinksKept u (u.motionSilence p silent) := of_frame
  unfold State.endTurn
  refine trans (h.setPort (.inr (.inr (.inl on))) fun x hx => .inl ?_) ((silence _ _).trans (motionPort p _))
  rw [← hx]
  cases how <;> dsimp only [Port.afterTurn, Port.toHold, Port.toRecover, Port.closeTurn] <;> split <;> rfl

theorem refuseFrame (p : Station) (s : State) : LinksKept s (s.refuseFrame p) := by
  unfold State.refuseFrame
  split
  · exact ite (fun _ => refl s) fun _ => countDiscard p s
  · exact (countDiscard p s).trans (restartQuiet p _)
  all_goals exact refl s

theorem refuseBroken (p : Station) (s : State) : LinksKept s (s.refuseBroken p) := by
  unfold State.refuseBroken
  split
  · exact countDiscard p s
  · exact (countDiscard p s).trans (restartQuiet p _)
  all_goals exact refl s

theorem ne_offline_of_inTurn {p : Station} {s : State} (h : s.inTurn p = true) : (s.port p).state ≠ .offline := by
  simp only [State.inTurn, Bool.and_eq_true, beq_iff_eq] at h
  rw [h.1]
  decide

/-- A frame keeps what its block keeps. -/
theorem takeFrame {p : Station} {turn : Bool} {hand : State → State} (h : ∀ t, LinksKept t (hand t)) (s : State) :
    LinksKept s (s.takeFrame p turn hand) := by
  have counted : LinksKept s (s.modPort p fun o => { o with frames := o.frames + 1 }) := modPort s
  refine ite (fun on => ?_) fun _ => refuseFrame p s
  unfold State.takeInTurn
  have handed := counted.trans (ite (c := (s.port p).frames < turnFrameMax) (fun _ => h _) fun _ => countDiscard p _)
  exact ite (fun _ => handed.endTurn .normal (ne_offline_of_inTurn on)) fun _ => handed

/-- A receipted frame keeps what its judge keeps. -/
theorem receipted {p : Station} {judge : State → State × Verdict} (h : ∀ t, LinksKept t (judge t).1) (s : State) :
    LinksKept s (State.receipted p judge s) :=
  (h s).trans (addVerdict p _ _)

theorem join (p : Station) (s : State) : LinksKept s (s.join p) := by
  unfold State.join
  refine trans ?_ (placeEnvelope p _)
  exact of_frame rfl rfl rfl rfl rfl

theorem synchronised (p : Station) (s : State) : LinksKept s (s.synchronised p) := by
  have silence : LinksKept s (s.motionSilence p false) := of_frame
  exact silence.trans ((motionPort p _).trans (join p _))

theorem helloInSync (p : Station) (payload : List Byte) {s : State} (h : (s.port p).state ≠ .offline) :
    LinksKept s (s.helloInSync p payload) := by
  refine ite (fun _ => ?_) fun _ => refl s
  split
  · have cleared (t : State) : LinksKept t (t.setCond (linkLostCond p) false none) := of_frame
    exact (modPort_of_ne h).trans ((cleared _).trans (synchronised p _))
  · exact modPort s

theorem helloInTurn (p : Station) (payload : List Byte) (s : State) : LinksKept s (s.helloInTurn p payload) := by
  unfold State.helloInTurn
  split
  · exact (modPort s).trans (synchronised p _)
  · exact countDiscard p s

theorem keepStatus {p : Station} {r : StatusRec} (h : r.fits p = true) (s : State) : LinksKept s (s.keepStatus p r) :=
  (refl s).setPort (.inl rfl) fun _ hx => .inr (Option.some.inj hx ▸ h)

theorem statusInTurn (p : Station) (payload : List Byte) (s : State) : LinksKept s (s.statusInTurn p payload) := by
  unfold State.statusInTurn
  split
  · exact countDiscard p s
  · next h => exact (keepStatus (parseStatus_fits h) s).trans (moveMotion _ _)
  · next h => exact keepStatus (parseStatus_fits h) s

theorem adoptInTurn (p : Station) (payload : List Byte) (s : State) : LinksKept s (s.adoptInTurn p payload) := by
  have complete (t : State) : LinksKept t t.testComplete := by
    unfold State.testComplete
    refine ite (fun _ => ?_) fun _ => refl t
    have adopted (u : State) : LinksKept u u.completeAdoption := of_frame
    refine trans ?_ ((adopted _).trans (tryStep _))
    exact of_frame rfl rfl rfl rfl rfl
  have current : LinksKept s (s.adoptCurrent p) := by
    unfold State.adoptCurrent
    refine trans ?_ (complete _)
    exact ite (fun _ => of_frame) fun _ => of_frame
  unfold State.adoptInTurn
  split
  · exact ite (fun _ => of_frame) fun _ => ite (fun _ => current) fun _ => refl s
  · exact countDiscard p s

/-! ### The Fault Table's answers -/

theorem retireEntry (e : Fin 48) (o : EpisodeEnd) (s : State) : LinksKept s (s.retireEntry e o) :=
  settle_of_frame s.faults of_frame

theorem judgeClearEntry (p : Station) (e : Fin 48) (s : State) : LinksKept s (s.judgeClearEntry p e).1 :=
  ite_fst (refl s) (ite_fst (refl s) (ite_fst (refl s) (ite_fst (refl s) (retireEntry e .cleared s))))

theorem judgeClear (p : Station) (payload : List Byte) (s : State) : LinksKept s (s.judgeClear p payload).1 := by
  refine ite_fst (refl s) ?_
  split
  · exact refl s
  · split
    · exact refl s
    · exact judgeClearEntry p _ s

theorem judgeDiscardEntry (p : Station) (payload : List Byte) (s : State) :
    LinksKept s (s.judgeDiscardEntry p payload).1 := by
  refine ite_fst (refl s) ?_
  split
  · exact refl s
  · exact ite_fst (refl s) (ite_fst (refl s) (settle_of_frame s.faults of_frame))

theorem judgeDiscardAll (p : Station) (payload : List Byte) (s : State) : LinksKept s (s.judgeDiscardAll p payload).1 := by
  have freed : LinksKept s s.freeRetired := of_frame
  have settled : LinksKept s (s.freeRetired.settle s.faults) := settle_of_frame s.faults freed
  refine ite_fst (refl s) (ite_fst (refl s) (ite_fst (refl s) ?_))
  dsimp only
  exact settled

theorem judgeClearOverflow (p : Station) (payload : List Byte) (s : State) :
    LinksKept s (s.judgeClearOverflow p payload).1 := by
  have cleared : LinksKept s s.clearCells := of_frame
  exact ite_fst (refl s) (ite_fst (refl s) (ite_fst (refl s) (ite_fst (refl s) (cleared.trans (settle _ _)))))

/-! ### READ, CONFIG and COMMIT -/

theorem takeRead (p : Station) (turn : Bool) (target : Option ReadTarget) (s : State) :
    LinksKept s (s.takeRead p turn target) := by
  refine takeFrame (receipted fun t => ?_) s
  unfold State.judgeRead
  split
  · exact refl t
  · split
    · exact refl t
    · exact modPort (p := p) (f := fun o => { o with replies := o.replies ++ [_] }) t

theorem takeConfig {p : Station} {turn : Bool} {judge : State → State × Verdict} (h : ∀ t, LinksKept t (judge t).1)
    (s : State) : LinksKept s (s.takeConfig p turn judge) :=
  takeFrame (receipted fun t => State.judgeConfig_holds (LinksKept t) (fun _ _ => h t) (refl t)) s

theorem loseIfSync (s : State) (p : Station) : LinksKept s (s.loseIfSync p) :=
  ite (fun _ => of_frame) fun _ => refl s

/-- Entry to RUN moves no port and ends the configure window (R181). -/
theorem enterRun (way : RunEntry) (s : State) : LinksKept s (s.enterRun way) := by
  have entered : LinksKept s { s with device := { s.device with state := .run, configureWindow := none, way := way } } :=
    { asleep := by simp +contextual [State.asleep], offline := fun _ _ => id, status := id, parked := id
      window := by simp [WindowInConfigure] }
  have roots (t : State) : LinksKept t t.settleRoots := of_frame
  have marked (t : State) : LinksKept t t.markConds := of_frame
  unfold State.enterRun
  refine trans ?_ (marked _)
  refine trans ?_ (foldl loseIfSync stations _)
  refine trans ?_ (publishWhole _ _ _)
  exact entered.trans (roots _)

theorem recordCheck (failed : Option Nat) (s : State) : LinksKept s (s.recordCheck failed) :=
  ⟨fun _ => id, fun _ _ => id, id, id, id⟩

theorem judgeConsistency (s : State) : LinksKept s s.judgeConsistency.1 := by
  unfold State.judgeConsistency
  dsimp only
  split
  · exact recordCheck _ s
  · exact (recordCheck _ s).trans (enterRun .commit _)

theorem judgeCommit (p : Station) (payload : List Byte) (s : State) : LinksKept s (s.judgeCommit p payload).1 :=
  ite_fst (refl s) (ite_fst (refl s) (ite_fst (refl s) (judgeConsistency s)))

theorem expireConfigure (mV : Nat) (s : State) : LinksKept s (s.expireConfigure mV) := by
  have loaded (t : State) : LinksKept t (t.loadDefaults mV) := of_frame
  have told (t : State) (d : Option Detail) : LinksKept t (t.setCond 23 true d) := of_frame
  unfold State.expireConfigure
  refine trans ?_ (told _ _)
  split
  · exact (recordCheck _ s).trans ((loaded _).trans (enterRun _ _))
  · exact (recordCheck _ s).trans (enterRun _ _)

/-! ### The ports' own events -/

theorem leaveExchange (p : Station) (s : State) : LinksKept s (s.leaveExchange p) := of_frame

/-- A port takes a state without a STATUS and leaves the exchange if it was in it (R19, R20). -/
theorem leavePort {s : State} {p : Station} {o : Port}
    (state : o.state = .offline ∨ (s.port p).state ≠ .offline ∨ ¬ s.asleep p) (status : o.status = none) :
    LinksKept s (State.motionPort p
      (if (s.port p).inExchange then (s.setPort p o).leaveExchange p else s.setPort p o)) := by
  have moved : LinksKept s (s.setPort p o) :=
    (refl s).setPort (.inr state) fun x hx => by simp [status] at hx
  exact trans (ite (fun _ => moved.trans (leaveExchange p _)) fun _ => moved) (motionPort p _)

theorem enterOffline (p : Station) (s : State) : LinksKept s (s.enterOffline p) := by
  unfold State.enterOffline
  exact ite (fun _ => refl s) fun _ => leavePort (.inl rfl) rfl

theorem enterSync {p : Station} {s : State} (h : (s.port p).state ≠ .offline ∨ ¬ s.asleep p) :
    LinksKept s (s.enterSync p) :=
  leavePort (.inr h) rfl

theorem contend (p : Station) (f : OutFrame) (s : State) : LinksKept s (s.modPort p (Port.contend f)) :=
  modPort s (fun o => by cases f <;> rfl) fun o => by cases f <;> rfl

theorem contention {p : Station} (f : OutFrame) {s : State} (h : (s.port p).state ≠ .offline) :
    LinksKept s (s.contention p f) := by
  have on : ((s.modPort p (Port.contend f)).port p).state ≠ .offline := by
    rw [State.port_modPort]
    cases f <;> exact h
  have lost (t : State) : LinksKept t (t.setCond (linkLostCond p) true none) := of_frame
  refine (contend p f s).trans (ite (fun _ => ?_) fun _ => ?_)
  · exact (modPort_of_ne on).trans (motionPort p _)
  · exact (enterSync (.inl on)).trans (lost _)

theorem breakTurn {p : Station} {s : State} (h : (s.port p).state ≠ .offline) : LinksKept s (s.breakTurn p) := by
  unfold State.breakTurn
  have counted : LinksKept s (s.modPort p fun o => { o with frames := o.frames + 1 }) := modPort s
  exact (counted.trans (countDiscard p _)).endTurn .broken h

theorem completeIf (p : Station) (is : Sending → Bool) (s : State) : LinksKept s (s.completeIf p is) := by
  unfold State.completeIf
  split
  · next hold _ =>
    refine ite (fun _ => ?_) fun _ => refl s
    have told (f : OutFrame) : LinksKept s (s.tellSent p f) := of_frame
    refine (told _).setPort (.inr (.inr (.inl (by rw [hold]; decide)))) fun x hx => .inl ?_
    split at hx <;> exact hx
  · exact refl s

theorem startFrame (p : Station) (s : State) : LinksKept s (s.startFrame p) := by
  unfold State.startFrame
  split
  · exact refl s
  · next f o h =>
    have same : o.state = (s.port p).state ∧ o.status = (s.port p).status := by
      unfold Port.nextFrame at h
      repeat' split at h
      all_goals cases h
      all_goals exact ⟨rfl, rfl⟩
    exact (refl s).setPort (.inl same.1) fun x hx => .inl (by rwa [← same.2])

/-! ### The passages between device states -/

/-- A port wakes into SYNC in CONFIGURE, where its station is present (R19, R177). -/
theorem wakePort {s : State} (h : s.device.state = .configure) (p : Station) : LinksKept s (s.wakePort p) :=
  ite (fun here => enterSync (.inr (by simp [State.asleep, h, here]))) fun _ => refl s

theorem enterConfigure (mV : Nat) (s : State) : LinksKept s (s.enterConfigure mV) := by
  have entered : LinksKept s { s with device := { s.device with
      state := .configure, configureWindow := some configureWindowMs, check := .none, way := .notYet } } :=
    { asleep := by simp +contextual [State.asleep], offline := fun _ _ => id, status := id, parked := id
      window := by simp [WindowInConfigure] }
  have woken (t : State) (ht : t.device.state = .configure) :
      LinksKept t (stations.foldl State.wakePort t) ∧ (stations.foldl State.wakePort t).device.state = .configure :=
    foldl_holds (fun u => LinksKept t u ∧ u.device.state = .configure)
      (fun u p ⟨hu, state⟩ => ⟨hu.trans (wakePort state p), by simpa using state⟩) stations t ⟨refl t, ht⟩
  have started (t : State) : LinksKept t (t.startMonitor mV) := of_frame
  unfold State.enterConfigure
  refine trans ?_ (publishWhole _ _ _)
  refine trans ?_ (started _)
  exact entered.trans (woken _ rfl).1

/-- The end of RESET, from which every port goes asleep into STANDBY (R175). -/
theorem leaveReset (topo : Topology) (key : Bool) (mV : Nat) {s : State} (h : s.device.state = .reset) :
    LinksKept s (s.leaveReset topo key mV) := by
  unfold State.leaveReset
  refine trans ?_ (ite (fun _ => enterConfigure mV _) fun _ => refl _)
  exact
    { asleep := fun _ _ => .inl h, offline := fun _ _ => id, status := id, parked := id
      window := fun hw running => by simp [hw running] at h }

end LinksKept

/-- `t` holds each of the four conditions that `s` holds. -/
structure LinksFollow (s t : State) : Prop where
  ports : PortsFollow s → PortsFollow t
  parked : ParkedAgrees s → ParkedAgrees t
  status : StatusFormsHold s → StatusFormsHold t
  window : WindowInConfigure s → WindowInConfigure t

theorem LinksFollow.trans {s t u : State} (h : LinksFollow s t) (g : LinksFollow t u) : LinksFollow s u :=
  ⟨g.ports ∘ h.ports, g.parked ∘ h.parked, g.status ∘ h.status, g.window ∘ h.window⟩

theorem LinksKept.follow {s t : State} (h : LinksKept s t) : LinksFollow s t where
  ports := by
    simp only [portsFollow_iff]
    exact fun hs p ht => h.offline p ht (hs p (h.asleep p ht))
  parked := h.parked
  status := h.status
  window := h.window

/-- Every block takes its power-on values, in which the conditions hold (R174). -/
theorem State.enterReset_links (resetN settled : Bool) (s : State) : LinksFollow s (s.enterReset resetN settled) where
  ports _ := (portsFollow_iff _).2 fun p _ => by cases p <;> rfl
  parked _ := ⟨rfl, rfl⟩
  status _ := (statusFormsHold_iff _).2 fun p x hx => by cases p <;> cases hx
  window _ h := by cases h

theorem State.portOff_offline (s : State) (p : Station) : ((s.portOff p).port p).state = .offline := by
  unfold State.portOff State.enterOffline
  dsimp only
  split
  · assumption
  · have left : ((if (s.port p).inExchange then (s.setPort p (s.port p).toOffline).leaveExchange p
        else s.setPort p (s.port p).toOffline).port p).state = .offline := by
      split
      · rw [State.port_congr (s := s.setPort p (s.port p).toOffline) (by simp), State.port_setPort]
        rfl
      · rw [State.port_setPort]
        rfl
    obtain ⟨state, -⟩ := (State.motionPort_reaches p _ p).fields
    exact state.trans left

/-- Ports that go OFFLINE one after another, where they must sleep, stay there. -/
theorem State.foldl_portOff_offline (l : List Station) {s : State} {p : Station} (h : s.asleep p)
    (hp : p ∈ l ∨ (s.port p).state = .offline) : ((l.foldl State.portOff s).port p).state = .offline := by
  induction l generalizing s with
  | nil => exact hp.resolve_left (by simp)
  | cons q l ih =>
    have h' : (s.portOff q).asleep p := (State.asleep_congr (by simp) p).2 h
    refine ih h' ?_
    obtain off | off := hp
    · obtain rfl | hl := List.mem_cons.1 off
      · exact .inr (s.portOff_offline p)
      · exact .inl hl
    · exact .inr ((LinksKept.enterOffline q s).offline p h' off)

/-- Key-off takes every port OFFLINE and leaves no configure window (R184, R19). -/
theorem State.keyOff_links (s : State) : LinksFollow s s.keyOff := by
  let standby : State := { s with device := { s.device with state := .standby, configureWindow := none } }
  let u := stations.foldl State.portOff standby.finishReport
  have parting : LinksKept standby u := by
    have finished : LinksKept standby standby.finishReport := .of_frame
    exact finished.trans (.foldl (fun t p => .enterOffline p t) stations _)
  have ended (t : State) : LinksKept t t.endEpisodes := .of_frame
  have purged (t : State) : LinksKept t t.purgeIntake.purgeTable.stopMonitor := .of_frame
  have rest : LinksKept u s.keyOff := by
    unfold State.keyOff
    refine .trans ?_ (ended _)
    refine .trans ?_ (.publishWhole _ _ _)
    exact (purged _).trans (.stopMotion _)
  have asleep (p : Station) : s.keyOff.asleep p := .inr (.inl (by simp [State.keyOff]))
  refine ⟨fun _ => (portsFollow_iff _).2 fun p _ => ?_, fun hs => rest.parked (parting.parked hs),
    fun hs => rest.status (parting.status hs), fun _ => rest.window (parting.window fun h => by cases h)⟩
  refine rest.offline p (asleep p) (State.foldl_portOff_offline stations (.inr (.inl (by simp [standby]))) (.inl ?_))
  cases p <;> decide

/-! ### What each command makes of the conditions -/

/-- The command answers a next state that holds each of the four conditions that `s` holds. -/
def AnswersLinks (s : State) (o : Host.Outcome State Fault Refusal) : Prop :=
  ∃ t, o = .next t ∧ LinksFollow s t

namespace AnswersLinks

theorem keep {s t : State} (h : LinksKept s t) : AnswersLinks s (.next t) := ⟨t, rfl, h.follow⟩

theorem resetEnd (topo1 topo0 key : Bool) (mV : Nat) (s : State) : AnswersLinks s (execResetEnd topo1 topo0 key mV s) :=
  keep (.ite (fun h => .leaveReset _ key mV h) fun _ => .refl s)

theorem keyDebounceExpiry (mV : Nat) (s : State) : AnswersLinks s (execKeyDebounceExpiry mV s) := by
  unfold execKeyDebounceExpiry
  split
  · exact keep (.refl s)
  · have sampled : LinksFollow s { s with device := { s.device with debounce := none, keyLevel := s.device.keyPin } } :=
      ⟨id, id, id, id⟩
    refine ⟨_, rfl, sampled.trans ?_⟩
    split
    · unfold State.keyHigh
      split
      · exact (LinksKept.enterConfigure mV _).follow
      all_goals exact (LinksKept.refl _).follow
    · unfold State.keyLow
      split
      · exact State.keyOff_links _
      · exact State.keyOff_links _
      all_goals exact (LinksKept.refl _).follow

theorem configureWindowExpiry (mV : Nat) (s : State) : AnswersLinks s (execConfigureWindowExpiry mV s) := by
  unfold execConfigureWindowExpiry
  split
  · exact keep (.refl s)
  · exact keep (.expireConfigure mV s)

theorem hello (p : Station) (turn : Bool) (payload : List Byte) (s : State) :
    AnswersLinks s (execHello p turn payload s) := by
  refine keep (.ite (fun sync => .helloInSync p payload ?_) fun _ => .takeFrame (.helloInTurn p payload) s)
  rw [sync]
  decide

theorem discardedFrame (p : Station) (cause : DiscardCause) (s : State) :
    AnswersLinks s (execDiscardedFrame p cause s) :=
  keep (.ite (fun _ => .ite (fun _ => .modPort s) fun _ => .refl s) fun _ => .takeFrame (.countDiscard p) s)

theorem contention (p : Station) (s : State) : AnswersLinks s (execContention p s) := by
  unfold execContention
  split
  · next hold _ => exact keep (.contention _ (by rw [hold]; decide))
  · exact keep (.modPort s)
  · exact keep (.refl s)

theorem stationDrivesLine (p : Station) (s : State) : AnswersLinks s (execStationDrivesLine p s) := by
  unfold execStationDrivesLine
  split
  · exact keep (.restartQuiet p s)
  · exact keep (.ite (fun _ => .modPort s) fun _ => .ite (fun _ => .refl s) fun _ => .modPort s)
  all_goals exact keep (.refl s)

theorem heartbeatExpiry (p : Station) (s : State) : AnswersLinks s (execHeartbeatExpiry p s) := by
  unfold execHeartbeatExpiry
  split
  · exact keep (.refl s)
  · exact keep (.modPort s)

theorem turnWindowExpiry (p : Station) (receiving : Bool) (s : State) :
    AnswersLinks s (execTurnWindowExpiry p receiving s) := by
  unfold execTurnWindowExpiry
  split
  · next turn _ =>
    split
    · exact keep (.modPort s)
    · exact keep ((LinksKept.refl s).endTurn .expiry (by rw [turn]; decide))
  · exact keep (.refl s)

theorem expiredTurnLineIdle (p : Station) (s : State) : AnswersLinks s (execExpiredTurnLineIdle p s) := by
  refine keep (.ite (fun expired => ?_) fun _ => .refl s)
  simp only [Bool.and_eq_true, decide_eq_true_eq] at expired
  exact (LinksKept.countDiscard p s).endTurn .expiry (by rw [expired.1]; decide)

theorem recoverQuietExpiry (p : Station) (s : State) : AnswersLinks s (execRecoverQuietExpiry p s) := by
  refine keep (.ite (fun recover => ?_) fun _ => .refl s)
  exact (LinksKept.modPort_of_ne (by rw [recover]; decide)).trans (.motionPort p _)

theorem reportApplied (s : State) : AnswersLinks s (execReportApplied s) := by
  unfold execReportApplied
  split
  · exact keep (.refl s)
  · exact keep (.settle_of_frame s.faults .of_frame)

theorem selfReportFormed (s : State) : AnswersLinks s (execSelfReportFormed s) := by
  refine keep (.ite (fun _ => ?_) fun _ => .refl s)
  split
  · exact .of_frame
  · exact .refl s

theorem adoptionWindowExpiry (p : Station) (s : State) : AnswersLinks s (execAdoptionWindowExpiry p s) := by
  unfold execAdoptionWindowExpiry
  split
  · have resent : LinksKept s (s.setAdoption p { s.adoption p with window := .resent, timer := none }) := .of_frame
    exact keep (resent.trans (.placeEnvelope p _))
  · exact keep .of_frame
  all_goals exact keep (.refl s)

theorem mismatchTimerExpiry (s : State) : AnswersLinks s (execMismatchTimerExpiry s) := by
  unfold execMismatchTimerExpiry
  split
  · exact keep (.assertMismatch s)
  · exact keep (.settleMismatch s)
  all_goals exact keep (.refl s)

end AnswersLinks

/-- Every command answers a state that holds each of the four conditions that it met. -/
theorem exec_links (c : Instr) (s : State) : AnswersLinks s (exec c s) := by
  cases c with
  | powerOn => exact ⟨_, rfl, s.enterReset_links _ _⟩
  | resetNLow => exact ⟨_, rfl, s.enterReset_links _ _⟩
  | resetEnd topo1 topo0 key mV => exact .resetEnd topo1 topo0 key mV s
  | keyPinChange level => exact ⟨_, rfl, id, id, id, id⟩
  | keyDebounceExpiry dcLink => exact .keyDebounceExpiry dcLink s
  | configureWindowExpiry dcLink => exact .configureWindowExpiry dcLink s
  | reqChange p level => exact .keep (.modPort s)
  | hello p turn payload => exact .hello p turn payload s
  | status p turn payload => exact .keep (.takeFrame (.statusInTurn p payload) s)
  | adopt p turn payload => exact .keep (.takeFrame (.adoptInTurn p payload) s)
  | report p turn payload | snapshot p turn payload => exact .keep (.takeFrame (.receipted fun _ => .of_frame) s)
  | clear p turn payload => exact .keep (.takeFrame (.receipted (.judgeClear p payload)) s)
  | discardEntry p turn payload => exact .keep (.takeFrame (.receipted (.judgeDiscardEntry p payload)) s)
  | discardAllRetired p turn payload => exact .keep (.takeFrame (.receipted (.judgeDiscardAll p payload)) s)
  | clearOverflow p turn payload => exact .keep (.takeFrame (.receipted (.judgeClearOverflow p payload)) s)
  | readTable p turn payload | readEntry p turn payload | readSnapshot p turn payload | readEnvelope p turn payload
  | readMonitor p turn payload | readOverflow p turn payload | readIdent p turn payload =>
    exact .keep (.takeRead p turn _ s)
  | zoneRecord p turn payload | classRecord p turn payload | levelRecord p turn payload
  | responseRecord p turn payload | scanRecord p turn payload | channelsRecord p turn payload
  | comparatorRecord p turn payload dcLink | timingRecord p turn payload | weightRecord p turn payload =>
    exact .keep (.takeConfig (fun _ => .of_frame) s)
  | commit p turn payload => exact .keep (.takeFrame (.receipted (.judgeCommit p payload)) s)
  | discardedFrame p cause => exact .discardedFrame p cause s
  | outOfTurnFrame p => exact .keep (.refuseFrame p s)
  | brokenFrame p =>
    exact .keep (.ite (fun on => .breakTurn (LinksKept.ne_offline_of_inTurn on)) fun _ => .refuseBroken p s)
  | contention p => exact .contention p s
  | stationDrivesLine p => exact .stationDrivesLine p s
  | outboundArbiterChoice p => exact .keep (.ite (fun _ => .startFrame p s) fun _ => .refl s)
  | syncDue p | syncSent p | syncTurnExpiry p => exact .keep (.ite (fun _ => .modPort s) fun _ => .refl s)
  | grantSent p | envelopeSent p | receiptSent p | readReplySent p => exact .keep (.completeIf p _ s)
  | noticeSent => exact .keep (.completeIf .ride _ s)
  | heartbeatExpiry p => exact .heartbeatExpiry p s
  | turnWindowExpiry p receiving => exact .turnWindowExpiry p receiving s
  | expiredTurnLineIdle p => exact .expiredTurnLineIdle p s
  | recoverQuietExpiry p => exact .recoverQuietExpiry p s
  | snapshotWindowExpiry p => exact .keep .of_frame
  | selfReportFormed => exact .selfReportFormed s
  | arbiterHandOff => exact .keep (.ite (fun _ => .of_frame) fun _ => .refl s)
  | reportApplied => exact .reportApplied s
  | adoptionWindowExpiry p => exact .adoptionWindowExpiry p s
  | mismatchTimerExpiry => exact .mismatchTimerExpiry s
  | scanDue | sampleComplete value | falling dcLink | rising dcLink =>
    exact .keep (.ite (fun _ => .of_frame) fun _ => .refl s)
  | relaxHoldExpiry =>
    dsimp only [exec, execRelaxHoldExpiry]
    split
    · exact .keep (.relaxDue s)
    · exact .keep (.refl s)
  | parkedHoldExpiry =>
    dsimp only [exec, execParkedHoldExpiry]
    split
    · exact .keep (.raiseParked s)
    · exact .keep (.refl s)
  | noticeDelayExpiry | absoluteDelayExpiry =>
    dsimp only [exec, execNoticeDelayExpiry, execAbsoluteDelayExpiry]
    split
    · exact .keep ((LinksKept.handNotice s).trans .of_frame)
    · exact .keep (.refl s)
  | confirmWindowExpiry e | healHoldExpiry e =>
    dsimp only [exec, execConfirmWindowExpiry, execHealHoldExpiry]
    split
    · exact .keep (.retireEntry e _ s)
    all_goals exact .keep (.refl s)

/-- One millisecond moves no port and no PARKED state (log 1). -/
theorem State.tick_links (s : State) : LinksFollow s s.tick := by
  unfold State.tick
  split
  · exact (LinksKept.refl s).follow
  · have port (p : Station) : s.pass.port p = (s.port p).pass := PerStation.get_map _ _ p
    have window : s.pass.device.configureWindow.isSome = s.device.configureWindow.isSome := Option.isSome_map
    refine ⟨?_, .of_eq rfl (by simp) (by simp), ?_, ?_⟩
    · simp only [portsFollow_iff, port]
      exact id
    · simp only [statusFormsHold_iff, port]
      exact id
    · unfold WindowInConfigure
      rw [window]
      exact id

/-- Settles O58, by what each command makes of the four conditions (`exec_links`) and by the tick. -/
theorem everyStepKeepsPortsAndParked : Obligations.EveryStepKeepsPortsAndParked := by
  intro s t h
  have follow : LinksFollow s t := by
    obtain ⟨-, rfl⟩ | ⟨c, rest, -, he⟩ := step_cases h
    · exact s.tick_links
    · obtain ⟨u, hu, follow⟩ := exec_links c { s with pending := rest }
      cases he.symm.trans hu
      exact ⟨follow.ports, follow.parked, follow.status, follow.window⟩
  exact ⟨follow.ports, follow.parked, follow.status, follow.window⟩

end Sys2Proof.Machine
end

section
/-!
PROOFS. The links, tier 1: REQ, the heartbeat and the recover quiet time, SYNC frames and sync turns, the outbound arbiter's
choice, and sent frames. First what the port and Motion do in the operations that the statements on the links share.
-/
namespace Sys2Proof.Machine

open Sys2Proof

/-! ### Ports -/

theorem State.modPort_congr {s : State} {p : Station} {f g : Port → Port} (h : f (s.port p) = g (s.port p)) :
    s.modPort p f = s.modPort p g := by
  unfold State.modPort
  rw [h]

theorem Port.inExchange_iff (o : Port) :
    o.inExchange = true ↔ o.state = .hold ∨ o.state = .turn ∨ o.state = .recover := by
  unfold Port.inExchange
  cases o.state <;> simp

theorem Port.Reached.grantDue {o o' : Port} (h : o.Reached o') : o.grantDue = true → o'.grantDue = true :=
  let ⟨_, grant, _⟩ := h
  grant

theorem Port.Reached.envelope {o o' : Port} (h : o.Reached o') :
    o.envelope.isSome = true → o'.envelope.isSome = true :=
  let ⟨_, _, envelope, _⟩ := h
  envelope

/-- A port outside the exchange is left as it is. -/
theorem Port.Reached.outside {o o' : Port} (h : o.Reached o') : o.inExchange = false → o' = o :=
  let ⟨_, _, _, outside⟩ := h
  outside

/-- A good HELLO of two bytes: its kind is the port's station and its max frame at least 32 (R21). -/
theorem parseHello_good {p : Station} {k m : Byte} (kind : k.toNat = p.index.val) (max : 32 ≤ m.toNat) :
    parseHello p [k, m] = some m.toNat := by
  have : m.toNat ≤ 255 := by have := m.isLt; omega
  simp [parseHello, within, kind, max, this]

theorem parseHello_bad {p : Station} {k m : Byte} (h : k.toNat ≠ p.index.val ∨ m.toNat < 32) :
    parseHello p [k, m] = none := by
  unfold parseHello
  obtain kind | max := h
  · exact if_neg kind
  · have : ¬ 32 ≤ m.toNat := by omega
    simp [within, this]

/-! ### Motion is told of a port -/

theorem State.motionPort_of_ne {p : Station} (s : State) (front : p ≠ .front) (rear : p ≠ .rear) : s.motionPort p = s := by
  cases p with
  | front => exact absurd rfl front
  | rear => exact absurd rfl rear
  | ride | pack => rfl

/-- Motion's view of FRONT once told of its port: its liveness, and no speed in SYNC or OFFLINE; REAR's is as before
(R164, R165). -/
theorem State.motionPort_front (s : State) :
    (s.motionPort .front).motion.liveFront = (s.port .front).live ∧
      (s.motionPort .front).motion.speedFront =
        (if (s.port .front).state = .sync ∨ (s.port .front).state = .offline then none else s.motion.speedFront) ∧
      (s.motionPort .front).motion.liveRear = s.motion.liveRear ∧
      (s.motionPort .front).motion.speedRear = s.motion.speedRear := by
  have told : s.motionPort .front = s.moveMotion (s.motion.withPort .front (s.port .front)) := rfl
  rw [told, State.moveMotion_motion]
  simp [Motion.withPort]

/-- Motion's view of REAR once told of its port, and FRONT's as before (R164, R165). -/
theorem State.motionPort_rear (s : State) :
    (s.motionPort .rear).motion.liveRear = (s.port .rear).live ∧
      (s.motionPort .rear).motion.speedRear =
        (if (s.port .rear).state = .sync ∨ (s.port .rear).state = .offline then none else s.motion.speedRear) ∧
      (s.motionPort .rear).motion.liveFront = s.motion.liveFront ∧
      (s.motionPort .rear).motion.speedFront = s.motion.speedFront := by
  have told : s.motionPort .rear = s.moveMotion (s.motion.withPort .rear (s.port .rear)) := rfl
  rw [told, State.moveMotion_motion]
  simp [Motion.withPort]

/-! ### REQ, the heartbeat and the recover quiet time -/

theorem Port.takeReq_eq (level : Bool) (o : Port) : o.takeReq level = { o with
    reqPin := level
    reqSample := if o.state = .hold ∨ o.state = .turn ∨ o.state = .recover then level else o.reqSample
    grantDue := o.grantDue || (level && o.state == .hold) } := by
  unfold Port.takeReq Port.samplesReq
  simp only [Port.inExchange_iff]

/-- Settles O11, by the cases of each command on the port's state and by what Motion makes of a port in HOLD. -/
theorem requestHeartbeatAndRecovery : Obligations.RequestHeartbeatAndRecovery := by
  intro p s
  refine ⟨fun level => ?_, fun running => ?_, fun recover => ?_, fun recover front rear => ?_, fun recover => ?_⟩
  · exact congrArg Host.Outcome.next (State.modPort_congr (Port.takeReq_eq level _))
  · obtain ⟨left, hleft⟩ := Option.isSome_iff_exists.1 running
    simp [exec, execHeartbeatExpiry, hleft]
  · simp [exec, execStationDrivesLine, recover, State.restartQuiet, recoverQuietMs]
  · simp only [exec, execRecoverQuietExpiry, recover, if_true]
    rw [State.motionPort_of_ne _ front rear]
    rfl
  · let back := s.modPort p Port.recovered
    have port : back.port p = (s.port p).recovered := State.port_modPort _ _ _
    have reached := State.motionPort_reaches p back p
    obtain ⟨state, -, -, -, -, -, sample, -, -, quiet, -⟩ := reached.fields
    have live : (back.port p).live = decide ((s.port p).silent = 0) := by
      rw [port]
      rfl
    refine ⟨back.motionPort p, by simp [exec, execRecoverQuietExpiry, recover, back], ?_, ?_, ?_, fun due => ?_, ?_, ?_⟩
    · rw [state, port]
      rfl
    · rw [quiet, port]
      rfl
    · rw [sample, port]
      rfl
    · refine reached.grantDue ?_
      rw [port]
      simpa [Port.recovered, Port.toHold] using due
    · rintro rfl
      rw [back.motionPort_front.1, live]
    · rintro rfl
      rw [back.motionPort_rear.1, live]

/-! ### SYNC frames and sync turns -/

/-- Settles O12, by the cases of each command in SYNC. -/
theorem syncFramesOpenSyncTurns : Obligations.SyncFramesOpenSyncTurns := by
  intro p s sync
  refine ⟨fun idle shut => ?_, fun sends => ?_, fun opened => ?_, fun sends => ⟨?_, ?_⟩, fun opened k m bad turn => ?_,
    fun shut turn payload => ?_⟩
  · simp only [exec, execSyncDue, sync, idle, shut]
    rfl
  · simp only [exec, execSyncSent, sync, sends]
    rfl
  · simp only [exec, execSyncTurnExpiry, opened]
    rfl
  · simp only [exec, execStationDrivesLine, sync, State.drivenInSync, sends]
    rfl
  · obtain ⟨x, hx⟩ := Option.isSome_iff_exists.1 sends
    simp only [exec, execContention, sync, hx]
    rfl
  · simp only [exec, execHello, sync, State.helloInSync, opened, parseHello_bad bad]
    rfl
  · simp [exec, execHello, sync, State.helloInSync, shut]

/-! ### The outbound arbiter -/

/-- What the arbiter does on a port in HOLD that is not sending. -/
theorem exec_outboundArbiterChoice {p : Station} {s : State} (hold : (s.port p).state = .hold)
    (idle : (s.port p).sending = none) : exec (.outboundArbiterChoice p) s = .next (s.startFrame p) := by
  simp [exec, execOutboundArbiterChoice, hold, idle]

/-- Settles O19, by the order in which the arbiter looks at what waits on the port (R34). -/
theorem outboundArbiterOrder : Obligations.OutboundArbiterOrder := by
  refine ⟨fun p s busy => ?_, fun p s hold idle => ?_⟩
  · have : ((s.port p).state = .hold && (s.port p).sending.isNone) = false := by
      obtain h | h := busy
      · simp [h]
      · simp [Option.isNone_eq_false_iff.2 h]
    simp [exec, execOutboundArbiterChoice, this]
  · rw [exec_outboundArbiterChoice hold idle]
    refine ⟨fun e he => ?_, fun r rest he hr => ?_, fun r rest he hr hp => ?_, fun he hr hp hn => ?_,
      fun he hr hp hn hg => ?_, fun he hr hp hn hg => ?_⟩
    · simp [State.startFrame, Port.nextFrame, he, Port.turnFlag, State.payloadOf]
    · simp [State.startFrame, Port.nextFrame, he, hr, Port.turnFlag, Port.frameWaits, State.payloadOf, Bool.and_assoc]
    · simp [State.startFrame, Port.nextFrame, he, hr, hp, Port.turnFlag, Port.frameWaits, State.payloadOf, Bool.and_assoc]
    · simp [State.startFrame, Port.nextFrame, he, hr, hp, hn, Port.turnFlag, Port.frameWaits, State.payloadOf]
    · simp [State.startFrame, Port.nextFrame, he, hr, hp, hn, hg, Port.turnFlag, State.payloadOf]
    · simp [State.startFrame, Port.nextFrame, he, hr, hp, hn, hg]

/-! ### Sent frames -/

/-- The frame on the line of a port in HOLD completes where the row accepts it. -/
theorem State.completeIf_accepts {p : Station} {x : Sending} {s : State} {is : Sending → Bool}
    (hold : (s.port p).state = .hold) (sends : (s.port p).sending = some x) (accepts : is x = true) :
    s.completeIf p is = (s.tellSent p x.frame).frameSent p x.turn := by
  simp [State.completeIf, hold, sends, accepts, State.complete]

/-- Settles O20: the row of the frame's kind accepts it, and the port enters TURN or stays in HOLD as it carries TURN. -/
theorem sentFramesOpenTurns : Obligations.SentFramesOpenTurns := by
  intro p x s hold sends
  have done {is : Sending → Bool} (accepts : is x = true) := State.completeIf_accepts hold sends accepts
  refine ⟨fun grant turn => ?_, fun r receipt => ?_, fun r reply => ?_, ?_⟩
  · simp only [exec, execGrantSent, done (is := fun f => f.turn) turn, grant]
    rfl
  · simp only [exec, execReceiptSent, done (is := fun f => f.frame.isReceipt) (by rw [receipt]; rfl), receipt]
    rfl
  · simp only [exec, execReadReplySent, done (is := fun f => f.frame.isReadReply) (by rw [reply]; rfl), reply]
    rfl
  · rintro rfl high notice
    simp only [exec, execNoticeSent, done (is := fun f => f.frame.isNotice) (by rw [notice]; rfl), notice]
    cases high <;> rfl

end Sys2Proof.Machine
end

section
/-!
PROOFS. Frames in and out of a turn: the TURN flag, and the frames that no block takes.
-/
namespace Sys2Proof.Machine

open Sys2Proof

/-! ### How a frame meets the port's state -/

theorem State.inTurn_of_turn {p : Station} {s : State} (turn : (s.port p).state = .turn)
    (running : (s.port p).turnExpired = false) : s.inTurn p = true := by
  simp [State.inTurn, turn, running]

theorem State.inTurn_of_ne {p : Station} {s : State} (h : (s.port p).state ≠ .turn) : s.inTurn p = false := by
  simp [State.inTurn, h]

/-- A frame with TURN is the same frame without it, and then the end of the turn (R25). -/
theorem State.takeFrame_turn {p : Station} {s : State} (hand : State → State) (h : s.inTurn p = true) :
    s.takeFrame p true hand = (s.takeFrame p false hand).endTurn .normal p := by
  simp [State.takeFrame, h, State.takeInTurn]

theorem State.takeFrame_refused {p : Station} {s : State} (turn : Bool) (hand : State → State)
    (h : (s.port p).state ≠ .turn) : s.takeFrame p turn hand = s.refuseFrame p := by
  simp [State.takeFrame, State.inTurn_of_ne h]

/-- One frame more and one discard more, in either order. -/
theorem State.counted_countDiscard (p : Station) (s : State) :
    (s.counted p).countDiscard p = (s.countDiscard p).modPort p fun o => { o with frames := o.frames + 1 } := by
  simp only [State.counted, State.countDiscard, State.modPort_modPort]
  rfl

/-- A frame past the 16th of a turn is counted only (R26). -/
theorem State.takeFrame_past {p : Station} {s : State} (hand : State → State) (h : s.inTurn p = true)
    (past : 16 ≤ (s.port p).frames) : s.takeFrame p false hand = (s.counted p).countDiscard p := by
  have : ¬ (s.port p).frames < turnFrameMax := Nat.not_lt.2 past
  simp only [State.takeFrame, h, State.takeInTurn, this]
  rfl

/-- A discarded frame of a turn is counted, whichever of the turn it is (R18, R26). -/
theorem State.takeFrame_countDiscard {p : Station} {s : State} (h : s.inTurn p = true) :
    s.takeFrame p false (State.countDiscard p) = (s.counted p).countDiscard p := by
  simp only [State.takeFrame, h, State.takeInTurn, ite_self]
  rfl

theorem State.refuseFrame_hold {p : Station} {s : State} (hold : (s.port p).state = .hold)
    (idle : (s.port p).sending = none) : s.refuseFrame p = s.countDiscard p := by
  simp [State.refuseFrame, hold, idle]

theorem State.refuseFrame_recover {p : Station} {s : State} (recover : (s.port p).state = .recover) :
    s.refuseFrame p = (s.countDiscard p).restartQuiet p := by
  simp [State.refuseFrame, recover]

theorem State.refuseFrame_ignored {p : Station} {s : State}
    (h : (s.port p).state = .offline ∨ (s.port p).state = .sync) : s.refuseFrame p = s := by
  obtain h | h := h <;> simp [State.refuseFrame, h]

/-- Where the port has not begun a frame, a broken frame outside a turn is refused as a whole one is (R18, R29). -/
theorem State.refuseBroken_eq {p : Station} {s : State} (h : (s.port p).state = .hold → (s.port p).sending = none) :
    s.refuseBroken p = s.refuseFrame p := by
  unfold State.refuseBroken State.refuseFrame
  split
  · next hold => simp [h hold]
  all_goals rfl

/-! ### Every kind of frame is taken in one way -/

theorem exec_hello_of_ne {p : Station} {s : State} (turn : Bool) (payload : List Byte) (h : (s.port p).state ≠ .sync) :
    exec (.hello p turn payload) s = .next (s.takeFrame p turn (State.helloInTurn p payload)) :=
  congrArg Host.Outcome.next (if_neg h)

/-- Every kind but HELLO is handed to its block by `takeFrame`, with the same hand for either TURN flag. -/
theorem exec_frameCommands_tail {p : Station} {payload : List Byte} {mV : Nat} {a b : Bool} {x : Instr × Instr}
    (hx : x ∈ (frameCommands p a payload mV).tail.zip (frameCommands p b payload mV).tail) :
    ∃ hand : State → State, ∀ s, exec x.1 s = .next (s.takeFrame p a hand) ∧
      exec x.2 s = .next (s.takeFrame p b hand) := by
  simp only [frameCommands, List.tail_cons, List.zip_cons_cons, List.zip_nil_left, List.mem_cons, List.not_mem_nil,
    or_false] at hx
  rcases hx with rfl | rfl | rfl | rfl | rfl | rfl | rfl | rfl | rfl | rfl | rfl | rfl | rfl | rfl | rfl | rfl | rfl |
    rfl | rfl | rfl | rfl | rfl | rfl | rfl | rfl
  all_goals exact ⟨_, fun _ => ⟨rfl, rfl⟩⟩

theorem exec_frameCommands {p : Station} {payload : List Byte} {mV : Nat} {a b : Bool} {x : Instr × Instr}
    (hx : x ∈ (frameCommands p a payload mV).zip (frameCommands p b payload mV)) :
    ∃ hand : State → State, ∀ s, (s.port p).state ≠ .sync → exec x.1 s = .next (s.takeFrame p a hand) ∧
      exec x.2 s = .next (s.takeFrame p b hand) := by
  obtain rfl | hx := List.mem_cons.1 (show x ∈ (_, _) :: _ from hx)
  · exact ⟨_, fun s h => ⟨exec_hello_of_ne a payload h, exec_hello_of_ne b payload h⟩⟩
  · obtain ⟨hand, h⟩ := exec_frameCommands_tail hx
    exact ⟨hand, fun s _ => h s⟩

/-- Settles O15, by the hand that each kind of frame is given to, which does not depend on TURN. -/
theorem turnFlagEndsTheTurn : Obligations.TurnFlagEndsTheTurn := by
  intro p payload mV s turn running x hx
  obtain ⟨hand, h⟩ := exec_frameCommands hx
  obtain ⟨with_, without⟩ := h s (by rw [turn]; decide)
  exact ⟨_, without, with_.trans (congrArg _ (State.takeFrame_turn hand (State.inTurn_of_turn turn running)))⟩

/-! ### Frames that no block takes -/

theorem mem_zip_self {α : Type} {l : List α} {a : α} (h : a ∈ l) : (a, a) ∈ l.zip l := by
  induction l with
  | nil => cases h
  | cons b l ih =>
    obtain rfl | h := List.mem_cons.1 h
    · exact List.mem_cons_self
    · exact List.mem_cons_of_mem _ (ih h)

theorem exec_discardedFrame_of_ne {p : Station} {s : State} (cause : DiscardCause) (h : (s.port p).state ≠ .sync) :
    exec (.discardedFrame p cause) s = .next (s.takeFrame p (carriesTurn cause) (State.countDiscard p)) :=
  congrArg Host.Outcome.next (if_neg h)

theorem exec_brokenFrame_of_ne {p : Station} {s : State} (h : (s.port p).state ≠ .turn) :
    exec (.brokenFrame p) s = .next (s.refuseBroken p) := by
  simp [exec, execBrokenFrame, State.inTurn_of_ne h]

/-- Outside TURN and SYNC every frame is refused alike, while the port has not begun a frame of its own (R29, R31). -/
theorem exec_refused {p : Station} {turn : Bool} {payload : List Byte} {mV : Nat} {cause : DiscardCause} {c : Instr}
    (hc : c ∈ .discardedFrame p cause :: .outOfTurnFrame p :: .brokenFrame p :: frameCommands p turn payload mV)
    {s : State} (away : (s.port p).state ≠ .turn) (synced : (s.port p).state ≠ .sync)
    (idle : (s.port p).state = .hold → (s.port p).sending = none) : exec c s = .next (s.refuseFrame p) := by
  simp only [List.mem_cons] at hc
  obtain rfl | rfl | rfl | hc := hc
  · rw [exec_discardedFrame_of_ne cause synced, State.takeFrame_refused _ _ away]
  · rfl
  · rw [exec_brokenFrame_of_ne away, State.refuseBroken_eq idle]
  · obtain ⟨hand, h⟩ := exec_frameCommands (mem_zip_self hc)
    rw [(h s synced).1, State.takeFrame_refused _ _ away]

/-- In SYNC every frame but a HELLO is ignored (R21). -/
theorem exec_ignored {p : Station} {turn : Bool} {payload : List Byte} {mV : Nat} {c : Instr}
    (hc : c ∈ .outOfTurnFrame p :: .brokenFrame p :: (frameCommands p turn payload mV).tail) {s : State}
    (sync : (s.port p).state = .sync) : exec c s = .next s := by
  have away : (s.port p).state ≠ .turn := by rw [sync]; decide
  have ignored := State.refuseFrame_ignored (p := p) (.inr sync)
  rw [List.mem_cons, List.mem_cons] at hc
  obtain rfl | rfl | hc := hc
  · exact congrArg _ ignored
  · rw [exec_brokenFrame_of_ne away, State.refuseBroken_eq (by simp [sync]), ignored]
  · obtain ⟨hand, h⟩ := exec_frameCommands_tail (mem_zip_self hc)
    rw [(h s).1, State.takeFrame_refused _ _ away, ignored]

/-- Settles O17, by the port's state: HOLD, RECOVER, OFFLINE, a turn, SYNC. -/
theorem framesThatNoBlockTakes : Obligations.FramesThatNoBlockTakes := by
  intro p s discarded disturbed
  refine ⟨fun turn payload mV cause c hc => ⟨fun hold idle => ?_, fun recover => ?_, fun offline => ?_⟩,
    fun turn running past payload mV c hc => ?_, fun turn running => ?_, fun hold => ?_,
    fun sync => ⟨fun turn payload mV c hc => exec_ignored hc sync, fun cause good => ?_, fun opened turn => ?_⟩⟩
  · rw [exec_refused hc (by rw [hold]; decide) (by rw [hold]; decide) fun _ => idle, State.refuseFrame_hold hold idle]
    rfl
  · rw [exec_refused hc (by rw [recover]; decide) (by rw [recover]; decide) (by simp [recover]),
      State.refuseFrame_recover recover]
    rfl
  · rw [exec_refused hc (by rw [offline]; decide) (by rw [offline]; decide) (by simp [offline]),
      State.refuseFrame_ignored (.inl offline)]
  · obtain ⟨hand, h⟩ := exec_frameCommands (mem_zip_self hc)
    rw [(h s (by rw [turn]; decide)).1, State.takeFrame_past hand (State.inTurn_of_turn turn running) past,
      State.counted_countDiscard]
    rfl
  · have on := State.inTurn_of_turn turn running
    have counted := (State.takeFrame_countDiscard on).trans (State.counted_countDiscard p s)
    have ended := (State.takeFrame_turn (State.countDiscard p) on).trans (congrArg (State.endTurn .normal p) counted)
    have taken (cause : DiscardCause) := exec_discardedFrame_of_ne (p := p) (s := s) cause (by rw [turn]; decide)
    exact ⟨(taken _).trans (congrArg _ counted), fun k => ⟨(taken _).trans (congrArg _ counted),
      (taken _).trans (congrArg _ ended)⟩, (taken _).trans (congrArg _ counted), (taken _).trans (congrArg _ ended)⟩
  · rw [exec_brokenFrame_of_ne (by rw [hold]; decide)]
    simp only [State.refuseBroken, hold]
    rfl
  · have : badHello cause = false := by
      cases cause with
      | badLength kind t =>
        cases kind with
        | hello => exact absurd rfl (good t)
        | status | adopt => rfl
      | _ => rfl
    simp [exec, execDiscardedFrame, sync, this]
  · simp only [exec, execDiscardedFrame, sync, opened]
    rfl

end Sys2Proof.Machine
end

section
/-!
PROOFS. How turns end, and what HELLO, STATUS and contention make of a port and of Motion.
-/
namespace Sys2Proof.Machine

open Sys2Proof

/-! ### Motion is told -/

/-- What Motion has told from `u` it has told from `s`, when they differ in nothing that it reads or tells. -/
theorem MotionTold.of_start {s u t : State} (h : MotionTold u t) (hd : u.device = s.device := by simp)
    (hc : u.config = s.config := by simp) (hm : u.motion = s.motion := by simp) (hl : u.ladder = s.ladder := by simp)
    (hf : u.faults = s.faults := by simp) (hp : u.publication = s.publication := by simp) : MotionTold s t := by
  obtain ⟨settles, withdrawn, told, untold⟩ := h
  rw [hd, hc, hm] at settles
  rw [hm] at withdrawn told untold
  rw [hl, hf, hp] at untold
  exact ⟨settles, withdrawn, told, untold⟩

/-- Motion, told of an inverter station's port, settles and reports (R164 to R170). -/
theorem State.motionPort_told {p : Station} (s : State) (h : p = .front ∨ p = .rear) : MotionTold s (s.motionPort p) := by
  obtain rfl | rfl := h
  · exact s.moveMotion_told _ rfl rfl rfl rfl
  · exact s.moveMotion_told _ rfl rfl rfl rfl

theorem silentCond_ne (p : Station) : silentCond p ≠ 9 ∧ silentCond p ≠ 10 := by cases p <;> decide

theorem linkLostCond_ne (p : Station) : linkLostCond p ≠ 9 ∧ linkLostCond p ≠ 10 := by cases p <;> decide

theorem linkLostCond_ne_silentCond (p q : Station) : linkLostCond p ≠ silentCond q := by cases p <;> cases q <;> decide

/-- The silence condition follows the silent count and the configured limit (R172). -/
theorem State.motionSilence_asserted (p : Station) (silent : Bool) (s : State) :
    (silent = false → ((s.motionSilence p silent).cond (silentCond p)).asserted = false) ∧
      (silent = true → s.config.timing.silenceLimit ≤ (s.port p).silent →
        ((s.motionSilence p silent).cond (silentCond p)).asserted = true) := by
  refine ⟨?_, ?_⟩
  · rintro rfl
    simp [State.motionSilence]
  · rintro rfl limit
    simp [State.motionSilence, limit]

/-! ### The end of a turn -/

/-- The port once its turn is over (R23, R25, R27, R28, R30). -/
def State.turnOver (how : TurnEnd) (p : Station) (s : State) : Port :=
  let o := s.port p
  Port.afterTurn how (Port.closeTurn how s.config.timing.heartbeat
    (if o.receiptDue then o.addReceipt (s.receiptOf p) else o))

theorem State.endTurn_eq (how : TurnEnd) (p : Station) (s : State) : s.endTurn how p =
    ((s.setPort p (s.turnOver how p)).motionSilence p ((s.port p).silentTurn how)).motionPort p := rfl

theorem Port.silentTurn_iff (how : TurnEnd) (o : Port) :
    o.silentTurn how = true ↔ how = .expiry ∨ o.gotStatus = false := by
  simp [Port.silentTurn]

theorem Port.receiptDue_iff (o : Port) : o.receiptDue = true ↔ o.verdicts ≠ [] ∨ 0 < o.discards := by
  simp [Port.receiptDue]

theorem satSucc_countMax (n : Nat) : satSucc countMax n = if n < 255 then n + 1 else 255 := rfl

theorem Port.addReceipt_receipts (r : Receipt) (o : Port) :
    (o.addReceipt r).receipts = (if o.receipts.length < 4 then o.receipts else o.receipts.tail) ++ [r] := by
  unfold Port.addReceipt receiptMax
  dsimp only
  split <;> rfl

/-- The fields of the port once its turn is over. -/
theorem State.turnOver_fields (how : TurnEnd) (p : Station) (s : State) :
    let o := s.port p
    let o' := s.turnOver how p
    o'.state = (if how = .broken then .recover else .hold) ∧
      o'.silent = (if o.silentTurn how then (if o.silent < 255 then o.silent + 1 else 255) else 0) ∧
      o'.contentions = (if how = .normal then 0 else o.contentions) ∧
      o'.heartbeat = some s.config.timing.heartbeat ∧ o'.turnWindow = none ∧ o'.discards = 0 ∧ o'.frames = 0 ∧
      o'.verdicts = [] ∧ o'.gotStatus = false ∧ (how ≠ .broken → o'.grantDue = (o.grantDue || o.reqPin)) ∧
      (how = .broken → o'.recoverQuiet = some 2) ∧
      o'.receipts = (if o.receiptDue then (o.addReceipt (s.receiptOf p)).receipts else o.receipts) := by
  unfold State.turnOver
  dsimp only
  split <;> cases how <;> simp [Port.afterTurn, Port.closeTurn, Port.toHold, Port.toRecover, Port.addReceipt,
    Port.silentTurn, satSucc_countMax, recoverQuietMs]

/-- The RECEIPT list once the turn is over: the turn's RECEIPT joins it, the oldest leaving when four wait (R28, R33). -/
theorem State.turnOver_receipts (how : TurnEnd) (p : Station) (s : State) :
    ((s.port p).verdicts = [] → (s.port p).discards = 0 → (s.turnOver how p).receipts = (s.port p).receipts) ∧
      ((s.port p).verdicts ≠ [] ∨ 0 < (s.port p).discards → (s.turnOver how p).receipts =
        (if (s.port p).receipts.length < 4 then (s.port p).receipts else (s.port p).receipts.tail) ++
          [⟨(s.port p).verdicts, (s.port p).discards, 8 - (s.queue p.source).length, (s.slot p).assembly.isSome,
            (s.slot p).outcome⟩]) := by
  obtain ⟨-, -, -, -, -, -, -, -, -, -, -, receipts⟩ := s.turnOver_fields how p
  rw [receipts]
  refine ⟨fun none_ zero => ?_, fun due => ?_⟩
  · have : ¬ (s.port p).receiptDue = true := by
      rw [Port.receiptDue_iff]
      simp [none_, zero]
    exact if_neg this
  · rw [if_pos ((Port.receiptDue_iff _).2 due), Port.addReceipt_receipts]
    rfl

/-- After a turn the station is live where the turn ended normally with a valid STATUS (R165, R27). -/
theorem State.turnOver_live (how : TurnEnd) (p : Station) (s : State) :
    (s.turnOver how p).live = true ↔ how = .normal ∧ (s.port p).gotStatus = true := by
  obtain ⟨state, silent, -⟩ := s.turnOver_fields how p
  have counted : (if (s.port p).silent < 255 then (s.port p).silent + 1 else 255) ≠ 0 := by split <;> omega
  unfold Port.live
  rw [state, silent]
  cases how with
  | normal => cases h : (s.port p).gotStatus <;> simp [Port.silentTurn, h, counted]
  | expiry => simp [Port.silentTurn, counted]
  | broken => simp

theorem State.endTurn_told (how : TurnEnd) {p : Station} (s : State) (h : p = .front ∨ p = .rear) :
    MotionTold s (s.endTurn how p) := by
  rw [State.endTurn_eq]
  exact (State.motionPort_told _ h).of_start

/-- The rows that end a turn: the window's expiry, the idle line after it, a broken frame (R25). -/
theorem exec_turn_ends {p : Station} {s : State} (turn : (s.port p).state = .turn) :
    ((s.port p).turnWindow.isSome = true →
      exec (.turnWindowExpiry p false) s = .next (s.endTurn .expiry p) ∧
      exec (.turnWindowExpiry p true) s =
        .next (s.modPort p fun o => { o with turnWindow := none, turnExpired := true })) ∧
    ((s.port p).turnExpired = true →
      exec (.expiredTurnLineIdle p) s = .next (State.endTurn .expiry p (s.countDiscard p))) ∧
    ((s.port p).turnExpired = false →
      exec (.brokenFrame p) s = .next (State.endTurn .broken p ((s.counted p).countDiscard p))) := by
  refine ⟨fun running => ?_, fun expired => ?_, fun running => ?_⟩
  · obtain ⟨left, hleft⟩ := Option.isSome_iff_exists.1 running
    simp [exec, execTurnWindowExpiry, turn, hleft]
  · simp [exec, execExpiredTurnLineIdle, turn, expired]
  · simp only [exec, execBrokenFrame, State.inTurn_of_turn turn running, if_true]
    rfl

/-- Settles O16: the rows that end a turn, and the end of a turn by what it leaves in the port (`turnOver_fields`) and what
Motion makes of it. -/
theorem turnsEndWithTheirReceipt : Obligations.TurnsEndWithTheirReceipt := by
  refine ⟨fun p s turn => ?_, fun how p s => ?_⟩
  · obtain ⟨window, idle, broken⟩ := exec_turn_ends turn
    refine ⟨window, idle, fun running => ?_⟩
    rw [broken running]
    simp only [State.counted, State.countDiscard, State.modPort_modPort]
    rfl
  · intro t o silent
    let u := (s.setPort p (s.turnOver how p)).motionSilence p (o.silentTurn how)
    have silent_iff : o.silentTurn how = true ↔ silent := Port.silentTurn_iff how o
    have ended : t = u.motionPort p := s.endTurn_eq how p
    have port : u.port p = s.turnOver how p := by
      rw [State.port_congr (s := s.setPort p (s.turnOver how p)) (by simp [u]), State.port_setPort]
    have motion : u.motion = s.motion := by simp [u]
    have reached : (s.turnOver how p).Reached (t.port p) := by
      rw [ended, ← port]
      exact u.motionPort_reaches p p
    have cond : t.cond (silentCond p) = u.cond (silentCond p) := by
      rw [ended]
      exact u.motionPort_cond p (silentCond_ne p).1 (silentCond_ne p).2
    obtain ⟨state, count, contentions, heartbeat, window, discards, frames, verdicts, got, due, quiet, -⟩ :=
      s.turnOver_fields how p
    obtain ⟨kept, joined⟩ := s.turnOver_receipts how p
    have silence := State.motionSilence_asserted p (o.silentTurn how) (s.setPort p (s.turnOver how p))
    obtain ⟨fstate, fsilent, fcontentions, fdiscards, -, -, -, fheartbeat, fwindow, fquiet, -, -, -, fframes, fverdicts,
      fgot, freceipts, -⟩ := reached.fields
    refine ⟨fstate.trans state, fun h => ?_, fun h => ?_, fcontentions.trans contentions, fheartbeat.trans heartbeat,
      fwindow.trans window, fdiscards.trans discards, fframes.trans frames, fverdicts.trans verdicts, fgot.trans got,
      fun how_ne req => reached.grantDue ?_, fun broken => fquiet.trans (quiet broken), fun hv hd => freceipts.trans (kept hv hd),
      fun h => freceipts.trans (joined h), fun h limit => ?_, fun h => ?_, fun axle => ?_, ?_, ?_, fun front rear => ?_,
      by simp [t], by simp [t], by simp [t], by simp [t], by simp [t], by simp [t]⟩
    · rw [fsilent, count, if_pos (silent_iff.2 h)]
    · rw [fsilent, count, if_neg (fun e => h (silent_iff.1 e))]
    · rw [due how_ne, req, Bool.or_true]
    · rw [cond]
      refine silence.2 (silent_iff.2 h) ?_
      rw [State.port_setPort, count, if_pos (silent_iff.2 h)]
      exact limit
    · rw [cond]
      exact silence.1 (Bool.eq_false_iff.2 fun e => h (silent_iff.1 e))
    · refine ⟨s.endTurn_told how axle, ?_⟩
      have awake : ¬ ((u.port p).state = .sync ∨ (u.port p).state = .offline) := by
        rw [port, state]
        split <;> decide
      obtain rfl | rfl := axle
      · obtain ⟨-, front, -, rear⟩ := u.motionPort_front
        rw [ended, front, rear, if_neg awake, motion]
        exact ⟨rfl, rfl⟩
      · obtain ⟨-, rear, -, front⟩ := u.motionPort_rear
        rw [ended, front, rear, if_neg awake, motion]
        exact ⟨rfl, rfl⟩
    · rintro rfl
      obtain ⟨live, -, other, -⟩ := u.motionPort_front
      rw [ended, live, other, port, motion]
      exact ⟨s.turnOver_live how .front, rfl⟩
    · rintro rfl
      obtain ⟨live, -, other, -⟩ := u.motionPort_rear
      rw [ended, live, other, port, motion]
      exact ⟨s.turnOver_live how .rear, rfl⟩
    · rw [ended, State.motionPort_of_ne _ front rear]
      simp [u]

end Sys2Proof.Machine
end

section
/-!
PROOFS. HELLO, STATUS and contention, with what Motion and Publication make of them.
-/
namespace Sys2Proof.Machine

open Sys2Proof

/-! ### Fields of payloads -/

theorem within_eq_some {lo hi n v : Nat} : within lo hi n = some v ↔ lo ≤ n ∧ n ≤ hi ∧ v = n := by
  simp only [within, Bool.and_eq_true, decide_eq_true_eq, Option.ite_none_right_eq_some, Option.some.injEq]
  exact ⟨fun ⟨⟨a, b⟩, c⟩ => ⟨a, b, c.symm⟩, fun ⟨a, b, c⟩ => ⟨⟨a, b⟩, c.symm⟩⟩

theorem yesNo_eq_some {b : Byte} {v : Bool} : yesNo b = some v ↔ b.toNat ≤ 1 ∧ v = decide (b.toNat = 1) := by
  unfold yesNo
  split
  · next h => simp [h, eq_comm]
  · next h => simp [h, eq_comm]
  · next zero one =>
    have above : ¬ b.toNat ≤ 1 := by
      have : b.toNat ≠ 0 := zero
      have : b.toNat ≠ 1 := one
      omega
    simp [above]

theorem u16_eq (hi lo : Byte) : u16 hi lo = 256 * hi.toNat + lo.toNat := by
  unfold u16
  omega

/-- RIDE's STATUS (R36). -/
theorem parseStatus_ride (payload : List Byte) (r : StatusRec) :
    parseStatus .ride payload = some r ↔ ∃ throttle brake : Byte, payload = [throttle, brake] ∧
      throttle.toNat ≤ 100 ∧ brake.toNat ≤ 1 ∧ r = .ride throttle.toNat (decide (brake.toNat = 1)) := by
  constructor
  · intro h
    unfold parseStatus at h
    split at h
    case h_1 throttle brake _ =>
      simp only [Option.bind_eq_bind, Option.bind_eq_some_iff, Option.some.injEq, within_eq_some, yesNo_eq_some] at h
      obtain ⟨_, ⟨-, limit, rfl⟩, _, ⟨bit, rfl⟩, rfl⟩ := h
      exact ⟨throttle, brake, rfl, limit, bit, rfl⟩
    all_goals contradiction
  · rintro ⟨throttle, brake, rfl, limit, bit, rfl⟩
    simp [parseStatus, within_eq_some.2 ⟨Nat.zero_le _, limit, rfl⟩, yesNo_eq_some.2 ⟨bit, rfl⟩]

/-- The STATUS of an inverter station (R36). -/
theorem parseStatus_inverter {p : Station} (hp : p = .front ∨ p = .rear) (payload : List Byte) (r : StatusRec) :
    parseStatus p payload = some r ↔ ∃ high low temperature : Byte, payload = [high, low, temperature] ∧
      256 * high.toNat + low.toNat ≤ 1000 ∧ r = .inverter (256 * high.toNat + low.toNat) temperature := by
  constructor
  · intro h
    unfold parseStatus at h
    split at h
    · simp at hp
    · next high low temperature =>
      simp only [Option.map_eq_some_iff, within_eq_some, u16_eq] at h
      obtain ⟨_, ⟨-, limit, rfl⟩, rfl⟩ := h
      exact ⟨high, low, temperature, rfl, limit, rfl⟩
    · next high low temperature =>
      simp only [Option.map_eq_some_iff, within_eq_some, u16_eq] at h
      obtain ⟨_, ⟨-, limit, rfl⟩, rfl⟩ := h
      exact ⟨high, low, temperature, rfl, limit, rfl⟩
    · simp at hp
    · contradiction
  · rintro ⟨high, low, temperature, rfl, limit, rfl⟩
    have speed := within_eq_some.2 ⟨Nat.zero_le _, limit, rfl⟩
    obtain rfl | rfl := hp <;> simp [parseStatus, u16_eq, speed]

/-- PACK's STATUS (R36). -/
theorem parseStatus_pack (payload : List Byte) (r : StatusRec) :
    parseStatus .pack payload = some r ↔ ∃ v1 v0 i1 i0 charge : Byte, payload = [v1, v0, i1, i0, charge] ∧
      256 * v1.toNat + v0.toNat ≤ 1000 ∧ charge.toNat ≤ 100 ∧
      r = .pack (256 * v1.toNat + v0.toNat) (i1 ++ i0) charge.toNat := by
  constructor
  · intro h
    unfold parseStatus at h
    split at h
    case h_4 v1 v0 i1 i0 charge _ =>
      simp only [Option.bind_eq_bind, Option.bind_eq_some_iff, Option.some.injEq, within_eq_some, u16_eq] at h
      obtain ⟨_, ⟨-, volts, rfl⟩, _, ⟨-, limit, rfl⟩, rfl⟩ := h
      exact ⟨v1, v0, i1, i0, charge, rfl, volts, limit, rfl⟩
    all_goals contradiction
  · rintro ⟨v1, v0, i1, i0, charge, rfl, volts, limit, rfl⟩
    simp [parseStatus, u16_eq, within_eq_some.2 ⟨Nat.zero_le _, volts, rfl⟩,
      within_eq_some.2 ⟨Nat.zero_le _, limit, rfl⟩, w16]

/-! ### STATUS in a turn -/

/-- A STATUS taken in a turn is what its block makes of it. -/
theorem exec_status_takes {p : Station} {s : State} (payload : List Byte) (h : s.takes p) :
    exec (.status p false payload) s = .next ((s.counted p).statusInTurn p payload) :=
  congrArg Host.Outcome.next (State.takeFrame_takes h)

/-- A STATUS of no inverter station is kept alone. -/
theorem State.statusInTurn_kept {p : Station} {payload : List Byte} {r : StatusRec} (s : State)
    (h : parseStatus p payload = some r) (front : p ≠ .front) (rear : p ≠ .rear) :
    s.statusInTurn p payload = s.keepStatus p r := by
  have fits := parseStatus_fits h
  unfold State.statusInTurn
  rw [h]
  cases r with
  | inverter v t =>
    cases p with
    | front => exact absurd rfl front
    | rear => exact absurd rfl rear
    | ride | pack => cases fits
  | ride | pack => rfl

theorem State.statusInTurn_inverter {p : Station} {payload : List Byte} {v : Nat} {t : BitVec 8} (s : State)
    (h : parseStatus p payload = some (.inverter v t)) :
    s.statusInTurn p payload = (s.keepStatus p (.inverter v t)).moveMotion (s.motion.withSpeed p v) := by
  unfold State.statusInTurn
  rw [h]
  rfl

theorem State.statusInTurn_discarded {p : Station} {payload : List Byte} (s : State)
    (h : parseStatus p payload = none) : s.statusInTurn p payload = s.countDiscard p := by
  unfold State.statusInTurn
  rw [h]

/-- Settles O14: the three forms by `parseStatus_ride`, `parseStatus_inverter` and `parseStatus_pack`, and a STATUS in a turn by
what its payload parses to. -/
theorem statusIsKeptOrDiscarded : Obligations.StatusIsKeptOrDiscarded := by
  refine ⟨parseStatus_ride, fun p hp => parseStatus_inverter hp, parseStatus_pack, fun p payload s takes => ?_⟩
  rw [exec_status_takes payload takes]
  refine ⟨fun r hr front rear => ?_, fun v temperature hr => ?_, fun hr => ?_⟩
  · rw [State.statusInTurn_kept _ hr front rear]
    simp only [State.keepStatus, State.counted, State.modPort_modPort]
  · rw [State.statusInTurn_inverter _ hr]
    let u := (s.counted p).keepStatus p (.inverter v temperature)
    let m := (s.counted p).motion.withSpeed p v
    have port : u.port p = { s.port p with
        frames := (s.port p).frames + 1, status := some (.inverter v temperature), gotStatus := true } := by
      simp [u, State.keepStatus]
    obtain ⟨still, parked, hold, detector⟩ : m.still = u.motion.still ∧ m.parked = u.motion.parked ∧ m.parkedHold = u.motion.parkedHold ∧
        m.detector = u.motion.detector := by
      cases p <;> exact ⟨rfl, rfl, rfl, rfl⟩
    have told : MotionTold u (u.moveMotion m) := u.moveMotion_told m still parked hold detector
    have motion := u.moveMotion_motion m
    have speeds := Motion.settleFrom_speeds u.device.topology u.config.timing u.motion m
    rw [← motion] at speeds
    obtain ⟨front, rear, liveFront, liveRear⟩ := speeds
    obtain ⟨state, -, -, -, -, -, -, -, -, -, -, -, -, frames, -, got, -, -, -, -, status⟩ :=
      (u.moveMotion_reaches m p).fields
    rw [port] at state frames got status
    refine ⟨u.moveMotion m, rfl, status, got, frames, state.trans takes.1, ?_, ?_, ?_, ?_,
      told.of_start rfl rfl rfl rfl rfl rfl, by simp [u, State.keepStatus], by simp [u, State.keepStatus],
      by simp [u, State.keepStatus]⟩
    · rintro rfl
      exact ⟨front, rear⟩
    · rintro rfl
      exact ⟨rear, front⟩
    · rw [liveFront]
      cases p <;> rfl
    · rw [liveRear]
      cases p <;> rfl
  · rw [State.statusInTurn_discarded _ hr, State.counted_countDiscard]
    simp only [State.countDiscard, State.modPort_modPort]
    rfl

/-! ### What Motion's report may publish -/

/-- `t` has published once from `s`: the counter has moved on, no adoption window runs, and a port's being unresponsive stays
(R130, R132). -/
structure PublishedOnce (s t : State) : Prop where
  counter : t.publication.counter ≠ s.publication.counter
  windows : ∀ p, (t.adoption p).window = .idle ∧ (t.adoption p).timer = none
  unresponsive : ∀ p, (t.adoption p).unresponsive = (s.adoption p).unresponsive

theorem PublishedOnce.of_publication {s t u v : State} (h : PublishedOnce s t) (hs : u.publication = s.publication)
    (ht : v.publication = t.publication) : PublishedOnce u v := by
  obtain ⟨counter, windows, unresponsive⟩ := h
  refine ⟨by rwa [hs, ht], fun p => ?_, fun p => ?_⟩
  · rw [State.adoption_congr ht]
    exact windows p
  · rw [State.adoption_congr ht, State.adoption_congr hs]
    exact unresponsive p

theorem nextGeneration_ne (n : Nat) : State.nextGeneration n ≠ n := by
  unfold State.nextGeneration generationMax
  split <;> omega

theorem State.publish_once (l : Limits) (cause : Option (Fin 48)) (s : State) : PublishedOnce s (s.publish l cause) := by
  obtain ⟨-, counter, -, -, -, records, -⟩ := s.publish_spec l cause
  refine ⟨?_, fun p => ?_, fun p => ?_⟩
  · rw [counter]
    exact nextGeneration_ne _
  · rw [records]
    exact ⟨rfl, rfl⟩
  · rw [records]
    rfl

/-- A publication with the relax state set after it. -/
theorem State.publish_setRelax_once (l : Limits) (cause : Option (Fin 48)) (s : State) :
    PublishedOnce s ((s.publish l cause).setRelax true) ∧ ((s.publish l cause).setRelax true).ladder.relax ≠ .due := by
  refine ⟨(s.publish_once l cause).of_publication rfl (by simp), ?_⟩
  unfold State.setRelax
  split <;> simp

theorem State.tighten_once (s : State) : PublishedOnce s s.tighten ∧ s.tighten.ladder.relax ≠ .due :=
  State.publish_setRelax_once _ _ s

/-- A formation publishes nothing, or publishes once and leaves no relaxation due (R119, R121). -/
theorem State.reform_once (s : State) :
    s.reform.publication = s.publication ∨ (PublishedOnce s s.reform ∧ s.reform.ladder.relax ≠ .due) := by
  unfold State.reform
  dsimp only
  split
  · have once := State.tighten_once
      { s with ladder := { s.ladder with target := State.formEnvelope 0 s.formedTarget (causeOf s.faults) s } }
    exact .inr ⟨once.1.of_publication rfl rfl, once.2⟩
  · exact .inl (by simp)

theorem State.tryStep_once (s : State) : s.tryStep.publication = s.publication ∨ PublishedOnce s s.tryStep := by
  unfold State.tryStep
  dsimp only
  split
  · exact .inr (State.publish_setRelax_once _ _ s).1
  · exact .inl rfl

theorem State.tryStep_of_ne {s : State} (h : s.ladder.relax ≠ .due) : s.tryStep = s := by
  simp [State.tryStep, State.stepDue, h]

/-- A report of PARKED publishes at most once: a tightening leaves no relaxation due (R119, R122, R169). -/
theorem State.reportParked_once (b : Bool) (s : State) :
    (s.reportParked b).publication = s.publication ∨ PublishedOnce s (s.reportParked b) := by
  let told : State := { s with ladder := { s.ladder with parked := b }, faults := { s.faults with parked := b } }
  have formed : told.reform.publication = s.publication ∨ (PublishedOnce s told.reform ∧ told.reform.ladder.relax ≠ .due) :=
    told.reform_once.imp id fun ⟨once, rest⟩ => ⟨once.of_publication rfl rfl, rest⟩
  unfold State.reportParked
  dsimp only
  split
  · split
    · obtain same | ⟨once, rest⟩ := formed
      · exact (told.reform.tryStep_once).imp (fun h => h.trans same) fun h => h.of_publication same.symm rfl
      · exact .inr (by rwa [State.tryStep_of_ne rest])
    · exact formed.imp id And.left
  · exact .inl rfl

theorem State.moveMotion_once (m : Motion) (s : State) :
    (s.moveMotion m).publication = s.publication ∨ PublishedOnce s (s.moveMotion m) := by
  unfold State.moveMotion
  dsimp only
  split
  · exact .inl (by simp)
  · exact (State.reportParked_once _ _).imp (fun h => h.trans (by simp)) fun h => h.of_publication (by simp) rfl

theorem State.motionPort_once (p : Station) (s : State) :
    (s.motionPort p).publication = s.publication ∨ PublishedOnce s (s.motionPort p) := by
  unfold State.motionPort
  split
  · exact s.moveMotion_once _
  · exact .inl rfl

/-- A port's adoption record after Motion's report: as it was, or with no window running, and forgetting that a second window
has expired with a new generation only. -/
theorem State.motionPort_adoption (p q : Station) (s : State) :
    ((s.motionPort p).adoption q).unresponsive = (s.adoption q).unresponsive ∧
      ((s.motionPort p).publication.counter = s.publication.counter →
        ((s.motionPort p).adoption q).lapsed = (s.adoption q).lapsed) ∧
      ((s.adoption q).window = .idle → (s.adoption q).timer = none →
        ((s.motionPort p).adoption q).window = .idle ∧ ((s.motionPort p).adoption q).timer = none) := by
  obtain same | ⟨counter, windows, unresponsive⟩ := s.motionPort_once p
  · rw [State.adoption_congr same]
    exact ⟨rfl, fun _ => rfl, fun idle stopped => ⟨idle, stopped⟩⟩
  · exact ⟨unresponsive q, fun h => absurd h counter, fun _ _ => windows q⟩

/-! ### A port synchronises -/

/-- The port that joins: its ENVELOPE is placed with grant due, and the rest stays (R134, R23). -/
theorem State.join_port (p : Station) (s : State) :
    (s.join p).port p = { s.port p with envelope := some s.ladder.published, grantDue := true } :=
  State.port_modPort _ _ _

/-- The port joins the current generation and owes it (R134; log 21). -/
theorem State.join_publication (p : Station) (s : State) :
    (s.join p).publication.members.get p = true ∧ (s.join p).publication.complete = false ∧
      (s.join p).adoption p = ⟨0, true, .idle, none, (s.adoption p).unresponsive, (s.adoption p).lapsed⟩ := by
  refine ⟨?_, ?_, ?_⟩
  · simp [State.join]
  · simp [State.join]
  · rw [State.adoption, State.join, State.placeEnvelope]
    exact PerStation.get_put_same _ _ _

/-- What a port that synchronises is left with (R21, R22, R134). -/
theorem State.synchronised_port (p : Station) (s : State) :
    ((s.synchronised p).port p).state = (s.port p).state ∧
      ((s.synchronised p).port p).maxFrame = (s.port p).maxFrame ∧
      ((s.synchronised p).port p).silent = (s.port p).silent ∧
      ((s.synchronised p).port p).contentions = (s.port p).contentions ∧
      ((s.synchronised p).port p).syncTurn = (s.port p).syncTurn ∧
      ((s.synchronised p).port p).heartbeat = (s.port p).heartbeat ∧
      ((s.synchronised p).port p).frames = (s.port p).frames ∧
      ((s.synchronised p).port p).verdicts = (s.port p).verdicts ∧
      ((s.synchronised p).port p).grantDue = true ∧
      ((s.synchronised p).port p).envelope = some (s.synchronised p).ladder.published := by
  let u := s.motionSilence p false
  have port : u.port p = s.port p := State.port_congr (by simp [u]) p
  obtain ⟨state, silent, contentions, -, maxFrame, -, -, heartbeat, -, -, -, syncTurn, -, frames, verdicts, -⟩ :=
    (u.motionPort_reaches p p).fields
  rw [port] at state silent contentions maxFrame heartbeat syncTurn frames verdicts
  have joined : s.synchronised p = (u.motionPort p).join p := rfl
  rw [joined, State.join_port]
  refine ⟨state, maxFrame, silent, contentions, syncTurn, heartbeat, frames, verdicts, rfl, ?_⟩
  simp

/-- What Publication makes of a port that synchronises (R134; log 21). -/
theorem State.synchronised_publication (p : Station) (s : State) :
    let t := s.synchronised p
    t.publication.members.get p = true ∧ t.publication.complete = false ∧
      t.adoption p = ⟨0, true, .idle, none, (s.adoption p).unresponsive, (t.adoption p).lapsed⟩ ∧
      (t.publication.counter = s.publication.counter → (t.adoption p).lapsed = (s.adoption p).lapsed) := by
  let u := s.motionSilence p false
  have before : u.publication = s.publication := by simp [u]
  obtain ⟨unresponsive, lapsed, -⟩ := u.motionPort_adoption p p
  rw [State.adoption_congr before] at unresponsive lapsed
  rw [before] at lapsed
  obtain ⟨member, incomplete, record⟩ := (u.motionPort p).join_publication p
  refine ⟨member, incomplete, ?_, fun h => ?_⟩
  · change ((u.motionPort p).join p).adoption p = ⟨0, true, .idle, none, _, (((u.motionPort p).join p).adoption p).lapsed⟩
    rw [record, unresponsive]
  · change (((u.motionPort p).join p).adoption p).lapsed = _
    rw [record]
    refine lapsed ?_
    rw [← h]
    change _ = ((u.motionPort p).join p).publication.counter
    simp

/-- A port that synchronises is not silent, and of the other conditions Motion sets the mismatch alone (R172, R170). -/
theorem State.synchronised_cond (p : Station) (s : State) :
    ((s.synchronised p).cond (silentCond p)).asserted = false ∧
      (s.synchronised p).cond (linkLostCond p) = s.cond (linkLostCond p) := by
  have told (k : Fin 24) (h : k ≠ 9) (h' : k ≠ 10) :
      (s.synchronised p).cond k = (s.setCond (silentCond p) false none).cond k := by
    unfold State.synchronised
    rw [State.cond_congr (s := (s.motionSilence p false).motionPort p) (by simp), State.motionPort_cond _ _ h h']
    rfl
  rw [told _ (silentCond_ne p).1 (silentCond_ne p).2, told _ (linkLostCond_ne p).1 (linkLostCond_ne p).2,
    State.cond_setCond_ne _ _ _ (linkLostCond_ne_silentCond p p)]
  exact ⟨State.asserted_setCond _ _ _ _, rfl⟩

/-- Motion takes the liveness of an inverter station that synchronises (R165). -/
theorem State.synchronised_live (p : Station) (s : State) :
    (p = .front → (s.synchronised p).motion.liveFront = (s.port p).live) ∧
      (p = .rear → (s.synchronised p).motion.liveRear = (s.port p).live) := by
  let u := s.motionSilence p false
  have port : u.port p = s.port p := State.port_congr (by simp [u]) p
  have motion : (s.synchronised p).motion = (u.motionPort p).motion := by
    unfold State.synchronised
    simp [u]
  rw [motion, ← port]
  refine ⟨?_, ?_⟩
  · rintro rfl
    exact u.motionPort_front.1
  · rintro rfl
    exact u.motionPort_rear.1

/-! ### HELLO -/

theorem exec_hello_synced {p : Station} {s : State} (turn : Bool) {payload : List Byte} {m : Nat}
    (sync : (s.port p).state = .sync) (opened : (s.port p).syncTurn = true) (good : parseHello p payload = some m) :
    exec (.hello p turn payload) s = .next (State.synchronised p (State.setCond (linkLostCond p) false none
      (s.modPort p (Port.synced m s.config.timing.heartbeat)))) := by
  simp only [exec, execHello, sync, if_true, State.helloInSync, opened, good]

theorem exec_hello_takes {p : Station} {s : State} (payload : List Byte) (h : s.takes p) :
    exec (.hello p false payload) s = .next ((s.counted p).helloInTurn p payload) := by
  rw [exec_hello_of_ne false payload (by rw [h.1]; decide), State.takeFrame_takes h]

/-- Settles O13, by what `synchronised` makes of the port, of Publication, of its conditions and of Motion. -/
theorem helloSynchronisesOrRestarts : Obligations.HelloSynchronisesOrRestarts := by
  refine ⟨fun p turn k m s sync opened kind max => ?_, fun p k m s takes => ⟨fun kind max => ?_, fun bad => ?_⟩⟩
  · let synced := s.modPort p (Port.synced m.toNat s.config.timing.heartbeat)
    let u := synced.setCond (linkLostCond p) false none
    have port : u.port p = Port.synced m.toNat s.config.timing.heartbeat (s.port p) := by
      rw [State.port_congr (s := synced) (by simp [u])]
      exact State.port_modPort _ _ _
    have publication : u.publication = s.publication := by simp [u, synced]
    obtain ⟨state, maxFrame, silent, contentions, syncTurn, heartbeat, -, -, grant, envelope⟩ := u.synchronised_port p
    obtain ⟨member, incomplete, record, lapsed⟩ := u.synchronised_publication p
    obtain ⟨heard, lost⟩ := u.synchronised_cond p
    obtain ⟨front, rear⟩ := u.synchronised_live p
    rw [port] at state maxFrame silent contentions syncTurn heartbeat front rear
    rw [State.adoption_congr publication] at record lapsed
    rw [publication] at lapsed
    refine ⟨_, exec_hello_synced turn sync opened (parseHello_good kind max), state, maxFrame, silent, contentions, syncTurn,
      heartbeat, grant, envelope, member, incomplete, record, lapsed, ?_, heard, ?_, ?_, ?_, ?_, front, rear⟩
    · exact (congrArg Cond.asserted lost).trans (State.asserted_setCond _ _ _ _)
    all_goals simp
  · let u := (s.counted p).modPort p (Port.greeted m.toNat)
    have port : u.port p = Port.greeted m.toNat { s.port p with frames := (s.port p).frames + 1 } := by
      rw [State.port_modPort, State.counted_port]
    have restarted : (s.counted p).helloInTurn p [k, m] = u.synchronised p := by
      simp only [State.helloInTurn, parseHello_good kind max, u]
    obtain ⟨state, maxFrame, silent, contentions, -, -, frames, verdicts, grant, envelope⟩ := u.synchronised_port p
    obtain ⟨member, incomplete, record, lapsed⟩ := u.synchronised_publication p
    rw [port] at state maxFrame silent contentions frames verdicts
    refine ⟨u.synchronised p, by rw [exec_hello_takes _ takes, restarted], state.trans takes.1, frames, verdicts, maxFrame,
      silent, contentions, envelope, grant, member, incomplete, record, lapsed, ?_, (u.synchronised_cond p).1⟩
    simp [u]
  · rw [exec_hello_takes _ takes]
    simp only [State.helloInTurn, parseHello_bad bad, State.counted_countDiscard]
    simp only [State.countDiscard, State.modPort_modPort]
    rfl

/-! ### Contention -/

/-- The assembly of a port that truncates ends, whatever becomes of its buffer (R47, R48). -/
theorem State.truncate_slot (p : Station) (s : State) : ((s.truncate p).slot p).assembly = none := by
  unfold State.truncate
  split
  · assumption
  · split <;> simp [State.endAssembly]

/-- A port in the exchange that enters SYNC (R20, R135, R164). -/
theorem State.enterSync_spec {p : Station} {s : State} (h : (s.port p).inExchange = true) :
    (s.enterSync p).port p = (s.port p).toSync ∧ ((s.enterSync p).slot p).assembly = none ∧
      ((s.enterSync p).adoption p).window = .idle ∧ ((s.enterSync p).adoption p).timer = none ∧
      (p = .front → (s.enterSync p).motion.liveFront = false ∧ (s.enterSync p).motion.speedFront = none) ∧
      (p = .rear → (s.enterSync p).motion.liveRear = false ∧ (s.enterSync p).motion.speedRear = none) := by
  let u := (s.setPort p (s.port p).toSync).leaveExchange p
  have entered : s.enterSync p = u.motionPort p := by simp only [State.enterSync, h, if_true, u]
  have port : u.port p = (s.port p).toSync := by
    rw [State.port_congr (s := s.setPort p (s.port p).toSync) (by simp [u]), State.port_setPort]
  have idle : (u.adoption p).window = .idle ∧ (u.adoption p).timer = none := by
    simp [u, State.leaveExchange, State.depart]
  obtain ⟨-, -, stays⟩ := u.motionPort_adoption p p
  obtain ⟨window, timer⟩ := stays idle.1 idle.2
  have slot : (u.motionPort p).slot p = ((s.setPort p (s.port p).toSync).truncate p).slot p := by
    have kept : (u.motionPort p).intake.slots = u.intake.slots := by simp
    exact congrArg (PerStation.get · p) kept
  rw [entered]
  refine ⟨?_, ?_, window, timer, ?_, ?_⟩
  · rw [(u.motionPort_reaches p p).outside (by rw [port]; rfl), port]
  · rw [slot]
    exact State.truncate_slot p _
  · rintro rfl
    obtain ⟨live, speed, -⟩ := u.motionPort_front
    rw [live, speed, port]
    exact ⟨rfl, rfl⟩
  · rintro rfl
    obtain ⟨live, speed, -⟩ := u.motionPort_rear
    rw [live, speed, port]
    exact ⟨rfl, rfl⟩

/-- The port after a contention has cut its frame off (R30; logs 11, 34, 35, 38). -/
theorem Port.contend_fields (f : OutFrame) (o : Port) :
    (o.contend f).state = o.state ∧ (o.contend f).sending = none ∧ (o.contend f).contentions = o.contentions + 1 ∧
      (o.contend f).receipts = (match f with | .receipt r => [r] | _ => []) ++ o.receipts ∧
      (o.contend f).replies = (match f with | .readReply r => [r] | _ => []) ++ o.replies ∧
      (o.contend f).notice = (match f with | .notice _ => true | _ => o.notice) ∧
      (o.contend f).grantDue = o.grantDue ∧ (o.contend f).silent = o.silent ∧
      (∀ e, f = .envelope e → (o.contend f).envelope = some (o.envelope.getD e)) := by
  cases f <;> simp [Port.contend, Port.putBack]

theorem exec_contention {p : Station} {x : Sending} {s : State} (hold : (s.port p).state = .hold)
    (sends : (s.port p).sending = some x) : exec (.contention p) s = .next (s.contention p x.frame) := by
  simp only [exec, execContention, hold, sends]

/-- Settles O18, by the port that the contention leaves (`contend_fields`), and at the third by the entry to SYNC. -/
theorem contentionCutsTheFrameOff : Obligations.ContentionCutsTheFrameOff := by
  intro p x s hold sends
  let cut := s.modPort p (Port.contend x.frame)
  have port : cut.port p = (s.port p).contend x.frame := State.port_modPort _ _ _
  obtain ⟨state, sending, contentions, receipts, replies, notice, grant, silent, envelope⟩ :=
    (s.port p).contend_fields x.frame
  rw [exec_contention hold sends]
  refine ⟨fun below => ?_, fun third => ?_⟩
  · let u := cut.modPort p Port.toRecover
    have uport : u.port p = ((s.port p).contend x.frame).toRecover := by rw [State.port_modPort, port]
    have contended : s.contention p x.frame = u.motionPort p := by
      unfold State.contention
      exact if_pos (by rw [port, contentions]; exact below)
    have reached := u.motionPort_reaches p p
    obtain ⟨fstate, -, fcontentions, -, -, -, -, -, -, fquiet, -, -, -, -, -, -, freceipts, freplies, fnotice, fsending, -⟩ :=
      reached.fields
    rw [uport] at fstate fcontentions fquiet freceipts freplies fnotice fsending
    have dead : ((((s.port p).contend x.frame).toRecover).live) = false := rfl
    refine ⟨_, congrArg _ contended, fstate, fsending.trans sending, fcontentions.trans contentions, fquiet,
      freceipts.trans receipts, freplies.trans replies, fnotice.trans notice, fun due => reached.grantDue ?_,
      fun e he => reached.envelope ?_, fun e he front rear => ?_, ?_, ?_, by simp [u, cut], by simp [u, cut], by simp [u, cut]⟩
    · rw [uport]
      exact grant.trans due
    · rw [uport]
      exact (congrArg Option.isSome (envelope e he)).trans rfl
    · rw [State.motionPort_of_ne _ front rear, uport]
      exact envelope e he
    · rintro rfl
      rw [u.motionPort_front.1, uport, dead]
    · rintro rfl
      rw [u.motionPort_rear.1, uport, dead]
  · let u := cut.enterSync p
    have contended : s.contention p x.frame = u.setCond (linkLostCond p) true none := by
      unfold State.contention
      exact if_neg (by rw [port, contentions]; omega)
    obtain ⟨synced, slot, window, timer, front, rear⟩ :=
      State.enterSync_spec (s := cut) (p := p) (by rw [port, Port.inExchange_iff, state]; exact .inl hold)
    have kept : (u.setCond (linkLostCond p) true none).ports = u.ports ∧
        (u.setCond (linkLostCond p) true none).publication = u.publication ∧
        (u.setCond (linkLostCond p) true none).intake.slots = u.intake.slots ∧
        (u.setCond (linkLostCond p) true none).motion = u.motion := by simp
    obtain ⟨ports, publication, slots, motion⟩ := kept
    refine ⟨_, congrArg _ contended, ?_, State.asserted_setCond _ _ _ _, ?_, ?_, ?_, ?_, ?_, by simp [u, cut]⟩
    · rw [State.port_congr ports, synced, port]
      cases x.frame <;> rfl
    · exact (congrArg (fun l : PerStation LongSlot => (l.get p).assembly) slots).trans slot
    · rw [State.adoption_congr publication]
      exact window
    · rw [State.adoption_congr publication]
      exact timer
    · rw [motion]
      exact front
    · rw [motion]
      exact rear

end Sys2Proof.Machine
end

section
/-!
PROOFS. READ: how it is answered and which payloads its targets take.
-/
namespace Sys2Proof.Machine

open Sys2Proof

/-! ### The payloads of the seven targets -/

theorem fin?_eq_some {n k : Nat} {i : Fin n} : fin? n k = some i ↔ k = i.val := by
  unfold fin?
  split
  · next h => simp [Fin.ext_iff]
  · next h =>
    have := i.isLt
    simp
    omega

theorem toNat_ofNat_fin {n : Nat} (h : n ≤ 256) (i : Fin n) : (BitVec.ofNat 8 i.val).toNat = i.val := by
  have := i.isLt
  simp only [BitVec.toNat_ofNat]
  omega

theorem toNat_ofNat_le {n : Nat} (h : n ≤ 255) : (BitVec.ofNat 8 n).toNat = n := by
  simp only [BitVec.toNat_ofNat]
  omega

/-- READ TABLE: the first entry and a count of 1 to 48 (R37). -/
theorem parseReadTable_eq_some (payload : List Byte) (r : ReadTarget) :
    parseReadTable payload = some r ↔ ∃ (f n : Byte) (first : Fin 48), payload = [0, f, n] ∧ f.toNat = first.val ∧
      1 ≤ n.toNat ∧ n.toNat ≤ 48 ∧ r = .table first n.toNat := by
  constructor
  · intro h
    unfold parseReadTable at h
    split at h
    · next t f n =>
      split at h
      · next code =>
        simp only [Option.bind_eq_bind, Option.bind_eq_some_iff, Option.some.injEq, fin?_eq_some, within_eq_some] at h
        obtain ⟨first, hf, _, ⟨low, high, rfl⟩, rfl⟩ := h
        exact ⟨f, n, first, by rw [BitVec.eq_of_toNat_eq (y := 0) code], hf, low, high, rfl⟩
      · contradiction
    · contradiction
  · rintro ⟨f, n, first, rfl, hf, low, high, rfl⟩
    simp [parseReadTable, fin?_eq_some.2 hf, within_eq_some.2 ⟨low, high, rfl⟩]

/-- READ ENTRY: the entry (R37). -/
theorem parseReadEntry_eq_some (payload : List Byte) (r : ReadTarget) :
    parseReadEntry payload = some r ↔ ∃ (b : Byte) (e : Fin 48), payload = [1, b] ∧ b.toNat = e.val ∧ r = .entry e := by
  constructor
  · intro h
    unfold parseReadEntry at h
    split at h
    · next t b =>
      split at h
      · next code =>
        simp only [Option.map_eq_some_iff, fin?_eq_some] at h
        obtain ⟨e, he, rfl⟩ := h
        exact ⟨b, e, by rw [BitVec.eq_of_toNat_eq (y := 1) code], he, rfl⟩
      · contradiction
    · contradiction
  · rintro ⟨b, e, rfl, he, rfl⟩
    simp [parseReadEntry, fin?_eq_some.2 he]

/-- READ SNAPSHOT: the buffer and an offset of at most 239 (R37). -/
theorem parseReadSnapshot_eq_some (payload : List Byte) (r : ReadTarget) :
    parseReadSnapshot payload = some r ↔ ∃ (b o : Byte) (x : Fin 8), payload = [2, b, o] ∧ b.toNat = x.val ∧
      o.toNat ≤ 239 ∧ r = .snapshot x o.toNat := by
  constructor
  · intro h
    unfold parseReadSnapshot at h
    split at h
    · next t b o =>
      split at h
      · next code =>
        simp only [Option.bind_eq_bind, Option.bind_eq_some_iff, Option.some.injEq, fin?_eq_some, within_eq_some] at h
        obtain ⟨x, hx, _, ⟨-, limit, rfl⟩, rfl⟩ := h
        exact ⟨b, o, x, by rw [BitVec.eq_of_toNat_eq (y := 2) code], hx, limit, rfl⟩
      · contradiction
    · contradiction
  · rintro ⟨b, o, x, rfl, hx, limit, rfl⟩
    simp [parseReadSnapshot, fin?_eq_some.2 hx, within_eq_some.2 ⟨Nat.zero_le _, limit, rfl⟩]

/-- A READ without parameters: the target's code alone (R37). -/
theorem parseReadPlain_eq_some {code : Nat} (h : code ≤ 255) (target : ReadTarget) (payload : List Byte) (r : ReadTarget) :
    parseReadPlain code target payload = some r ↔ payload = [BitVec.ofNat 8 code] ∧ r = target := by
  constructor
  · intro hr
    unfold parseReadPlain at hr
    split at hr
    · split at hr
      · next same =>
        cases hr
        exact ⟨by rw [← same, BitVec.ofNat_toNat, BitVec.setWidth_eq], rfl⟩
      · contradiction
    · contradiction
  · rintro ⟨rfl, rfl⟩
    simp [parseReadPlain, Nat.mod_eq_of_lt (show code < 256 by omega)]

/-! ### The answers -/

/-- A READ taken in a turn is judged by what its row parses (R37). -/
theorem exec_readCommands {p : Station} {payload : List Byte} {x : Instr × Option ReadTarget}
    (hx : x ∈ readCommands p false payload) (s : State) : exec x.1 s = .next (s.takeRead p false x.2) := by
  simp only [readCommands, List.mem_cons, List.not_mem_nil, or_false] at hx
  rcases hx with rfl | rfl | rfl | rfl | rfl | rfl | rfl <;> rfl

theorem State.takeRead_takes {p : Station} {s : State} (target : Option ReadTarget) (h : s.takes p) :
    s.takeRead p false target = (State.judgeRead p target (s.counted p)).1.addVerdict p
      (State.judgeRead p target (s.counted p)).2 :=
  State.receipted_takes h

theorem State.takeRead_malformed {p : Station} {s : State} (h : s.takes p) :
    s.takeRead p false none = s.answered p .malformed := by
  rw [State.takeRead_takes none h]
  exact State.counted_addVerdict s p .malformed

theorem State.takeRead_full {p : Station} {s : State} (r : ReadTarget) (h : s.takes p)
    (full : 16 ≤ (s.port p).replies.length) : s.takeRead p false (some r) = s.answered p .queueFull := by
  have : replyMax ≤ ((s.counted p).port p).replies.length := by
    rw [State.counted_port]
    exact full
  rw [State.takeRead_takes _ h]
  simp only [State.judgeRead, this, if_true]
  exact State.counted_addVerdict s p .queueFull

theorem State.takeRead_taken {p : Station} {s : State} (r : ReadTarget) (h : s.takes p)
    (room : (s.port p).replies.length < 16) : s.takeRead p false (some r) =
      State.answered (s.modPort p fun o => { o with replies := o.replies ++ [r] }) p .taken := by
  have : ¬ replyMax ≤ ((s.counted p).port p).replies.length := by simpa [replyMax] using room
  rw [State.takeRead_takes _ h]
  simp only [State.judgeRead, this, if_false]
  simp only [State.counted, State.addVerdict, State.answered, State.modPort_modPort]

/-- Settles O46: each row by what it parses, and each target's payloads by its `parseRead…_eq_some`. -/
theorem readsAreAnswered : Obligations.ReadsAreAnswered := by
  refine ⟨fun p payload s takes x hx => ?_, fun first n low high => ?_, fun e => ?_, fun b offset limit => ?_,
    fun payload r hr => ?_, fun payload r hr => ?_, fun payload r hr => ?_, parseReadPlain_eq_some (by decide) _,
    parseReadPlain_eq_some (by decide) _, parseReadPlain_eq_some (by decide) _, parseReadPlain_eq_some (by decide) _⟩
  · rw [exec_readCommands hx]
    refine ⟨fun none_ => ?_, fun r hr => ?_⟩
    · rw [none_ x hx, State.takeRead_malformed takes]
    · rw [hr]
      exact ⟨fun full => congrArg _ (State.takeRead_full r takes full),
        fun room => congrArg _ (State.takeRead_taken r takes room)⟩
  · have count : (BitVec.ofNat 8 n).toNat = n := toNat_ofNat_le (by omega)
    exact (parseReadTable_eq_some _ _).2
      ⟨_, _, first, rfl, toNat_ofNat_fin (by decide) first, by rwa [count], by rwa [count], by rw [count]⟩
  · exact (parseReadEntry_eq_some _ _).2 ⟨_, e, rfl, toNat_ofNat_fin (by decide) e, rfl⟩
  · have at_ : (BitVec.ofNat 8 offset).toNat = offset := toNat_ofNat_le (by omega)
    exact (parseReadSnapshot_eq_some _ _).2 ⟨_, _, b, rfl, toNat_ofNat_fin (by decide) b, by rwa [at_], by rw [at_]⟩
  · obtain ⟨f, n, first, rfl, hf, low, high, -⟩ := (parseReadTable_eq_some _ _).1 hr
    exact ⟨f, n, rfl, hf ▸ first.isLt, low, high⟩
  · obtain ⟨b, e, rfl, he, -⟩ := (parseReadEntry_eq_some _ _).1 hr
    exact ⟨b, rfl, he ▸ e.isLt⟩
  · obtain ⟨b, o, x, rfl, hx, limit, -⟩ := (parseReadSnapshot_eq_some _ _).1 hr
    exact ⟨b, o, rfl, hx ▸ x.isLt, limit⟩

end Sys2Proof.Machine
end

section
/-!
PROOFS. The line: the CRC and its residue, a frame through the receiver, and bytes through the bits of the line.
-/
namespace Sys2Proof.Machine

open Sys2Proof

/-! ### The CRC -/

theorem crc16_append (l m : List Byte) : crc16 (l ++ m) = m.foldl crcByte (crc16 l) := List.foldl_append

/-- A register whose upper byte is clear goes through eight bits without the generator (R17). -/
theorem crcShift_low (x : BitVec 8) (k : Nat) (h : k ≤ 8) :
    (List.range k).foldl (fun r _ => crcShift r) (x.setWidth 16) = x.setWidth 16 <<< k := by
  induction k with
  | zero => simp
  | succ k ih =>
    have clear : (x.setWidth 16 <<< k).msb = false := by
      rw [BitVec.msb_eq_getLsbD_last, BitVec.getLsbD_shiftLeft, BitVec.getLsbD_setWidth,
        BitVec.getLsbD_of_ge x _ (by omega)]
      simp
    rw [List.range_succ, List.foldl_append, ih (by omega), List.foldl_cons, List.foldl_nil, crcShift, clear,
      BitVec.shiftLeft_add]
    rfl

/-- The register with its own upper byte taken in holds its lower byte above a clear one. -/
theorem crcByte_high (r : BitVec 16) : crcByte r (BitVec.ofNat 8 (r.toNat / 256)) = (r.setWidth 8).setWidth 16 <<< 8 := by
  have low : r ^^^ ((BitVec.ofNat 8 (r.toNat / 256)).setWidth 16 <<< 8) = (r.setWidth 8).setWidth 16 := by
    refine BitVec.eq_of_getLsbD_eq fun i hi => ?_
    by_cases lower : i < 8
    · simp [lower, hi]
    · have upper : (BitVec.ofNat 8 (r.toNat / 256)).getLsbD (i - 8) = r.getLsbD i := by
        rw [BitVec.getLsbD_ofNat, show (256 : Nat) = 2 ^ 8 from rfl, Nat.testBit_div_two_pow, decide_eq_true (by omega),
          Bool.true_and, Nat.sub_add_cancel (by omega)]
        rfl
      simp [lower, hi, upper]
  rw [crcByte, low, crcShift_low _ 8 (Nat.le_refl 8)]

/-- A byte taken in over itself leaves the register clear. -/
theorem crcByte_self (b : Byte) : crcByte (b.setWidth 16 <<< 8) b = 0 := by
  rw [crcByte, BitVec.xor_self]
  rfl

/-- Any bytes followed by their CRC leave the register at 0 (R17). -/
theorem crc16_residue (l : List Byte) : crc16 (l ++ bytes16 (crc16 l).toNat) = 0 := by
  have low : BitVec.ofNat 8 (crc16 l).toNat = (crc16 l).setWidth 8 := BitVec.ofNat_toNat 8 (crc16 l)
  rw [crc16_append, bytes16, List.foldl_cons, List.foldl_cons, List.foldl_nil, crcByte_high, low, crcByte_self]

/-! ### The receiver -/

theorem hunt_nil (fuel : Nat) : hunt fuel [] = [] := by cases fuel <;> rfl

theorem byteOf_toNat {n : Nat} (h : n ≤ 255) : (byteOf n).toNat = n := by
  simp only [byteOf, BitVec.toNat_ofNat]
  omega

/-- A whole frame after its delimiter, with nothing behind it (R16, R17). -/
theorem frameAfter_whole (kind flags hi lo : Byte) {payload : List Byte} (h : payload.length ≤ 255) :
    let covered := [kind, flags, byteOf payload.length] ++ payload ++ [hi, lo]
    frameAfter covered = some (.frame kind flags payload (decide (crc16 covered = 0)), []) := by
  have long : ¬ (payload ++ [hi, lo]).length < payload.length + 2 := by simp
  have take : (payload ++ [hi, lo]).take (payload.length + 2) = payload ++ [hi, lo] := List.take_of_length_le (by simp)
  have drop : (payload ++ [hi, lo]).drop (payload.length + 2) = [] := List.drop_of_length_le (by simp)
  intro covered
  change frameAfter (kind :: flags :: byteOf payload.length :: (payload ++ [hi, lo])) = _
  simp only [frameAfter, byteOf_toNat h, long, if_false, take, drop, List.take_left]
  rfl

theorem receive_whole (kind flags hi lo : Byte) {payload : List Byte} (h : payload.length ≤ 255) :
    let covered := [kind, flags, byteOf payload.length] ++ payload ++ [hi, lo]
    receive (0xB7 :: covered) = [.frame kind flags payload (decide (crc16 covered = 0))] := by
  intro covered
  have after := frameAfter_whole kind flags hi lo h
  rw [receive, List.length_cons, hunt, if_pos (show (0xB7 : Byte) = delimiter from rfl), after]
  exact congrArg (List.cons _) (hunt_nil covered.length)

/-- Settles O49: the residue by `crc16_residue`, the receiver by `receive_whole`, the rest by what the CRC and a frame are. -/
theorem crcOfAnIntactFrameIsZero : Obligations.CrcOfAnIntactFrameIsZero := by
  refine ⟨rfl, fun l b => ?_, by decide +kernel, crc16_residue, fun kind turn payload => rfl,
    fun kind flags hi lo payload h => receive_whole kind flags hi lo h, fun p mV kind flags payload => rfl⟩
  rw [crc16_append]
  rfl

/-! ### Bytes through the line -/

/-- A reader between bytes takes whole bytes off the line one after another. -/
theorem LineReader.read_bytes (l : List Byte) (rest : List Bool) : ∀ (since : Nat) (bytes : List Byte),
    (LineReader.mk since none bytes).read (lineLevels l ++ rest) =
      (LineReader.mk (if l = [] then since else 10) none (bytes ++ l)).read rest := by
  induction l with
  | nil => simp [lineLevels]
  | cons b l ih =>
    intro since bytes
    have split : lineLevels (b :: l) ++ rest = byteLevels b ++ (lineLevels l ++ rest) := by simp [lineLevels]
    rw [split, LineReader.read_byte, ih]
    simp

/-- A reader that has seen the line idle gives out nothing more while it stays so (R15). -/
theorem LineReader.read_idle (bytes : List Byte) (n : Nat) : ∀ since : Nat, 50 ≤ since →
    (LineReader.mk since none bytes).read (List.replicate n true) = [] := by
  induction n with
  | zero => exact fun _ _ => rfl
  | succ n ih =>
    intro since h
    have : since + 1 ≠ idleBits := by unfold idleBits; omega
    simp [List.replicate_succ, LineReader.read, LineReader.bit, this, ih (since + 1) (by omega)]

/-- A reader between bytes gives out its bytes when 50 bit times have passed since the last start bit, and not before (R15). -/
theorem LineReader.read_quiet (bytes : List Byte) (n : Nat) : ∀ since : Nat, since < 50 →
    (LineReader.mk since none bytes).read (List.replicate n true) = if 50 ≤ since + n then [bytes] else [] := by
  induction n with
  | zero =>
    intro since h
    simp [LineReader.read, Nat.not_le.2 h]
  | succ n ih =>
    intro since h
    rw [List.replicate_succ]
    by_cases last : since + 1 = idleBits
    · have now : 50 ≤ since + (n + 1) := by unfold idleBits at last; omega
      simp [LineReader.read, LineReader.bit, last, now, LineReader.idle, LineReader.read_idle [] n idleBits (Nat.le_refl 50)]
    · have more : since + 1 < 50 := by unfold idleBits at last; omega
      simp [LineReader.read, LineReader.bit, last, ih (since + 1) more, Nat.add_assoc, Nat.add_comm 1 n]

theorem receive_frameBytes (kind : Byte) (turn : Bool) {payload : List Byte} (h : payload.length ≤ 255) :
    receive (frameBytes kind turn payload) = [.frame kind (byteOf turn.toNat) payload true] := by
  let body := [kind, byteOf turn.toNat, byteOf payload.length] ++ payload
  have whole := receive_whole kind (byteOf turn.toNat) (BitVec.ofNat 8 ((crc16 body).toNat / 256))
    (BitVec.ofNat 8 (crc16 body).toNat) h
  have residue : crc16 (body ++ [BitVec.ofNat 8 ((crc16 body).toNat / 256), BitVec.ofNat 8 (crc16 body).toNat]) = 0 :=
    crc16_residue body
  refine (show receive (frameBytes kind turn payload) = _ from whole).trans ?_
  rw [decide_eq_true residue]

/-- Settles O50, by the frame through the receiver and by the bytes through the line. -/
theorem framesReadBackWhole : Obligations.FramesReadBackWhole := by
  refine ⟨fun kind turn payload h => receive_frameBytes kind turn h, fun b => rfl, fun l n hl hn => ?_, fun l n hn => ?_⟩
  · rw [LineReader.idle, LineReader.read_bytes, if_neg hl, LineReader.read_quiet _ _ _ (by decide), if_pos (by omega)]
    rfl
  · rw [LineReader.idle, LineReader.read_bytes]
    split
    · exact LineReader.read_idle _ n _ (Nat.le_refl 50)
    · rw [LineReader.read_quiet _ _ _ (by decide), if_neg (by omega)]

end Sys2Proof.Machine
end

section
/-!
PROOFS. The payloads that the E410 sends: a reply is cut where a field no longer fits, and what each payload holds byte by byte.
-/
namespace Sys2Proof.Machine

open Sys2Proof

/-! ### Tables read in index order -/

theorem toList_eq_map_finRange {α : Type} {n : Nat} (v : Vector α n) : v.toList = (List.finRange n).map fun i => v[i] := by
  apply List.ext_getElem <;> simp

theorem countAt_eq_countP {α : Type} {n : Nat} (f : α → Bool) (v : Vector α n) :
    countAt f v = (List.finRange n).countP fun i => f v[i] := by
  rw [countAt, toList_eq_map_finRange, ← List.countP_eq_length_filter, List.countP_map]
  rfl

/-! ### Cutting a reply where a field no longer fits (R72) -/

/-- How many bytes of fields of these lengths are sent in `room`: those of the leading fields that fit whole. -/
def cutLength (room : Nat) : List Nat → Nat
  | [] => 0
  | n :: rest => if n ≤ room then n + cutLength (room - n) rest else 0

theorem cutFields_eq_take (room : Nat) (fields : List (List Byte)) :
    cutFields room fields = fields.flatten.take (cutLength room (fields.map List.length)) := by
  induction fields generalizing room with
  | nil => rfl
  | cons f rest ih =>
    simp only [cutFields, List.map_cons, cutLength, List.flatten_cons]
    split
    · rw [List.take_append, List.take_of_length_le (Nat.le_add_right _ _), Nat.add_sub_cancel_left, ih]
    · rw [List.take_zero]

theorem cutLength_le (room : Nat) (lengths : List Nat) : cutLength room lengths ≤ room := by
  induction lengths generalizing room with
  | nil => exact Nat.zero_le _
  | cons n rest ih =>
    rw [cutLength]
    split
    · have := ih (room - n)
      omega
    · exact Nat.zero_le _

/-- Where every field fits, none is cut. -/
theorem cutLength_of_fits {room : Nat} {lengths : List Nat} (h : lengths.sum ≤ room) : cutLength room lengths = lengths.sum := by
  induction lengths generalizing room with
  | nil => rfl
  | cons n rest ih =>
    rw [List.sum_cons] at h ⊢
    rw [cutLength, if_pos (by omega), ih (by omega)]

theorem cutFields_length_le (room : Nat) (fields : List (List Byte)) : (cutFields room fields).length ≤ room := by
  rw [cutFields_eq_take]
  exact (List.length_take_le _ _).trans (cutLength_le _ _)

theorem cutFields_of_fits {room : Nat} {fields : List (List Byte)} (h : fields.flatten.length ≤ room) :
    cutFields room fields = fields.flatten := by
  rw [List.length_flatten] at h
  rw [cutFields_eq_take, cutLength_of_fits h, ← List.length_flatten, List.take_length]

theorem cutFields_prefix (room : Nat) (fields : List (List Byte)) : cutFields room fields <+: fields.flatten := by
  rw [cutFields_eq_take]
  exact List.take_prefix _ _

/-! ### The TABLE reply -/

theorem length_flatMap_four {α β : Type} {f : α → List β} (h : ∀ a, (f a).length = 4) (l : List α) :
    (l.flatMap f).length = 4 * l.length := by
  simp [List.length_flatMap, h, Nat.mul_comm]

/-- The k-th run of four items. -/
theorem take_drop_flatMap_four {α β : Type} {f : α → List β} (h : ∀ a, (f a).length = 4) {l : List α} {k : Nat}
    (hk : k < l.length) : ((l.flatMap f).drop (4 * k)).take 4 = f l[k] := by
  induction l generalizing k with
  | nil => cases hk
  | cons a l ih =>
    rw [List.flatMap_cons]
    cases k with
    | zero => rw [Nat.mul_zero, List.drop_zero, List.take_left' (h a)]; rfl
    | succ k =>
      rw [show 4 * (k + 1) = (f a).length + 4 * k by rw [h]; omega, List.drop_length_add_append, ih (by simpa using hk)]
      rfl

/-- How many summaries a TABLE reply carries (R73). -/
def carried (room : Nat) (first : Fin 48) (count : Nat) : Nat := min (min count (48 - first.val)) ((room - 3) / 4)

theorem length_summaryBytes (e : Entry) : (summaryBytes e).length = 4 := rfl

theorem length_carried (room : Nat) (first : Fin 48) (count : Nat) (t : FaultTable) :
    ((t.entries.toList.drop first.val).take (carried room first count)).length = carried room first count := by
  simp [carried]

theorem tableReply_length (room : Nat) (first : Fin 48) (count : Nat) (t : FaultTable) :
    (tableReply room first count t).length = 3 + 4 * carried room first count := by
  have body := length_flatMap_four length_summaryBytes ((t.entries.toList.drop first.val).take (carried room first count))
  rw [length_carried] at body
  simp only [tableReply, List.length_cons]
  rw [← carried, body]
  omega

theorem tableReply_summary (room : Nat) {first e : Fin 48} (count : Nat) (t : FaultTable) (low : first.val ≤ e.val)
    (high : e.val < first.val + carried room first count) :
    ((tableReply room first count t).drop (3 + 4 * (e.val - first.val))).take 4 = summaryBytes t.entries[e] := by
  have inside : e.val - first.val < ((t.entries.toList.drop first.val).take (carried room first count)).length := by
    rw [length_carried]
    omega
  have there := take_drop_flatMap_four length_summaryBytes inside
  have at_ : first.val + (e.val - first.val) = e.val := by omega
  simp only [List.getElem_take, List.getElem_drop, at_] at there
  rw [tableReply, Nat.add_comm]
  exact there

/-! ### No reply exceeds the declared max frame -/

theorem snapshotReply_length_le {room : Nat} (h : 7 ≤ room) (b : Fin 8) (offset : Nat) (x : Buffer) :
    (snapshotReply room b offset x).length ≤ room := by
  have := List.length_take_le (room - 7) (x.data.drop offset)
  simp only [snapshotReply, List.length_append, List.length_cons, List.length_nil]
  omega

theorem State.roomOf_eq {s : State} {p : Station} {m : Nat} (h : (s.port p).maxFrame = some m) : s.roomOf p = m := by
  rw [State.roomOf, h]
  rfl

/-- Settles O47, by the target: the cut replies by `cutFields_length_le`, TABLE and SNAPSHOT by what they carry. -/
theorem repliesFitTheMaxFrame : Obligations.RepliesFitTheMaxFrame := by
  intro s p m r room large
  have hm := State.roomOf_eq room
  cases r with
  | table first count =>
    simp only [State.replyBytes, hm, tableReply_length, carried]
    omega
  | entry e => exact hm ▸ cutFields_length_le _ _
  | snapshot b offset =>
    rw [State.replyBytes, hm]
    exact snapshotReply_length_le (by omega) b offset _
  | envelope => exact hm ▸ cutFields_length_le _ _
  | monitor => exact hm ▸ cutFields_length_le _ _
  | overflow =>
    simp only [State.replyBytes, overflowReply, List.length_cons, List.length_map, List.length_range]
    omega
  | ident =>
    simp only [State.replyBytes, identReply, bytes16, List.length_append, List.length_cons, List.length_nil]
    omega

end Sys2Proof.Machine
end

section
/-!
PROOFS. What the payloads that the E410 sends hold, byte by byte.
-/
namespace Sys2Proof.Machine

open Sys2Proof

/-! ### Coded fields -/

theorem bytes32_eq (n : Nat) :
    bytes32 n = [byteOf (n / 16777216), byteOf (n / 65536), byteOf (n / 256), byteOf n] := by
  have high : n / 65536 / 256 = n / 16777216 := Nat.div_div_eq_div_mul _ _ _
  have third : BitVec.ofNat 8 (n % 65536 / 256) = BitVec.ofNat 8 (n / 256) := by
    refine BitVec.eq_of_toNat_eq ?_
    simp only [BitVec.toNat_ofNat]
    omega
  have last : BitVec.ofNat 8 (n % 65536) = BitVec.ofNat 8 n := by
    refine BitVec.eq_of_toNat_eq ?_
    simp only [BitVec.toNat_ofNat]
    omega
  simp only [bytes32, bytes16, high, third, last, byteOf, List.cons_append, List.nil_append]

theorem yesNoByte_eq (b : Bool) : yesNoByte b = if b then 1 else 0 := by cases b <;> rfl

/-- Bit `i` of a byte made of bits, the lowest first. -/
theorem bitsByte_getLsbD (l : List Bool) {i : Nat} (h : i < 8) : (bitsByte l).getLsbD i = l.getD i false := by
  have bit : ∀ (l : List Bool) (i : Nat), (l.foldr (fun (b : Bool) (n : Nat) => b.toNat + 2 * n) 0).testBit i = l.getD i false := by
    intro l
    induction l with
    | nil => simp
    | cons b l ih =>
      intro i
      rw [List.foldr_cons]
      cases i with
      | zero => cases b <;> simp [Nat.testBit_zero]
      | succ i =>
        have half (n : Nat) : (b.toNat + 2 * n) / 2 = n := by
          have := b.toNat_le
          omega
        rw [Nat.testBit_succ, half, ih]
        rfl
  rw [bitsByte, byteOf, BitVec.getLsbD_ofNat, bit, decide_eq_true h, Bool.true_and]

/-! ### The ENTRY and ENVELOPE replies -/

theorem entryFields_lengths (i : Fin 48) (e : Entry) : (entryFields i e).map List.length =
    [1, 1, 1, 1, 1, 1, 4, 4, 4, 2, 1, 1, 1, 1, 1, 1, 1, 1, 1, 1, 1, 1, 2, 1, 1] := by
  have demand : (demandFields e.demand).map List.length = [1, 1, 1, 1, 1, 1] := by cases e.demand <;> rfl
  rw [entryFields, List.map_append, List.map_append, demand]
  rfl

/-- The ENTRY reply is cut at the room but for 33 bytes, where the detail no longer fits (R72, R74). -/
theorem entryReply_eq {m : Nat} (h : 32 ≤ m) (i : Fin 48) (e : Entry) :
    cutFields m (entryFields i e) = (entryFields i e).flatten.take (if m = 33 then 32 else m) := by
  have length : (entryFields i e).flatten.length = 36 := by
    rw [List.length_flatten, entryFields_lengths]
    rfl
  rw [cutFields_eq_take, entryFields_lengths, List.take_eq_take_iff, length]
  by_cases large : 36 ≤ m
  · rw [cutLength_of_fits large, if_neg (by omega), Nat.min_eq_right large]
    rfl
  · have : m < 36 := by omega
    interval_cases m <;> rfl

theorem entryFields_flatten (i : Fin 48) (e : Entry) : (entryFields i e).flatten =
    [byteOf 1, byteOf i.val, byteOf e.state.code, byteOf e.zone.val, byteOf e.cls.val, byteOf e.episode] ++
      bytes32 e.openedAt.toNat ++ bytes32 e.stateSince.toNat ++ bytes32 e.lastReportAt.toNat ++ bytes16 e.reportCount ++
      [byteOf (sourceSetCode e.witness), byteOf (sourceSetCode e.present), byteOf e.recurrence,
        byteOf (indexCode e.root)] ++ (demandFields e.demand).flatten ++
      [byteOf (episodeEndCode e.outcome), yesNoByte e.detail.isSome] ++ bytes16 (e.detail.getD 0).toNat ++
      [byteOf (indexCode e.snapshot), yesNoByte e.snapshotLost] := by
  simp [entryFields]

theorem envelopeReply_eq {m : Nat} (h : 32 ≤ m) (l : Ladder) : cutFields m (ladderFields l) =
    byteOf 3 :: envelopeBytes l.published ++ bytes32 l.adopted.generation ++ limitsBytes l.inForce.limits ++
      limitsBytes l.target.limits ++ [byteOf l.relax.code] := by
  have fits : (ladderFields l).flatten.length ≤ m := h
  rw [cutFields_of_fits fits]
  simp [ladderFields]

/-! ### The MONITOR reply -/

theorem statusFields_lengths {p : Station} {o : Option StatusRec} (h : ∀ x, o = some x → x.fits p = true) :
    (statusFields p o).map List.length =
      match p with | .ride => [1, 1, 1] | .front | .rear => [1, 2, 1] | .pack => [1, 2, 2, 1] := by
  cases o with
  | none => cases p <;> rfl
  | some x =>
    have fits := h x rfl
    cases x <;> cases p <;> first | rfl | cases fits

theorem monitorFields_lengths {s : State} (h : StatusFormsHold s) : (monitorFields s).map List.length =
    [1, 1, 2, 2, 2, 2, 2, 2, 2, 1, 1, 1, 1, 1, 1, 1, 1, 1, 1, 1, 1, 1, 1, 2, 1, 1, 2, 1, 1, 2, 2, 1] := by
  have held := (statusFormsHold_iff s).1 h
  have samples : (s.monitor.latest.toList.map sampleBytes).map List.length = List.replicate 7 2 := by
    rw [List.eq_replicate_iff]
    simp only [List.length_map, Vector.length_toList, List.mem_map, true_and]
    rintro _ ⟨_, ⟨o, -, rfl⟩, rfl⟩
    cases o <;> rfl
  have slots : (s.monitor.filters.toList.map fun f => [byteOf f.state.code]).map List.length = List.replicate 8 1 := by
    rw [List.eq_replicate_iff]
    simp only [List.length_map, Vector.length_toList, List.mem_map, true_and]
    rintro _ ⟨_, ⟨f, -, rfl⟩, rfl⟩
    rfl
  have ride : (statusFields .ride s.ports.ride.status).map List.length = [1, 1, 1] := statusFields_lengths (held .ride)
  have front : (statusFields .front s.ports.front.status).map List.length = [1, 2, 1] := statusFields_lengths (held .front)
  have rear : (statusFields .rear s.ports.rear.status).map List.length = [1, 2, 1] := statusFields_lengths (held .rear)
  have pack : (statusFields .pack s.ports.pack.status).map List.length = [1, 2, 2, 1] := statusFields_lengths (held .pack)
  simp only [monitorFields, List.map_append, samples, slots, ride, front, rear, pack]
  rfl

/-- The MONITOR reply is whole from 43 bytes on, and below that is cut within no two-byte field (R72, R162). -/
theorem monitorReply_length {s : State} (h : StatusFormsHold s) {m : Nat} (low : 32 ≤ m) :
    (43 ≤ m → cutFields m (monitorFields s) = (monitorFields s).flatten) ∧
      (m < 43 → (cutFields m (monitorFields s)).length = if m = 35 ∨ m = 39 ∨ m = 41 then m - 1 else m) := by
  have length : (monitorFields s).flatten.length = 43 := by
    rw [List.length_flatten, monitorFields_lengths h]
    rfl
  refine ⟨fun large => cutFields_of_fits (by omega), fun small => ?_⟩
  rw [cutFields_eq_take, List.length_take, length, monitorFields_lengths h]
  interval_cases m <;> rfl

/-- The MONITOR reply's fields, group by group (R162). -/
theorem monitorFields_flatten (s : State) : (monitorFields s).flatten = List.flatten
    ([byteOf 4, byteOf ((List.finRange 7).foldr (fun c n => s.config.enable[c].toNat + 2 * n) 0)] ::
      (List.finRange 7).flatMap (fun c => sampleBytes s.monitor.latest[c]) ::
      (List.finRange 8).map (fun k => byteOf (s.filter k).state.code) ::
      [byteOf s.config.threshold.val, yesNoByte s.monitor.comparator] ::
      (statusFields .ride s.ports.ride.status).flatten :: (statusFields .front s.ports.front.status).flatten ::
      (statusFields .rear s.ports.rear.status).flatten :: [(statusFields .pack s.ports.pack.status).flatten]) := by
  have slots : (s.monitor.filters.toList.map fun f => [byteOf f.state.code]).flatten =
      (List.finRange 8).map fun k => byteOf (s.filter k).state.code := by
    rw [toList_eq_map_finRange, List.map_map, List.map_eq_flatMap]
    rfl
  have samples : (s.monitor.latest.toList.map sampleBytes).flatten =
      (List.finRange 7).flatMap fun c => sampleBytes s.monitor.latest[c] := by
    rw [toList_eq_map_finRange, List.map_map]
    rfl
  have enabled : bitsByte s.config.enable.toList =
      byteOf ((List.finRange 7).foldr (fun c n => s.config.enable[c].toNat + 2 * n) 0) := by
    rw [toList_eq_map_finRange, bitsByte, List.foldr_map]
  simp only [monitorFields, List.flatten_append, slots, samples, enabled, List.flatten_cons, List.flatten_nil,
    List.append_assoc, List.append_nil]
  rfl

/-! ### The OVERFLOW reply -/

theorem cellByte_bit (cells : Vector Bool 64) (c : Fin 64) :
    (cellByte cells (c.val / 8)).getLsbD (c.val % 8) = cells[c] := by
  have at_ : 8 * (c.val / 8) + c.val % 8 = c.val := Nat.div_add_mod _ _
  have inside : c.val % 8 < 8 := Nat.mod_lt _ (by decide)
  rw [cellByte, bitsByte_getLsbD _ inside, List.getD_eq_getElem?_getD, List.getElem?_take_of_lt inside, List.getElem?_drop, at_]
  simp

theorem overflowReply_bit (t : FaultTable) (c : Fin 64) :
    ((overflowReply t).getD (2 + c.val / 8) 0).getLsbD (c.val % 8) = t.overflow[c] := by
  have : c.val / 8 < 8 := by omega
  rw [← cellByte_bit t.overflow c, Nat.add_comm]
  simp [overflowReply, this]

/-! ### NOTICE -/

theorem levelStricter_eq_max (a b : Level) : levelStricter a b = max a b := by
  unfold levelStricter
  split
  · next h => exact (max_eq_right (show a ≤ b from Nat.le_of_lt h)).symm
  · next h => exact (max_eq_left (show b ≤ a from Nat.le_of_not_lt h)).symm

theorem FaultTable.mem_demands (t : FaultTable) (e : Fin 48) (d : Demand) :
    (e, d) ∈ t.demands ↔ t.entries[e].contributing = true ∧ t.entries[e].demand = some d := by
  simp [FaultTable.demands, List.mem_filterMap]

theorem FaultTable.anyCell_iff (t : FaultTable) : t.anyCell = true ↔ ∃ c : Fin 64, t.overflow[c] = true := by
  rw [FaultTable.anyCell, toList_eq_map_finRange]
  simp

/-- The highest of a start and of the levels of a list of demands. -/
theorem foldl_levelStricter (l : List (Fin 48 × Demand)) (start : Level) :
    let high := l.foldl (fun l d => levelStricter l d.2.level) start
    start ≤ high ∧ (∀ d ∈ l, d.2.level ≤ high) ∧ (high = start ∨ ∃ d ∈ l, high = d.2.level) := by
  induction l generalizing start with
  | nil => simp
  | cons d l ih =>
    obtain ⟨above, all, attained⟩ := ih (levelStricter start d.2.level)
    have step := levelStricter_eq_max start d.2.level
    rw [List.foldl_cons]
    refine ⟨(step.ge.trans' (le_max_left _ _)).trans above, fun x hx => ?_, ?_⟩
    · obtain rfl | hx := List.mem_cons.1 hx
      · exact (step.ge.trans' (le_max_right _ _)).trans above
      · exact all x hx
    · obtain same | ⟨x, hx, same⟩ := attained
      · obtain h | h := max_choice start d.2.level
        · exact .inl (same.trans (step.trans h))
        · exact .inr ⟨d, List.mem_cons_self, same.trans (step.trans h)⟩
      · exact .inr ⟨x, List.mem_cons_of_mem _ hx, same⟩

/-- The highest demanded level: at least every contributing demand's and the overflow demand's, and one of them or 0 (R77). -/
theorem highestDemanded_spec (overflowLevel : Level) (t : FaultTable) :
    let high := highestDemanded overflowLevel t
    (∀ (e : Fin 48) d, t.entries[e].contributing = true → t.entries[e].demand = some d → d.level ≤ high) ∧
      ((∃ c : Fin 64, t.overflow[c] = true) → overflowLevel ≤ high) ∧
      (high = 0 ∨ ((∃ c : Fin 64, t.overflow[c] = true) ∧ high = overflowLevel) ∨
        ∃ (e : Fin 48) (d : Demand), t.entries[e].contributing = true ∧ t.entries[e].demand = some d ∧ high = d.level) := by
  obtain ⟨above, all, attained⟩ := foldl_levelStricter t.demands (if t.anyCell then overflowLevel else 0)
  refine ⟨fun e d contributing demand => all (e, d) ((t.mem_demands e d).2 ⟨contributing, demand⟩), 
    fun any => (if_pos (t.anyCell_iff.2 any)).ge.trans above, ?_⟩
  · obtain same | ⟨⟨e, d⟩, mem, same⟩ := attained
    · by_cases any : t.anyCell = true
      · exact .inr (.inl ⟨t.anyCell_iff.1 any, same.trans (if_pos any)⟩)
      · exact .inl (same.trans (if_neg any))
    · obtain ⟨contributing, demand⟩ := (t.mem_demands e d).1 mem
      exact .inr (.inr ⟨e, d, contributing, demand, same⟩)

theorem countIn_eq (x : EntryState) (t : FaultTable) :
    countIn x t = (List.finRange 48).countP fun e => t.entries[e].state == x :=
  countAt_eq_countP _ _

theorem FaultTable.cellCount_eq (t : FaultTable) : t.cellCount = (List.finRange 64).countP fun c => t.overflow[c] :=
  countAt_eq_countP _ _

/-! ### The statement -/

theorem demandFields_flatten (o : Option Demand) : (demandFields o).flatten =
    match o with
    | none => [0xFF, 0, 0, 0, 0, 0]
    | some d => [byteOf d.level.val, byteOf (axleActionCode d.action), byteOf (axleFieldCode d.axles),
        yesNoByte d.regenInhibit, byteOf d.packCeiling, byteOf (packActionCode d.packAction)] := by
  cases o <;> rfl

theorem episodeEndCode_eq (o : Option EpisodeEnd) : byteOf (episodeEndCode o) =
    match o with
    | none => 0
    | some .dismissed => 1
    | some .healed => 2
    | some .cleared => 3 := by
  rcases o with _ | (_ | _ | _) <;> rfl

theorem ScanState.code_eq (x : ScanState) : byteOf x.code =
    match x with
    | .unused => 0
    | .idle => 1
    | .clear => 2
    | .asserted => 3 := by
  cases x <;> rfl

theorem Topology.number_eq (x : Topology) : byteOf x.number =
    match x with
    | .rearOnly => 0
    | .frontOnly => 1
    | .dual => 2
    | .dualUnsupervised => 3 := by
  cases x <;> rfl

theorem CheckResult.code_eq (x : CheckResult) : byteOf x.code =
    match x with
    | .none => 0
    | .failed n => byteOf n
    | .passed => 8 := by
  cases x <;> rfl

theorem RunEntry.code_eq (x : RunEntry) : byteOf x.code =
    match x with
    | .notYet => 0
    | .commit => 1
    | .expiryPassed => 2
    | .expiryDefaults => 3 := by
  cases x <;> rfl

/-- A station's STATUS in the MONITOR reply, zero when none is held (R162). -/
theorem statusFields_flatten (p : Station) (o : Option StatusRec) : (statusFields p o).flatten =
    match o with
    | some (.ride throttle brake) => [1, byteOf throttle, yesNoByte brake]
    | some (.inverter speed temperature) => 1 :: bytes16 speed ++ [temperature]
    | some (.pack voltage current charge) => 1 :: bytes16 voltage ++ bytes16 current.toNat ++ [byteOf charge]
    | none => List.replicate (statusFields p none).flatten.length 0 := by
  cases o with
  | none => cases p <;> rfl
  | some x => cases x <;> rfl

theorem sourceSetCode_presentSet (t : Topology) : sourceSetCode (presentSet t) =
    (if t.present .ride then 1 else 0) + (if t.present .front then 2 else 0) + (if t.present .rear then 4 else 0) +
      (if t.present .pack then 8 else 0) := by
  cases t <;> rfl

/-- The verdict codes are the places of the verdicts in the list of 2.7. -/
theorem Verdict.code_eq (v : Verdict) : v.code =
    [Verdict.taken, .takenNoBuffer, .queueFull, .malformed, .unknownZone, .unknownClass, .notPermitted, .wrongState,
      .notParked, .stillPresent, .notFound, .notLatched, .snapshotDropped, .inconsistent].idxOf v := by
  cases v <;> rfl

/-- Settles O48: each reply by the lemmas on its fields, and the payloads of ENVELOPE, RECEIPT and NOTICE by their codes. -/
theorem repliesHoldTheirFields : Obligations.RepliesHoldTheirFields := by
  unfold Obligations.RepliesHoldTheirFields
  intro yes index four two sources axle six
  have hyes : yesNoByte = yes := funext yesNoByte_eq
  have hfour : bytes32 = four := funext bytes32_eq
  have htwo : bytes16 = two := rfl
  have hindex {n : Nat} (o : Option (Fin n)) : byteOf (indexCode o) = index (o.map Fin.val) := by cases o <;> rfl
  have haxle (a : AxleState) : byteOf a.code = axle a := by cases a <;> rfl
  have hsix : limitsBytes = six := by
    funext l
    simp only [limitsBytes, haxle, hyes, six]
  refine ⟨fun s p m hm large => ⟨fun first count low high => ?_, fun i => ?_, fun b offset => ?_, ?_, fun forms => ?_, ?_,
    fun state => ?_⟩, fun e => ?_, fun r => ?_, fun overflowLevel f => ?_⟩
  · have room : s.replyBytes p (.table first count) = tableReply m first count s.faults := by
      rw [State.replyBytes, State.roomOf_eq hm]
    rw [room]
    refine ⟨tableReply_length m first count s.faults, rfl, fun e below above => ?_⟩
    rw [tableReply_summary m count s.faults below above, summaryBytes, hindex]
    rfl
  · rw [State.replyBytes, State.roomOf_eq hm, entryReply_eq large, entryFields_flatten, demandFields_flatten,
      episodeEndCode_eq, hyes, hfour, htwo, hindex, hindex]
    rfl
  · rw [State.replyBytes, State.roomOf_eq hm, snapshotReply, hyes]
    cases (s.buffer b).owner <;> rfl
  · rw [State.replyBytes, State.roomOf_eq hm, envelopeReply_eq large, hfour, hsix]
    cases s.ladder.relax <;> rfl
  · intro held groups
    have hheld (q : Station) (o : Option StatusRec) (n : Nat) (hn : n = (statusFields q none).flatten.length) :
        (statusFields q o).flatten = held o n := by
      rw [statusFields_flatten, hyes, htwo, hn] <;> rfl
    have flat : (monitorFields s).flatten = groups.flatten := by
      rw [monitorFields_flatten, hheld .ride _ 3 rfl, hheld .front _ 4 rfl, hheld .rear _ 4 rfl, hheld .pack _ 6 rfl, hyes]
      simp only [ScanState.code_eq]
      rfl
    obtain ⟨whole, cut⟩ := monitorReply_length forms large
    rw [State.replyBytes, State.roomOf_eq hm, ← flat]
    exact ⟨whole, cutFields_prefix m _, cut⟩
  · refine ⟨rfl, ?_, overflowReply_bit s.faults⟩
    rw [← FaultTable.cellCount_eq]
    rfl
  · have code : byteOf s.device.state.code = if s.device.state = .configure then 1 else 2 := by
      obtain h | h := state <;> rw [h] <;> rfl
    rw [State.replyBytes, identReply, htwo, code, sourceSetCode_presentSet, Topology.number_eq, CheckResult.code_eq,
      RunEntry.code_eq]
    rfl
  · rw [envelopeBytes, hfour, hyes, hindex, haxle, haxle]
  · rw [receiptBytes, hyes]
    simp only [Verdict.code_eq]
    cases r.outcome <;> rfl
  · refine ⟨highestDemanded overflowLevel f, ?_, highestDemanded_spec overflowLevel f⟩
    rw [noticeBytes, hyes]
    simp only [countIn_eq, FaultTable.cellCount_eq]

end Sys2Proof.Machine
end

section
/-!
PROOFS. The snapshot pool: buffers agree with the assemblies that write into them (`SnapshotsFit`), whatever becomes of either.
-/
namespace Sys2Proof.Machine

open Sys2Proof

/-! ### Buffers and the assemblies that write into them -/

/-- A condition on the buffers and the long slots only. -/
theorem SnapshotsFit.of_eq {s t : State} (hp : t.pool = s.pool) (hs : t.intake.slots = s.intake.slots) (h : SnapshotsFit s) :
    SnapshotsFit t := by
  unfold SnapshotsFit State.buffer State.slot
  rw [hp, hs]
  exact h

/-- A buffer that a port's assembly does not name has another writer, or none (R44). -/
theorem SnapshotsFit.not_writer {s : State} (h : SnapshotsFit s) {p : Station}
    (unnamed : ∀ a, (s.slot p).assembly = some a → a.buffer = none) (b : Fin 8) : (s.buffer b).writer ≠ some p := by
  obtain ⟨-, -, -, named⟩ := h
  intro hw
  obtain ⟨a, ha, hb⟩ := named b p hw
  rw [unnamed a ha] at hb
  cases hb

/-- Where buffers become FREE, a port's assembly wrote into one of them and goes on without it, or its slot is as before. -/
theorem BuffersFreed.slot_cases {freed : Fin 8 → Prop} {s t : State} (f : BuffersFreed freed s t) (h : SnapshotsFit s)
    (p : Station) :
    (∃ b a, freed b ∧ (s.slot p).assembly = some a ∧ a.buffer = some b ∧
      t.slot p = ⟨some { a with buffer := none }, (s.slot p).outcome⟩) ∨
      ((∀ b, freed b → (s.buffer b).writer ≠ some p) ∧ t.slot p = s.slot p) := by
  obtain ⟨-, -, -, named⟩ := h
  by_cases hw : ∀ b, freed b → (s.buffer b).writer ≠ some p
  · exact .inr ⟨hw, f.slots p hw⟩
  · push Not at hw
    obtain ⟨b, hf, hb⟩ := hw
    obtain ⟨a, ha, hab⟩ := named b p hb
    exact .inl ⟨b, a, hf, ha, hab, f.detached b p a hf hb ha hab⟩

/-- Buffers become FREE (R43): the assemblies that wrote into them go on without a buffer. -/
theorem SnapshotsFit.freed {freed : Fin 8 → Prop} {s t : State} (f : BuffersFreed freed s t) (h : SnapshotsFit s) :
    SnapshotsFit t := by
  obtain ⟨long, free, fits, named⟩ := id h
  refine ⟨fun b => ?_, fun b hb => ?_, fun p a ha => ?_, fun b p hb => ?_⟩
  · by_cases hf : freed b
    · simp [f.free b hf]
    · rw [f.spared b hf]
      exact long b
  · by_cases hf : freed b
    · simp [f.free b hf]
    · rw [f.spared b hf] at hb ⊢
      exact free b hb
  · obtain ⟨b, a', hf, ha', hab, hslot⟩ | ⟨hw, hslot⟩ := f.slot_cases h p
    · rw [hslot] at ha
      cases ha
      obtain ⟨low, high, -⟩ := fits p a' ha'
      exact ⟨low, high, fun c hc => by cases hc⟩
    · rw [hslot] at ha
      obtain ⟨low, high, agree⟩ := fits p a ha
      refine ⟨low, high, fun c hc => ?_⟩
      have hf : ¬ freed c := fun hf => hw c hf (agree c hc).1
      rw [f.spared c hf]
      exact agree c hc
  · have hf : ¬ freed b := fun hf => by simp [f.free b hf] at hb
    rw [f.spared b hf] at hb
    obtain ⟨a, ha, hab⟩ := named b p hb
    obtain ⟨c, a', hc, ha', hac, -⟩ | ⟨-, hslot⟩ := f.slot_cases h p
    · rw [ha] at ha'
      cases ha'
      rw [hab] at hac
      cases hac
      exact absurd hc hf
    · exact ⟨a, by rw [hslot, ha], hab⟩

/-- A port's slot changes while no buffer is written by it: its assembly has none (R44, R48). -/
theorem SnapshotsFit.setSlot {s : State} {p : Station} {x : LongSlot} (h : SnapshotsFit s)
    (unwritten : ∀ b, (s.buffer b).writer ≠ some p)
    (new : ∀ a, x.assembly = some a → a.received ≤ a.expected ∧ a.expected ≤ 240 ∧ a.buffer = none) :
    SnapshotsFit (s.setSlot p x) := by
  obtain ⟨long, free, fits, named⟩ := h
  refine ⟨long, free, fun q a ha => ?_, fun b q hb => ?_⟩
  · by_cases hq : q = p
    · subst hq
      rw [State.slot_setSlot] at ha
      obtain ⟨low, high, none⟩ := new a ha
      exact ⟨low, high, fun b hb => by simp [none] at hb⟩
    · rw [State.slot_setSlot_ne _ _ hq] at ha
      exact fits q a ha
  · have hq : q ≠ p := fun e => unwritten b (e ▸ hb)
    rw [State.slot_setSlot_ne _ _ hq]
    exact named b q hb

/-- A buffer and the slot of the one port that may write into it change together (R39, R45, R46). -/
theorem SnapshotsFit.setBuffer_setSlot {s : State} {b : Fin 8} {y : Buffer} {p : Station} {x : LongSlot}
    (h : SnapshotsFit s) (alone : ∀ q, (s.buffer b).writer = some q → q = p)
    (only : ∀ c, (s.buffer c).writer = some p → c = b) (wf : y.wf)
    (new : ∀ a, x.assembly = some a → a.received ≤ a.expected ∧ a.expected ≤ 240 ∧ a.buffer = some b ∧
      y.writer = some p ∧ y.data.length = a.received)
    (writer : ∀ q, y.writer = some q → q = p ∧ x.assembly.isSome = true) :
    SnapshotsFit ((s.setBuffer b y).setSlot p x) := by
  obtain ⟨long, free, fits, named⟩ := h
  have buffer (c : Fin 8) (hc : c ≠ b) : ((s.setBuffer b y).setSlot p x).buffer c = s.buffer c :=
    State.buffer_setBuffer_ne s y hc
  have here : ((s.setBuffer b y).setSlot p x).buffer b = y := State.buffer_setBuffer s b y
  refine ⟨fun c => ?_, fun c hc => ?_, fun q a ha => ?_, fun c q hc => ?_⟩
  · by_cases e : c = b
    · rw [e, here]
      exact wf.1
    · rw [buffer c e]
      exact long c
  · by_cases e : c = b
    · rw [e, here] at hc ⊢
      exact wf.2 hc
    · rw [buffer c e] at hc ⊢
      exact free c hc
  · by_cases e : q = p
    · subst e
      rw [State.slot_setSlot] at ha
      obtain ⟨low, high, hb, hw, hl⟩ := new a ha
      refine ⟨low, high, fun c hc => ?_⟩
      cases hb.symm.trans hc
      rw [here]
      exact ⟨hw, hl⟩
    · rw [State.slot_setSlot_ne _ _ e] at ha
      obtain ⟨low, high, agree⟩ := fits q a ha
      refine ⟨low, high, fun c hc => ?_⟩
      have hcb : c ≠ b := by
        rintro rfl
        exact e (alone q (agree c hc).1)
      rw [buffer c hcb]
      exact agree c hc
  · by_cases e : c = b
    · rw [e, here] at hc
      obtain ⟨rfl, some⟩ := writer q hc
      obtain ⟨a, ha⟩ := Option.isSome_iff_exists.1 some
      rw [State.slot_setSlot, e]
      exact ⟨a, ha, (new a ha).2.2.1⟩
    · rw [buffer c e] at hc
      have hq : q ≠ p := fun hq => e (only c (hq ▸ hc))
      rw [State.slot_setSlot_ne _ _ hq]
      exact named c q hc

/-- A buffer takes another owner, who is not FREE, and keeps its writer and its data (R49). -/
theorem SnapshotsFit.setOwner {s : State} (h : SnapshotsFit s) (b : Fin 8) {o : BufferOwner} (used : o ≠ .free) :
    SnapshotsFit (s.setBuffer b { s.buffer b with owner := o }) := by
  obtain ⟨long, free, fits, named⟩ := h
  have same (c : Fin 8) : ((s.setBuffer b { s.buffer b with owner := o }).buffer c).writer = (s.buffer c).writer ∧
      ((s.setBuffer b { s.buffer b with owner := o }).buffer c).data = (s.buffer c).data := by
    by_cases e : c = b
    · subst e
      simp
    · rw [State.buffer_setBuffer_ne _ _ e]
      exact ⟨rfl, rfl⟩
  refine ⟨fun c => ?_, fun c hc => ?_, fun p a ha => ?_, fun c p hc => ?_⟩
  · rw [(same c).2]
    exact long c
  · by_cases e : c = b
    · subst e
      rw [State.buffer_setBuffer] at hc
      exact absurd hc used
    · rw [State.buffer_setBuffer_ne _ _ e] at hc ⊢
      exact free c hc
  · obtain ⟨low, high, agree⟩ := fits p a ha
    refine ⟨low, high, fun c hc => ?_⟩
    rw [(same c).1, (same c).2]
    exact agree c hc
  · rw [(same c).1] at hc
    exact named c p hc

/-- An open assembly ends by truncation: no buffer is left that its port writes into (R43, R47, R48). -/
theorem SnapshotsFit.truncate {s : State} (h : SnapshotsFit s) (p : Station) : SnapshotsFit (s.truncate p) := by
  unfold State.truncate
  split
  · exact h
  · next a ha =>
    split
    · next unnamed =>
      refine h.setSlot (h.not_writer fun x hx => ?_) (by simp)
      cases ha.symm.trans hx
      exact unnamed
    · next b hb =>
      have dropped : SnapshotsFit (s.dropOwner b) := h.of_eq (by simp) (by simp)
      have ha' : ((s.dropOwner b).slot p).assembly = some a := by simpa [State.slot] using ha
      obtain ⟨-, -, fits, -⟩ := id dropped
      have freed := State.freeBuffer_freed b (s.dropOwner b)
      have slot := freed.detached b p a rfl (((fits p a ha').2.2 b hb).1) ha' hb
      refine (dropped.freed freed).setSlot ((dropped.freed freed).not_writer fun x hx => ?_) (by simp)
      rw [slot] at hx
      cases hx
      rfl

end Sys2Proof.Machine
end

section
/-!
PROOFS. Buffers and their owners: the two halves of `BuffersOwned`, what the entries name (`SnapshotsNamed`) and what the reports
are bound to (`ReportsBound`), and how each is kept.
-/
namespace Sys2Proof.Machine

open Sys2Proof

/-! ### Buffers and their owners -/

/-- How many reports are bound to a buffer of this owner: one to a PENDING buffer, and none to any other (R42, R49). -/
def BufferOwner.reports : BufferOwner → Nat
  | .pending _ => 1
  | .free | .entry _ => 0

theorem BufferOwner.reports_pos {o : BufferOwner} (h : 0 < o.reports) : ∃ p, o = .pending p := by
  cases o with
  | pending p => exact ⟨p, rfl⟩
  | free | entry => cases h

/-- How many reports, queued or in application, are bound to buffer `b`. -/
def State.bound (s : State) (b : Fin 8) : Nat :=
  s.reports.countP fun r => r.buffer == some b

/-- An entry's snapshot is the buffer that the entry owns, and a FREE entry has none (R49, R59). -/
def SnapshotsNamed (s : State) : Prop :=
  (∀ e b, (s.entry e).snapshot = some b ↔ (s.buffer b).owner = .entry e) ∧
    ∀ e, (s.entry e).state = .free → (s.entry e).snapshot = none

/-- Each buffer has the reports that its owner asks for, a report bound to `out` being outside the queues and not in application:
one that is about to be queued, or about to be dealt with. -/
def ReportsBound (out : Option (Fin 8)) (s : State) : Prop :=
  ∀ b, s.bound b + (if out = some b then 1 else 0) = (s.buffer b).owner.reports

theorem buffersOwned_iff (s : State) : BuffersOwned s ↔ SnapshotsNamed s ∧ ReportsBound none s := by
  unfold BuffersOwned SnapshotsNamed ReportsBound State.bound
  rw [and_assoc]
  refine and_congr_right' (and_congr_right' (forall_congr' fun b => ?_))
  cases (s.buffer b).owner <;> rfl

/-! ### Owners and entries -/

theorem State.buffer_setBuffer_eq (s : State) (b c : Fin 8) (x : Buffer) :
    (s.setBuffer b x).buffer c = if c = b then x else s.buffer c := by
  split
  · next h => rw [h, State.buffer_setBuffer]
  · next h => exact State.buffer_setBuffer_ne s x h

theorem State.entry_setEntry_eq (s : State) (e i : Fin 48) (x : Entry) :
    (s.setEntry e x).entry i = if i = e then x else s.entry i := by
  split
  · next h => rw [h, State.entry_setEntry]
  · next h => exact State.entry_setEntry_ne s x h

theorem State.freeBuffer_owner (b c : Fin 8) (s : State) :
    ((s.freeBuffer b).buffer c).owner = if c = b then .free else (s.buffer c).owner := by
  have f := State.freeBuffer_freed b s
  split
  · next h => rw [f.free c h]
  · next h => rw [f.spared c h]

/-- An operation that changes no owner and no snapshot, and frees no entry that has one. -/
theorem SnapshotsNamed.of_same {s t : State} (h : SnapshotsNamed s) (ho : ∀ b, (t.buffer b).owner = (s.buffer b).owner)
    (hn : ∀ e, (t.entry e).snapshot = (s.entry e).snapshot)
    (hf : ∀ e, (t.entry e).state = .free → (s.entry e).snapshot = none) : SnapshotsNamed t := by
  obtain ⟨named, -⟩ := h
  refine ⟨fun e b => ?_, fun e he => ?_⟩
  · rw [hn, ho]
    exact named e b
  · rw [hn]
    exact hf e he

theorem SnapshotsNamed.of_eq {s t : State} (h : SnapshotsNamed s) (hp : t.pool = s.pool)
    (he : t.faults.entries = s.faults.entries) : SnapshotsNamed t := by
  have entry (e : Fin 48) : t.entry e = s.entry e := by simp only [State.entry, he]
  exact h.of_same (fun b => by rw [State.buffer_congr hp]) (fun e => by rw [entry]) fun e hf => h.2 e (by rwa [entry] at hf)

/-- A buffer passes from one owner to another, neither of them an entry. -/
theorem SnapshotsNamed.setOwner {s t : State} (h : SnapshotsNamed s) {b : Fin 8} {o : BufferOwner}
    (ho : ∀ c, (t.buffer c).owner = if c = b then o else (s.buffer c).owner)
    (he : t.faults.entries = s.faults.entries) (old : ∀ e, (s.buffer b).owner ≠ .entry e) (new : ∀ e, o ≠ .entry e) :
    SnapshotsNamed t := by
  obtain ⟨named, free⟩ := h
  have entry (e : Fin 48) : t.entry e = s.entry e := by simp only [State.entry, he]
  refine ⟨fun e c => ?_, fun e hf => ?_⟩
  · rw [entry, ho, named]
    split
    · next h =>
      rw [h]
      exact iff_of_false (old e) (new e)
    · rfl
  · rw [entry] at hf ⊢
    exact free e hf

/-- An entry changes and keeps its snapshot. -/
theorem SnapshotsNamed.setEntry {s : State} (h : SnapshotsNamed s) {e : Fin 48} {x : Entry}
    (same : x.snapshot = (s.entry e).snapshot) (used : x.state = .free → (s.entry e).snapshot = none) :
    SnapshotsNamed (s.setEntry e x) := by
  refine h.of_same (fun _ => rfl) (fun i => ?_) fun i => ?_
  · rw [State.entry_setEntry_eq]
    split
    · next hi => rw [hi, same]
    · rfl
  · rw [State.entry_setEntry_eq]
    split
    · next hi => exact hi ▸ used
    · exact h.2 i

/-- An entry loses its snapshot, and the buffer becomes FREE (R47, R59). -/
theorem SnapshotsNamed.release {s t : State} (h : SnapshotsNamed s) {e : Fin 48} {x : Entry} {b : Fin 8}
    (held : (s.entry e).snapshot = some b) (lost : x.snapshot = none)
    (ho : ∀ c, (t.buffer c).owner = if c = b then .free else (s.buffer c).owner)
    (he : ∀ i, t.entry i = if i = e then x else s.entry i) : SnapshotsNamed t := by
  obtain ⟨named, free⟩ := h
  have owner := (named e b).1 held
  refine ⟨fun i c => ?_, fun i hi => ?_⟩
  · rw [he, ho]
    by_cases hi : i = e <;> by_cases hc : c = b
    · simp [hi, hc, lost]
    · rw [if_pos hi, if_neg hc, lost, hi, ← named, held]
      exact iff_of_false (by simp) fun h => hc (Option.some.inj h).symm
    · rw [if_neg hi, if_pos hc, hc, named, owner]
      exact iff_of_false (fun h => hi (BufferOwner.entry.inj h).symm) (by simp)
    · rw [if_neg hi, if_neg hc]
      exact named i c
  · rw [he] at hi ⊢
    split at hi
    · next hie => simp [hie, lost]
    · next hie =>
      rw [if_neg hie]
      exact free i hi

/-- A buffer that no entry owns becomes the snapshot of an entry that has none (R49). -/
theorem SnapshotsNamed.bindBuffer {s : State} (h : SnapshotsNamed s) {b : Fin 8} {e : Fin 48}
    (unowned : ∀ i, (s.buffer b).owner ≠ .entry i) (empty : (s.entry e).snapshot = none) (used : (s.entry e).state ≠ .free) :
    SnapshotsNamed (s.bindBuffer b e) := by
  obtain ⟨named, free⟩ := h
  have entry (i : Fin 48) : (s.bindBuffer b e).entry i =
      if i = e then { s.entry e with snapshot := some b } else s.entry i := State.entry_setEntry_eq ..
  have buffer (c : Fin 8) : (s.bindBuffer b e).buffer c =
      if c = b then { s.buffer b with owner := .entry e } else s.buffer c := State.buffer_setBuffer_eq ..
  refine ⟨fun i c => ?_, fun i hi => ?_⟩
  · rw [entry, buffer]
    by_cases hi : i = e <;> by_cases hc : c = b
    · simp [hi, hc]
    · rw [if_pos hi, if_neg hc, hi]
      refine iff_of_false (fun h => hc (Option.some.inj h).symm) fun h => ?_
      rw [(named e c).2 h] at empty
      cases empty
    · rw [if_neg hi, if_pos hc, hc]
      exact iff_of_false (fun h => unowned i ((named i b).1 h)) fun h => hi (BufferOwner.entry.inj h).symm
    · rw [if_neg hi, if_neg hc]
      exact named i c
  · rw [entry] at hi ⊢
    split at hi
    · exact absurd hi used
    · next hie =>
      rw [if_neg hie]
      exact free i hi

/-! ### Reports and the buffers bound to them -/

theorem State.bound_congr {s t : State} (hq : t.intake.queues = s.intake.queues)
    (ha : t.faults.applying = s.faults.applying) (b : Fin 8) : t.bound b = s.bound b := by
  unfold State.bound State.reports State.queue
  rw [hq, ha]

theorem State.bound_setQueue (s : State) (q : Source) (l : List QReport) (b : Fin 8) :
    (s.setQueue q l).bound b + (s.queue q).countP (fun r => r.buffer == some b) =
      s.bound b + l.countP fun r => r.buffer == some b := by
  unfold State.bound State.reports
  simp only [State.queue, State.setQueue, PerSource.get_put, List.countP_append]
  cases q <;> simp <;> omega

/-- A report that joins a queue is bound to the buffer that it names (R40). -/
theorem State.bound_enqueue (r : QReport) (s : State) (b : Fin 8) :
    (s.enqueue r).bound b = s.bound b + if r.buffer = some b then 1 else 0 := by
  have h := s.bound_setQueue r.source (s.queue r.source ++ [r]) b
  simp only [List.countP_append, List.countP_singleton, beq_iff_eq] at h
  unfold State.enqueue
  omega

theorem countP_unbindReport (b c : Fin 8) (l : List QReport) :
    (l.map (State.unbindReport b)).countP (fun r => r.buffer == some c) =
      if c = b then 0 else l.countP fun r => r.buffer == some c := by
  induction l with
  | nil => simp
  | cons r l ih =>
    rw [List.map_cons, List.countP_cons, List.countP_cons, ih]
    unfold State.unbindReport
    by_cases hc : c = b
    · by_cases hr : r.buffer = some b <;> simp [hc, hr]
    · by_cases hr : r.buffer = some b
      · simp [hc, hr, Ne.symm hc]
      · simp [hc, hr]

/-- No report stays bound to a truncated buffer (R47). -/
theorem State.bound_unbind (b c : Fin 8) (s : State) : (s.unbind b).bound c = if c = b then 0 else s.bound c := by
  have reports : (s.unbind b).reports = s.reports.map (State.unbindReport b) := by
    simp [State.reports, State.queue, State.unbind]
    cases s.faults.applying <;> rfl
  unfold State.bound
  rw [reports, countP_unbindReport]

/-- The report in application is taken out (R60). -/
theorem State.bound_applying {s : State} {r : QReport} (h : s.faults.applying = some r) (b : Fin 8) :
    ({ s with faults := { s.faults with applying := none } } : State).bound b + (if r.buffer = some b then 1 else 0) =
      s.bound b := by
  unfold State.bound State.reports State.queue
  simp only [h, List.countP_append, Option.toList, List.countP_singleton, List.countP_nil, beq_iff_eq]
  omega

/-- The head of a queue is handed to a table that has no report in application (R56). -/
theorem State.bound_handHead (q : Source) {s : State} (h : s.faults.applying = none) (b : Fin 8) :
    (s.handHead q).bound b = s.bound b := by
  unfold State.handHead
  split
  · rfl
  · next r rest hr =>
    have moved := s.bound_setQueue q rest b
    rw [hr, List.countP_cons] at moved
    have applying : (s.setQueue q rest).faults.applying = none := h
    unfold State.bound State.reports at moved ⊢
    simp only [List.countP_append, applying, Option.toList, List.countP_nil] at moved
    simp only [List.countP_append, Option.toList, List.countP_singleton]
    simp only [State.queue] at moved ⊢
    omega

theorem ReportsBound.of_same {out : Option (Fin 8)} {s t : State} (h : ReportsBound out s)
    (ho : ∀ b, (t.buffer b).owner.reports = (s.buffer b).owner.reports)
    (hq : t.intake.queues = s.intake.queues) (ha : t.faults.applying = s.faults.applying) : ReportsBound out t := by
  intro b
  rw [State.bound_congr hq ha, ho]
  exact h b

end Sys2Proof.Machine
end

section
/-!
PROOFS. What an operation makes of the pool (`PoolMoves`): how buffers and entries become FREE, and how an assembly is truncated.
-/
namespace Sys2Proof.Machine

open Sys2Proof

theorem firstAt_some {α : Type} {n : Nat} {f : α → Bool} {v : Vector α n} {i : Fin n} (h : firstAt f v = some i) :
    f v[i] = true :=
  List.find?_some (p := fun i : Fin n => f v[i]) h

/-! ### Freeing a buffer -/

theorem ReportsBound.freeBuffer {out : Option (Fin 8)} {s : State} (h : ReportsBound out s) {b : Fin 8}
    (unbound : (s.buffer b).owner.reports = 0) : ReportsBound out (s.freeBuffer b) := by
  refine h.of_same (fun c => ?_) (by simp) (by simp)
  rw [State.freeBuffer_owner]
  split
  · next hc => rw [hc, unbound]; rfl
  · rfl

/-- The one report bound to a buffer is outside: the buffer is PENDING, and no other report is bound to it. -/
theorem ReportsBound.outside {s : State} {b : Fin 8} (h : ReportsBound (some b) s) :
    s.bound b = 0 ∧ ∃ p, (s.buffer b).owner = .pending p := by
  have count := h b
  rw [if_pos rfl] at count
  obtain ⟨p, hp⟩ := BufferOwner.reports_pos (o := (s.buffer b).owner) (by omega)
  rw [hp] at count
  exact ⟨Nat.succ.inj count, p, hp⟩

/-- A buffer whose one report is outside changes its owner, and is bound to none. -/
theorem ReportsBound.dealt {s t : State} {b : Fin 8} {o : BufferOwner} (h : ReportsBound (some b) s)
    (ho : ∀ c, (t.buffer c).owner = if c = b then o else (s.buffer c).owner) (new : o.reports = 0)
    (hq : t.intake.queues = s.intake.queues) (ha : t.faults.applying = s.faults.applying) : ReportsBound none t := by
  intro c
  rw [State.bound_congr hq ha, ho]
  by_cases hc : c = b
  · rw [if_pos hc, hc, new, h.outside.1]
    rfl
  · have := h c
    rw [if_neg (fun e => hc (Option.some.inj e).symm)] at this
    rw [if_neg hc, ← this]
    rfl

/-- A truncated PENDING buffer's report loses it (R47): from then on it is as if the report were outside. -/
theorem ReportsBound.unbind {s : State} {b : Fin 8} {p : Station} (h : ReportsBound none s)
    (pending : (s.buffer b).owner = .pending p) : ReportsBound (some b) (s.unbind b) := by
  intro c
  have buffer : (s.unbind b).buffer c = s.buffer c := rfl
  rw [State.bound_unbind, buffer]
  by_cases hc : c = b
  · rw [if_pos hc, hc, pending]
    simp [BufferOwner.reports]
  · have := h c
    rw [if_neg hc, if_neg (fun e => hc (Option.some.inj e).symm), ← this]
    rfl

/-! ### What an operation keeps -/

/-- `t` has come from `s` by an operation that keeps the pool: before it a report bound to `before` was outside the queues and not
in application, and after it one bound to `after` is. -/
structure PoolMoves (before after : Option (Fin 8)) (s t : State) : Prop where
  fit : SnapshotsFit s → SnapshotsFit t
  owned : SnapshotsNamed s → ReportsBound before s → SnapshotsNamed t ∧ ReportsBound after t

/-- `t` has come from `s` by an operation that keeps the pool and the reports. -/
abbrev PoolKept (s t : State) : Prop := PoolMoves none none s t

namespace PoolMoves

variable {before between after out : Option (Fin 8)}

theorem refl (s : State) : PoolMoves out out s s := ⟨id, .intro⟩

theorem trans {s t u : State} (h : PoolMoves before between s t) (g : PoolMoves between after t u) :
    PoolMoves before after s u where
  fit := g.fit ∘ h.fit
  owned named bound := g.owned (h.owned named bound).1 (h.owned named bound).2

theorem ite {c : Prop} [Decidable c] {s a b : State} (ha : c → PoolMoves before after s a)
    (hb : ¬c → PoolMoves before after s b) : PoolMoves before after s (if c then a else b) := by
  split
  · exact ha ‹_›
  · exact hb ‹_›

theorem ite_fst {c : Prop} [Decidable c] {s : State} {a b : State × Verdict} (ha : c → PoolMoves before after s a.1)
    (hb : ¬c → PoolMoves before after s b.1) : PoolMoves before after s (if c then a else b).1 := by
  split
  · exact ha ‹_›
  · exact hb ‹_›

theorem foldl {α : Type} {g : State → α → State} (h : ∀ s a, PoolMoves out out s (g s a)) (l : List α) (s : State) :
    PoolMoves out out s (l.foldl g s) :=
  foldl_holds (PoolMoves out out s) (fun t a ht => ht.trans (h t a)) l s (refl s)

/-- An operation that leaves the buffers, the long slots and the reports alone, and keeps every entry's snapshot. -/
theorem of_entries {s t : State} (hn : ∀ e, (t.entry e).snapshot = (s.entry e).snapshot)
    (hf : ∀ e, (t.entry e).state = .free → (s.entry e).state = .free) (hp : t.pool = s.pool := by simp)
    (hs : t.intake.slots = s.intake.slots := by simp) (hq : t.intake.queues = s.intake.queues := by simp)
    (ha : t.faults.applying = s.faults.applying := by simp) : PoolMoves out out s t where
  fit := .of_eq hp hs
  owned named bound := ⟨named.of_same (fun b => by rw [State.buffer_congr hp]) hn fun e he => named.2 e (hf e he),
    bound.of_same (fun b => by rw [State.buffer_congr hp]) hq ha⟩

/-- An operation whose frame holds the buffers, the long slots, the reports and the entries. -/
theorem of_frame {s t : State} (hp : t.pool = s.pool := by simp) (hs : t.intake.slots = s.intake.slots := by simp)
    (hq : t.intake.queues = s.intake.queues := by simp) (ha : t.faults.applying = s.faults.applying := by simp)
    (he : t.faults.entries = s.faults.entries := by simp) : PoolMoves out out s t :=
  have entry (e : Fin 48) : t.entry e = s.entry e := by simp only [State.entry, he]
  of_entries (fun e => by rw [entry]) (fun e => by rw [entry]; exact id) hp hs hq ha

theorem modPort (s : State) (p : Station) (f : Port → Port) : PoolMoves out out s (s.modPort p f) := of_frame

/-- An entry changes and keeps its snapshot. -/
theorem setEntry (s : State) {e : Fin 48} {x : Entry} (same : x.snapshot = (s.entry e).snapshot)
    (used : x.state = .free → (s.entry e).state = .free) : PoolMoves out out s (s.setEntry e x) := by
  refine of_entries (fun i => ?_) fun i => ?_
  · rw [State.entry_setEntry_eq]
    split
    · next hi => rw [hi, same]
    · rfl
  · rw [State.entry_setEntry_eq]
    split
    · next hi => exact hi ▸ used
    · exact id

/-! ### Freeing buffers and entries -/

/-- The buffer of a report that is outside becomes FREE (R43, R49). -/
theorem freeBound (b : Fin 8) (s : State) : PoolMoves (some b) none s (s.freeBuffer b) where
  fit := .freed (State.freeBuffer_freed b s)
  owned named bound := by
    obtain ⟨-, p, pending⟩ := bound.outside
    have owner := State.freeBuffer_owner b (s := s)
    exact ⟨named.setOwner owner (by simp) (fun e => by simp [pending]) (by simp),
      bound.dealt owner rfl (by simp) (by simp)⟩

/-- An entry becomes FREE and its snapshot with it (R59). -/
theorem freeEntry (e : Fin 48) (s : State) : PoolMoves out out s (s.freeEntry e) where
  fit h := .of_eq (s := s.freeSnapshot (s.entry e).snapshot) rfl rfl (h.freed (State.freeSnapshot_freed _ s))
  owned named bound := by
    unfold State.freeEntry State.freeSnapshot
    split
    · next b held =>
      have owner := (named.1 e b).1 held
      refine ⟨named.release held (x := Entry.free) rfl (State.freeBuffer_owner b (s := s)) fun i => ?_, ?_⟩
      · rw [State.entry_setEntry_eq, State.entry_congr (s := s) (by simp)]
      · exact bound.freeBuffer (by rw [owner]; rfl)
    · next held => exact ⟨named.setEntry held.symm fun _ => held, bound⟩

/-- The owner of a buffer loses it and the buffer becomes FREE (R47). -/
theorem dropOwner_freeBuffer (b : Fin 8) (s : State) : PoolKept s ((s.dropOwner b).freeBuffer b) where
  fit h := .freed (State.freeBuffer_freed b _) (h.of_eq (by simp) (by simp))
  owned named bound := by
    unfold State.dropOwner
    split
    · next p pending =>
      exact (freeBound b (s.unbind b)).owned (named.of_eq (by simp) (by simp)) (bound.unbind pending)
    · next e owner =>
      have held := (named.1 e b).2 owner
      refine ⟨named.release held (x := { s.entry e with snapshot := none, snapshotLost := true }) rfl (fun c => ?_)
        fun i => ?_, ?_⟩
      · rw [State.freeBuffer_owner, State.buffer_congr (s := s) (by simp)]
      · rw [State.entry_congr (s := s.loseSnapshot e) (by simp)]
        exact State.entry_setEntry_eq ..
      · have lost : ReportsBound none (s.loseSnapshot e) := bound.of_same (fun _ => rfl) rfl rfl
        refine lost.freeBuffer ?_
        rw [State.buffer_congr (s := s) (by simp), owner]
        rfl
    · next free =>
      exact ⟨named.setOwner (State.freeBuffer_owner b (s := s)) (by simp) (fun e => by simp [free]) (by simp),
        bound.freeBuffer (by rw [free]; rfl)⟩

/-- A slot changes while no buffer is written by its port. -/
theorem setSlot {s : State} {p : Station} {x : LongSlot}
    (unwritten : SnapshotsFit s → ∀ b, (s.buffer b).writer ≠ some p)
    (new : ∀ a, x.assembly = some a → a.received ≤ a.expected ∧ a.expected ≤ 240 ∧ a.buffer = none) :
    PoolMoves out out s (s.setSlot p x) where
  fit h := h.setSlot (unwritten h) new
  owned named bound := ⟨named.of_eq rfl rfl, bound.of_same (fun _ => rfl) rfl rfl⟩

/-- An open assembly ends by truncation (R47, R48). -/
theorem truncate (p : Station) (s : State) : PoolKept s (s.truncate p) where
  fit h := h.truncate p
  owned named bound := by
    unfold State.truncate
    split
    · exact ⟨named, bound⟩
    · next a _ =>
      split
      · exact ⟨named.of_eq rfl rfl, bound.of_same (fun _ => rfl) rfl rfl⟩
      · next b _ =>
        obtain ⟨named, bound⟩ := (dropOwner_freeBuffer b s).owned named bound
        exact ⟨named.of_eq rfl rfl, bound.of_same (fun _ => rfl) rfl rfl⟩

end PoolMoves

end Sys2Proof.Machine
end

section
/-!
PROOFS. What Intake makes of the pool: REPORT, SNAPSHOT, SELF reports and the arbiter.
-/
namespace Sys2Proof.Machine

open Sys2Proof

/-! ### Intake -/

/-- The REPORTs that parse, and their fields (2.7; check 2 of R38). -/
theorem parseReport_eq_some (payload : List Byte) (r : ReportFields) :
    parseReport payload = some r ↔ ∃ z c o d1 d0 n : Byte, payload = [z, c, o, d1, d0, n] ∧ z.toNat = r.zone.val ∧
      c.toNat = r.cls.val ∧ o.toNat < 8 ∧ (o.getLsbD 2 = true → 1 ≤ n.toNat ∧ n.toNat ≤ 240) ∧
      r = ⟨r.zone, r.cls, o.getLsbD 0, if o.getLsbD 1 then some (d1 ++ d0) else none,
        if o.getLsbD 2 then some n.toNat else none⟩ := by
  constructor
  · intro h
    unfold parseReport at h
    split at h
    · next z c o d1 d0 n =>
      refine ⟨z, c, o, d1, d0, n, rfl, ?_⟩
      simp only [Option.bind_eq_bind, Option.bind_eq_some_iff, fin?_eq_some] at h
      obtain ⟨zone, hz, cls, hc, h⟩ := h
      cases announces : o.getLsbD 2
      · simp only [announces, Bool.false_eq_true, if_false, Option.bind_some, Option.ite_none_right_eq_some,
          Option.some.injEq] at h
        obtain ⟨ho, rfl⟩ := h
        exact ⟨hz, hc, ho, by simp, rfl⟩
      · simp only [announces, if_true, Option.bind_eq_some_iff, Option.map_eq_some_iff, within_eq_some,
          Option.ite_none_right_eq_some, Option.some.injEq] at h
        obtain ⟨_, ⟨_, ⟨low, high, rfl⟩, rfl⟩, ho, rfl⟩ := h
        exact ⟨hz, hc, ho, fun _ => ⟨low, high⟩, rfl⟩
    · cases h
  · rintro ⟨z, c, o, d1, d0, n, rfl, hz, hc, ho, hn, hr⟩
    rw [hr]
    have zone : fin? 16 z.toNat = some r.zone := fin?_eq_some.2 hz
    have cls : fin? 32 c.toNat = some r.cls := fin?_eq_some.2 hc
    cases announces : o.getLsbD 2
    · simp only [parseReport, zone, cls, announces]
      simp [ho, w16]
    · obtain ⟨low, high⟩ := hn announces
      simp only [parseReport, zone, cls, announces]
      simp [ho, w16, within, low, high]

/-- A parsed REPORT announces at most the 240 bytes of a buffer (R38). -/
theorem parseReport_announced {payload : List Byte} {r : ReportFields} {n : Nat} (h : parseReport payload = some r)
    (hn : r.announced = some n) : n ≤ 240 := by
  obtain ⟨_, _, o, _, _, m, -, -, -, -, low, hr⟩ := (parseReport_eq_some payload r).1 h
  rw [hr, Option.ite_none_right_eq_some, Option.some.injEq] at hn
  obtain ⟨announces, rfl⟩ := hn
  exact (low announces).2

theorem State.freeBufferIndex_some {s : State} {b : Fin 8} (h : s.freeBufferIndex = some b) : (s.buffer b).owner = .free := by
  simpa [State.buffer] using firstAt_some h

namespace PoolMoves

variable {out : Option (Fin 8)}

/-- A report that was outside joins its queue (R40). -/
theorem enqueue (r : QReport) (s : State) : PoolMoves r.buffer none s (s.enqueue r) where
  fit := .of_eq (by simp) (by simp)
  owned named bound := by
    refine ⟨named.of_eq (by simp) (by simp), fun b => ?_⟩
    rw [State.bound_enqueue, State.buffer_congr (s := s) (by simp), ← bound b]
    rfl

/-- A FREE buffer is lent to a port whose assembly has none; the report bound to it is still to be queued (R39, R43). -/
theorem lend {b : Fin 8} {p : Station} {n : Nat} {s : State} (free : (s.buffer b).owner = .free) (low : n ≤ 240)
    (opened : (s.slot p).assembly = some ⟨n, 0, 0, none, snapshotWindowMs⟩) : PoolMoves none (some b) s (s.lend b p n) where
  fit h := by
    have unwritten := h.not_writer (p := p) fun a ha => by
      cases opened.symm.trans ha
      rfl
    obtain ⟨-, empty, -, -⟩ := id h
    refine h.setBuffer_setSlot (fun q hq => ?_) (fun c hc => absurd hc (unwritten c)) ⟨Nat.zero_le _, by simp⟩ ?_ ?_
    · simp [(empty b free).2] at hq
    · simp only [opened, Option.map_some, Option.some.injEq]
      rintro a rfl
      exact ⟨Nat.zero_le _, low, rfl, trivial, rfl⟩
    · simp [opened, eq_comm]
  owned named bound := by
    have buffer (c : Fin 8) : (s.lend b p n).buffer c = if c = b then ⟨.pending p, some p, n, [], false⟩ else s.buffer c :=
      State.buffer_setBuffer_eq s b c _
    refine ⟨named.setOwner (b := b) (o := .pending p) (fun c => ?_) (by simp) (by simp [free]) (by simp), fun c => ?_⟩
    · rw [buffer]
      split <;> rfl
    · rw [State.bound_congr (s := s) (by simp) (by simp), buffer]
      have := bound c
      by_cases hc : c = b
      · simp_all [BufferOwner.reports]
      · simpa [hc, Ne.symm hc] using this

theorem acceptReport {p : Station} {r : ReportFields} {s : State} (announced : ∀ n, r.announced = some n →
    n ≤ 240 ∧ (s.slot p).assembly = some ⟨n, 0, 0, none, snapshotWindowMs⟩) : PoolKept s (s.acceptReport p r).1 := by
  unfold State.acceptReport
  split
  · exact enqueue (s.reportOf p r none) s
  · next n hn =>
    obtain ⟨low, opened⟩ := announced n hn
    split
    · next b hb => exact (lend (State.freeBufferIndex_some hb) low opened).trans (enqueue (s.reportOf p r (some b)) _)
    · exact enqueue (s.reportOf p r none) s

theorem admitReport {p : Station} {r : ReportFields} {s : State} (announced : ∀ n, r.announced = some n →
    n ≤ 240 ∧ (s.slot p).assembly = some ⟨n, 0, 0, none, snapshotWindowMs⟩) : PoolKept s (s.admitReport p r).1 := by
  unfold State.admitReport
  split
  · exact refl s
  · exact ite_fst (fun _ => refl s) fun _ => acceptReport announced

/-- An earlier assembly is truncated, and the new one has no buffer yet (R39). -/
theorem openAssembly (p : Station) {announced : Option Nat} (low : ∀ n, announced = some n → n ≤ 240) (s : State) :
    PoolKept s (s.openAssembly p announced) := by
  unfold State.openAssembly
  split
  · exact refl s
  · next n =>
    refine (truncate p s).trans (setSlot (fun h => h.not_writer fun a ha => ?_) ?_)
    · simp [State.truncate_slot] at ha
    · simp only [Option.some.injEq]
      rintro a rfl
      exact ⟨Nat.zero_le _, low n rfl, rfl⟩

theorem judgeReport (p : Station) (payload : List Byte) (s : State) : PoolKept s (s.judgeReport p payload).1 := by
  refine ite_fst (fun _ => refl s) fun _ => ?_
  split
  · exact refl s
  · next r hr =>
    refine (openAssembly p (fun n => parseReport_announced hr) s).trans (admitReport fun n hn => ?_)
    rw [hn]
    exact ⟨parseReport_announced hr hn, by simp [State.openAssembly]⟩

/-- An operation on the buffers' contents and one slot, which changes no owner. -/
theorem of_owners {s t : State} (fit : SnapshotsFit s → SnapshotsFit t)
    (ho : ∀ b, (t.buffer b).owner = (s.buffer b).owner) (hq : t.intake.queues = s.intake.queues := by simp)
    (hf : t.faults = s.faults := by simp) : PoolKept s t where
  fit := fit
  owned named bound :=
    have entry (e : Fin 48) : t.entry e = s.entry e := State.entry_congr hf e
    ⟨named.of_same ho (fun e => by rw [entry]) fun e he => named.2 e (by rwa [entry] at he),
      bound.of_same (fun b => by rw [ho]) hq (by rw [hf])⟩

/-- A segment without a buffer to go to is counted (R45, case 5). -/
theorem countSegment {p : Station} {a : Assembly} {n : Nat} {s : State} (open' : (s.slot p).assembly = some a)
    (unnamed : a.buffer = none) (room : a.received + n ≤ a.expected) : PoolKept s (s.countSegment p a n) where
  fit h := by
    refine h.setSlot (h.not_writer fun x hx => ?_) ?_
    · cases open'.symm.trans hx
      exact unnamed
    · obtain ⟨-, -, fits, -⟩ := h
      simp only [Option.some.injEq]
      rintro x rfl
      exact ⟨room, (fits p a open').2.1, unnamed⟩
  owned named bound := ⟨named.of_eq rfl rfl, bound.of_same (fun _ => rfl) rfl rfl⟩

end PoolMoves

/-- The buffer of a port's assembly is written by that port, and no other buffer is. -/
theorem SnapshotsFit.writer {s : State} (h : SnapshotsFit s) {p : Station} {a : Assembly} {b : Fin 8}
    (open' : (s.slot p).assembly = some a) (buffer : a.buffer = some b) :
    (s.buffer b).writer = some p ∧ ∀ c, (s.buffer c).writer = some p → c = b := by
  obtain ⟨-, -, fits, named⟩ := h
  refine ⟨((fits p a open').2.2 b buffer).1, fun c hc => ?_⟩
  obtain ⟨x, hx, hxc⟩ := named c p hc
  cases open'.symm.trans hx
  exact Option.some.inj (hxc.symm.trans buffer)

/-- A segment within the expected length is written into the assembly's buffer (R45, case 6). -/
theorem SnapshotsFit.writeSegment {s : State} (h : SnapshotsFit s) {p : Station} {a : Assembly} {b : Fin 8} {d : List Byte}
    (open' : (s.slot p).assembly = some a) (buffer : a.buffer = some b) (room : a.received + d.length ≤ a.expected) :
    SnapshotsFit ((s.countSegment p a d.length).writeData b d) := by
  obtain ⟨writer, only⟩ := h.writer open' buffer
  obtain ⟨-, free, fits, -⟩ := id h
  obtain ⟨-, high, agree⟩ := fits p a open'
  have length : ((s.buffer b).data ++ d).length = a.received + d.length := by simp [(agree b buffer).2]
  refine h.setBuffer_setSlot (b := b) (y := { s.buffer b with data := (s.buffer b).data ++ d })
    (x := ⟨some { a with next := a.next + 1, received := a.received + d.length }, (s.slot p).outcome⟩)
    (fun q hq => ?_) only ⟨length.le.trans (room.trans high), fun hf => ?_⟩ ?_ fun q hq => ?_
  · exact Option.some.inj (hq.symm.trans writer)
  · have := (free b hf).2
    rw [writer] at this
    cases this
  · simp only [Option.some.injEq]
    rintro x rfl
    exact ⟨room, high, buffer, writer, length⟩
  · exact ⟨Option.some.inj (hq.symm.trans writer), rfl⟩

/-- The last announced byte is written: the buffer has no writer and the slot no assembly (R46). -/
theorem SnapshotsFit.completeAssembly {s : State} (h : SnapshotsFit s) {p : Station} {a : Assembly} {b : Fin 8}
    (open' : (s.slot p).assembly = some a) (buffer : a.buffer = some b) : SnapshotsFit (s.completeAssembly b p) := by
  obtain ⟨writer, only⟩ := h.writer open' buffer
  obtain ⟨long, free, -, -⟩ := id h
  exact h.setBuffer_setSlot (fun q hq => Option.some.inj (hq.symm.trans writer)) only
    ⟨long b, fun hf => ⟨(free b hf).1, rfl⟩⟩ (fun _ hx => by cases hx) fun _ hq => by cases hq

theorem State.setBuffer_owner {s : State} {b : Fin 8} {x : Buffer} (h : x.owner = (s.buffer b).owner) (c : Fin 8) :
    ((s.setBuffer b x).buffer c).owner = (s.buffer c).owner := by
  rw [State.buffer_setBuffer_eq]
  split
  · next hc => rw [h, hc]
  · rfl

theorem State.writeData_owner (b : Fin 8) (d : List Byte) (s : State) (c : Fin 8) :
    ((s.writeData b d).buffer c).owner = (s.buffer c).owner :=
  State.setBuffer_owner (x := { s.buffer b with data := (s.buffer b).data ++ d }) rfl c

theorem State.completeAssembly_owner (b : Fin 8) (p : Station) (s : State) (c : Fin 8) :
    ((s.completeAssembly b p).buffer c).owner = (s.buffer c).owner :=
  State.setBuffer_owner (x := { s.buffer b with complete := true, writer := none }) rfl c

namespace PoolMoves

variable {out : Option (Fin 8)}

/-- The end of an assembly that has no buffer (R46, R48). -/
theorem endAssembly {p : Station} {a : Assembly} {s : State} (o : SlotOutcome) (open' : (s.slot p).assembly = some a)
    (unnamed : a.buffer = none) : PoolKept s (s.endAssembly p o) := by
  refine setSlot (fun h => h.not_writer fun x hx => ?_) (by simp)
  cases open'.symm.trans hx
  exact unnamed

theorem takeSegment {p : Station} {a : Assembly} {d : List Byte} {s : State} (open' : (s.slot p).assembly = some a)
    (room : a.received + d.length ≤ a.expected) : PoolKept s (s.takeSegment p a d).1 := by
  unfold State.takeSegment
  have slot : ((s.countSegment p a d.length).slot p).assembly =
      some { a with next := a.next + 1, received := a.received + d.length } := by simp [State.countSegment]
  dsimp only
  split
  · next unnamed =>
    have counted := countSegment open' unnamed room
    exact ite (fun _ => counted.trans (endAssembly .dropped slot unnamed)) fun _ => counted
  · next b buffer =>
    have fit := fun h : SnapshotsFit s => h.writeSegment open' buffer room
    refine ite (fun _ => of_owners (fun h => (fit h).completeAssembly slot buffer) fun c => ?_)
      fun _ => of_owners fit (State.writeData_owner b d _)
    rw [State.completeAssembly_owner, State.writeData_owner]
    rfl

theorem judgeSnapshot (p : Station) (payload : List Byte) (s : State) : PoolKept s (s.judgeSnapshot p payload).1 := by
  refine ite_fst (fun _ => refl s) fun _ => ?_
  split
  · exact truncate p s
  · split
    · exact refl s
    · next i d _ a open' =>
      refine ite_fst (fun _ => truncate p s) fun fits => takeSegment open' ?_
      simp only [Bool.or_eq_true, decide_eq_true_eq, not_or, Nat.not_lt] at fits
      exact fits.2

theorem formSelf (k : Fin 24) (s : State) : PoolKept s (s.formSelf k) := by
  have sent : PoolKept s (s.markSent k) := of_frame
  unfold State.formSelf
  dsimp only
  split
  · exact sent.trans (enqueue (s.selfReport k) _)
  · exact sent

/-- The head of a queue goes into application where none is (R56). -/
theorem handHead (q : Source) {s : State} (idle : s.faults.applying = none) : PoolKept s (s.handHead q) where
  fit := .of_eq (by simp) (by simp)
  owned named bound := by
    refine ⟨named.of_eq (by simp) (by simp), fun b => ?_⟩
    rw [State.bound_handHead q idle, State.buffer_congr (s := s) (by simp)]
    exact bound b

theorem handOff {s : State} (idle : s.faults.applying = none) : PoolKept s s.handOff := by
  unfold State.handOff
  split
  · exact handHead _ idle
  · split
    · next q _ =>
      have current : PoolKept s (s.makeCurrent q) := of_frame
      exact current.trans (handHead q idle)
    · exact refl s

end PoolMoves
end Sys2Proof.Machine
end

section
/-!
PROOFS. What the Fault Table makes of the pool: a report that lands, its buffer, entries that retire or become FREE.
-/
namespace Sys2Proof.Machine

open Sys2Proof

/-! ### Entries -/

theorem Entry.begin_kept (now : Clock) (k : FaultClass) (z : Zone) (e : Entry) :
    (e.begin now k z).snapshot = e.snapshot ∧ (e.begin now k z).state ≠ .free := by
  unfold Entry.begin Entry.confirm
  split
  · exact ⟨rfl, by dsimp only; split <;> decide⟩
  · exact ⟨rfl, nofun⟩

theorem Entry.onPresent_kept (now : Clock) (k : FaultClass) (z : Zone) (r : QReport) (e : Entry) :
    (e.onPresent now k z r).snapshot = e.snapshot ∧ ((e.onPresent now k z r).state = .free → e.state = .free) := by
  unfold Entry.onPresent
  dsimp only
  split
  · next h =>
    split
    · exact ⟨rfl, fun hf => absurd hf (by dsimp only [Entry.confirm]; split <;> decide)⟩
    · exact ⟨rfl, id⟩
  · exact ⟨rfl, fun hf => absurd hf (by dsimp only [Entry.recur]; split <;> decide)⟩
  all_goals exact ⟨rfl, id⟩

theorem Entry.heal_kept (now : Clock) (k : FaultClass) (e : Entry) :
    (e.heal now k).snapshot = e.snapshot ∧ (e.heal now k).state ≠ .free := by
  unfold Entry.heal Entry.retire
  split <;> exact ⟨rfl, nofun⟩

theorem Entry.onAbsent_kept (now : Clock) (k : FaultClass) (r : QReport) (e : Entry) :
    (e.onAbsent now k r).snapshot = e.snapshot ∧ ((e.onAbsent now k r).state = .free → e.state = .free) := by
  unfold Entry.onAbsent
  dsimp only
  split
  · split
    · split
      · exact ⟨rfl, fun hf => absurd hf (by simp [Entry.retire])⟩
      · obtain ⟨snapshot, used⟩ := Entry.heal_kept now k { e with lastReportAt := r.arrival, present := e.present.remove r.source }
        exact ⟨snapshot, fun hf => absurd hf used⟩
      all_goals exact ⟨rfl, id⟩
    · exact ⟨rfl, id⟩
  · exact ⟨rfl, id⟩

/-- The entry that a report's pair names is not FREE (R61). -/
theorem FaultTable.lookup_used {t : FaultTable} {zone : Fin 16} {cls : Fin 32} {e : Fin 48}
    (h : t.lookup zone cls = some e) : t.entries[e].state ≠ .free := by
  have := firstAt_some h
  simp only [Entry.holds, Entry.used, Bool.and_eq_true, bne_iff_ne] at this
  exact this.1.1

theorem FaultTable.firstFree_free {t : FaultTable} {e : Fin 48} (h : t.firstFree = some e) : t.entries[e].state = .free := by
  simpa using firstAt_some h

namespace PoolMoves

variable {out : Option (Fin 8)}

/-- An entry that has no snapshot is opened for a report's pair (R64). -/
theorem openEntry {e : Fin 48} {r : QReport} {s : State} (empty : SnapshotsNamed s → (s.entry e).snapshot = none) :
    PoolMoves out out s (s.openEntry e r) where
  fit := .of_eq rfl rfl
  owned named bound := by
    obtain ⟨snapshot, used⟩ := Entry.begin_kept s.device.clock (s.classOf r.cls) (s.zoneOf r.zone)
      (Entry.opened s.device.clock r)
    exact ⟨named.setEntry (snapshot.trans (empty named).symm) fun hf => absurd hf used, bound.of_same (fun _ => rfl) rfl rfl⟩

/-- A report lands, on an entry that is not FREE or on none (R62 to R67). -/
theorem landPresent (r : QReport) (s : State) :
    PoolMoves out out s (s.landPresent r).1 ∧
      ∀ e, (s.landPresent r).2 = some e → ((s.landPresent r).1.entry e).state ≠ .free := by
  have opened (e : Fin 48) (u : State) : ((u.openEntry e r).entry e).state ≠ .free := by
    rw [State.openEntry, State.entry_setEntry]
    exact (Entry.begin_kept ..).2
  unfold State.landPresent
  dsimp only
  split
  · next e found =>
    have used : (s.entry e).state ≠ .free := FaultTable.lookup_used found
    split
    · obtain ⟨snapshot, now⟩ := Entry.begin_kept s.device.clock (s.classOf (s.entry e).cls) (s.zoneOf (s.entry e).zone)
        ((s.entry e).reopened s.device.clock r)
      refine ⟨setEntry s snapshot fun hf => absurd hf now, fun i hi => ?_⟩
      cases hi
      rw [State.entry_setEntry]
      exact now
    · obtain ⟨snapshot, now⟩ := Entry.onPresent_kept s.device.clock (s.classOf (s.entry e).cls)
        (s.zoneOf (s.entry e).zone) r (s.entry e)
      refine ⟨setEntry s snapshot now, fun i hi => ?_⟩
      cases hi
      rw [State.entry_setEntry]
      exact fun hf => used (now hf)
  · split
    · next e free =>
      refine ⟨openEntry fun named => named.2 e (FaultTable.firstFree_free free), fun i hi => ?_⟩
      cases hi
      exact opened e s
    · split
      · next e _ =>
        refine ⟨(freeEntry e s).trans (openEntry fun _ => ?_), fun i hi => ?_⟩
        · rw [State.freeEntry, State.entry_setEntry]
          rfl
        · cases hi
          exact opened e _
      · exact ⟨of_frame, fun i hi => by cases hi⟩

theorem landAbsent (r : QReport) (s : State) :
    PoolMoves out out s (s.landAbsent r).1 ∧
      ∀ e, (s.landAbsent r).2 = some e → ((s.landAbsent r).1.entry e).state ≠ .free := by
  unfold State.landAbsent
  split
  · next e found =>
    obtain ⟨snapshot, now⟩ := Entry.onAbsent_kept s.device.clock (s.classOf (s.entry e).cls) r (s.entry e)
    refine ⟨setEntry s snapshot now, fun i hi => ?_⟩
    cases hi
    rw [State.entry_setEntry]
    exact fun hf => FaultTable.lookup_used found (now hf)
  · exact ⟨refl s, fun i hi => by cases hi⟩

theorem land (r : QReport) (s : State) :
    PoolMoves out out s (s.land r).1 ∧ ∀ e, (s.land r).2 = some e → ((s.land r).1.entry e).state ≠ .free := by
  unfold State.land
  split
  · exact landPresent r s
  · exact landAbsent r s

/-- The buffer of an applied report is bound to the entry that it landed on (R49). -/
theorem bindBuffer {b : Fin 8} {e : Fin 48} {s : State} (empty : (s.entry e).snapshot = none)
    (used : (s.entry e).state ≠ .free) : PoolMoves (some b) none s (s.bindBuffer b e) where
  fit h := .of_eq rfl rfl (h.setOwner b (o := .entry e) (by simp))
  owned named bound := by
    obtain ⟨-, p, pending⟩ := bound.outside
    refine ⟨named.bindBuffer (fun i => by simp [pending]) empty used, bound.dealt (o := .entry e) (fun c => ?_) rfl rfl rfl⟩
    show ((s.setBuffer b _).buffer c).owner = _
    rw [State.buffer_setBuffer_eq]
    split <;> rfl

theorem dealBuffer {buffer : Option (Fin 8)} {landing : Option (Fin 48)} {s : State}
    (used : ∀ e, landing = some e → (s.entry e).state ≠ .free) :
    PoolMoves buffer none s (s.dealBuffer buffer landing) := by
  unfold State.dealBuffer
  split
  · exact refl s
  · next b =>
    split
    · exact freeBound b s
    · next e => exact ite (fun empty => bindBuffer empty (used e rfl)) fun _ => freeBound b s

/-- The report in application is taken out of the table (R60). -/
theorem takeApplying {r : QReport} {s : State} (h : s.faults.applying = some r) :
    PoolMoves none r.buffer s { s with faults := { s.faults with applying := none } } where
  fit := .of_eq rfl rfl
  owned named bound := by
    refine ⟨named.of_eq rfl rfl, fun b => ?_⟩
    rw [State.bound_applying h b]
    exact bound b

theorem applyReport {r : QReport} {s : State} (h : s.faults.applying = some r) : PoolKept s (s.applyReport r) := by
  obtain ⟨landed, used⟩ := land (out := r.buffer) r { s with faults := { s.faults with applying := none } }
  exact ((takeApplying h).trans landed).trans (dealBuffer used)

/-! ### After an event of the Fault Table -/

theorem settleRoots (s : State) : PoolMoves out out s s.settleRoots := by
  refine of_entries (fun e => ?_) fun e => ?_
  · rw [State.settleRoots_entry]
  · rw [State.settleRoots_entry]
    exact id

theorem settle (old : FaultTable) (s : State) : PoolMoves out out s (s.settle old) := by
  have noted (t : State) : PoolMoves out out t (t.notify old) := of_frame
  have told (t : State) : PoolMoves out out t (t.tellLadder old) := of_frame
  exact ite (fun _ => (settleRoots s).trans ((noted _).trans (told _))) fun _ => refl s

theorem retireEntry (e : Fin 48) (o : EpisodeEnd) (s : State) : PoolMoves out out s (s.retireEntry e o) := by
  have retired : PoolMoves out out s (s.setEntry e ((s.entry e).retire s.device.clock o)) :=
    setEntry s rfl fun hf => absurd hf (by simp [Entry.retire])
  exact retired.trans (settle s.faults _)

theorem freeRetired (s : State) : PoolMoves out out s s.freeRetired :=
  foldl (fun t e => ite (fun _ => freeEntry e t) fun _ => refl t) _ s

theorem judgeClear (p : Station) (payload : List Byte) (s : State) : PoolMoves out out s (s.judgeClear p payload).1 := by
  refine ite_fst (fun _ => refl s) fun _ => ?_
  split
  · exact refl s
  · split
    · exact refl s
    · exact ite_fst (fun _ => refl s) fun _ => ite_fst (fun _ => refl s) fun _ => ite_fst (fun _ => refl s) fun _ =>
        ite_fst (fun _ => refl s) fun _ => retireEntry _ .cleared s

theorem judgeDiscardEntry (p : Station) (payload : List Byte) (s : State) :
    PoolMoves out out s (s.judgeDiscardEntry p payload).1 := by
  refine ite_fst (fun _ => refl s) fun _ => ?_
  split
  · exact refl s
  · exact ite_fst (fun _ => refl s) fun _ => ite_fst (fun _ => refl s) fun _ => (freeEntry _ s).trans (settle s.faults _)

theorem judgeDiscardAll (p : Station) (payload : List Byte) (s : State) :
    PoolMoves out out s (s.judgeDiscardAll p payload).1 := by
  have settled : PoolMoves out out s (s.freeRetired.settle s.faults) := (freeRetired s).trans (settle s.faults _)
  refine ite_fst (fun _ => refl s) fun _ => ite_fst (fun _ => refl s) fun _ => ite_fst (fun _ => refl s) fun _ => ?_
  dsimp only
  exact settled

theorem judgeClearOverflow (p : Station) (payload : List Byte) (s : State) :
    PoolMoves out out s (s.judgeClearOverflow p payload).1 := by
  have cleared : PoolMoves out out s s.clearCells := of_frame
  exact ite_fst (fun _ => refl s) fun _ => ite_fst (fun _ => refl s) fun _ => ite_fst (fun _ => refl s) fun _ =>
    ite_fst (fun _ => refl s) fun _ => cleared.trans (settle s.faults _)

end PoolMoves

end Sys2Proof.Machine
end

section
/-!
PROOFS. What the ports, the passages between device states and key-off make of the pool; what every command makes of it
(`exec_pool`), and the statement on every step.
-/
namespace Sys2Proof.Machine

open Sys2Proof

namespace PoolMoves

variable {out : Option (Fin 8)}

/-! ### Frames and ports -/

theorem takeFrame {p : Station} {turn : Bool} {hand : State → State} (h : ∀ t, PoolKept t (hand t)) (s : State) :
    PoolKept s (s.takeFrame p turn hand) :=
  State.takeFrame_holds (PoolKept s) (fun t f ht => ht.trans (modPort t p f)) (fun _ ht => ht.trans of_frame)
    (fun t ht => ht.trans (h t)) (refl s)

theorem receipted {p : Station} {judge : State → State × Verdict} (h : ∀ t, PoolKept t (judge t).1) (s : State) :
    PoolKept s (State.receipted p judge s) :=
  State.receipted_holds (PoolKept s) (fun t f ht => ht.trans (modPort t p f)) (fun hs => hs.trans (h s)) (refl s)

theorem takeConfig {p : Station} {turn : Bool} {judge : State → State × Verdict} (h : ∀ t, PoolKept t (judge t).1)
    (s : State) : PoolKept s (s.takeConfig p turn judge) :=
  takeFrame (receipted fun t => State.judgeConfig_holds (PoolKept t) (fun _ _ => h t) (refl t)) s

theorem completeIf (p : Station) (is : Sending → Bool) (s : State) : PoolKept s (s.completeIf p is) :=
  State.completeIf_holds (PoolKept s) (fun t f ht => ht.trans (modPort t p f)) (fun _ => of_frame) (refl s)

theorem leaveExchange (p : Station) (s : State) : PoolKept s (s.leaveExchange p) :=
  have departed (t : State) : PoolKept t (t.depart p) := of_frame
  (truncate p s).trans (departed _)

/-- A port takes another state, and leaves the exchange if it was in it (R19, R20). -/
theorem setPort_leave (s : State) (p : Station) (o : Port) : PoolKept s (State.motionPort p
    (if (s.port p).inExchange then (s.setPort p o).leaveExchange p else s.setPort p o)) := by
  have moved : PoolKept s (s.setPort p o) := of_frame
  have told (t : State) : PoolKept t (t.motionPort p) := of_frame
  exact trans (ite (fun _ => moved.trans (leaveExchange p _)) fun _ => moved) (told _)

theorem enterOffline (p : Station) (s : State) : PoolKept s (s.enterOffline p) :=
  ite (fun _ => refl s) fun _ => setPort_leave s p _

theorem enterSync (p : Station) (s : State) : PoolKept s (s.enterSync p) :=
  setPort_leave s p _

theorem contention (p : Station) (f : OutFrame) (s : State) : PoolKept s (s.contention p f) := by
  have lost (t : State) : PoolKept t (t.setCond (linkLostCond p) true none) := of_frame
  have told (t : State) : PoolKept t (t.motionPort p) := of_frame
  exact (modPort s p _).trans (ite (fun _ => (modPort _ p _).trans (told _)) fun _ => (enterSync p _).trans (lost _))

/-! ### The passages between device states -/

theorem enterRun (way : RunEntry) (s : State) : PoolKept s (s.enterRun way) := by
  have entered : PoolKept s { s with device := { s.device with state := .run, configureWindow := none, way := way } } :=
    of_frame rfl rfl rfl rfl rfl
  unfold State.enterRun
  exact (entered.trans (settleRoots _)).trans of_frame

theorem judgeCommit (p : Station) (payload : List Byte) (s : State) : PoolKept s (s.judgeCommit p payload).1 := by
  have checked (failed : Option Nat) : PoolKept s (s.recordCheck failed) := of_frame
  refine ite_fst (fun _ => refl s) fun _ => ite_fst (fun _ => refl s) fun _ => ite_fst (fun _ => refl s) fun _ => ?_
  unfold State.judgeConsistency
  dsimp only
  split
  · exact checked _
  · exact (checked _).trans (enterRun .commit _)

theorem expireConfigure (mV : Nat) (s : State) : PoolKept s (s.expireConfigure mV) := by
  have checked (failed : Option Nat) : PoolKept s (s.recordCheck failed) := of_frame
  have loaded (t : State) : PoolKept t (t.loadDefaults mV) := of_frame
  have told (t : State) (d : Option Detail) : PoolKept t (t.setCond 23 true d) := of_frame
  unfold State.expireConfigure
  refine trans ?_ (told _ _)
  split
  · exact (checked _).trans ((loaded _).trans (enterRun _ _))
  · exact (checked _).trans (enterRun _ _)

theorem enterConfigure (mV : Nat) (s : State) : PoolKept s (s.enterConfigure mV) := by
  have entered : PoolKept s { s with device := { s.device with
      state := .configure, configureWindow := some configureWindowMs, check := .none, way := .notYet } } :=
    of_frame rfl rfl rfl rfl rfl
  have woken (t : State) : PoolKept t (stations.foldl State.wakePort t) :=
    foldl (fun t p => ite (fun _ => enterSync p t) fun _ => refl t) stations t
  unfold State.enterConfigure
  exact (entered.trans (woken _)).trans of_frame

theorem leaveReset (topo : Topology) (key : Bool) (mV : Nat) (s : State) : PoolKept s (s.leaveReset topo key mV) := by
  unfold State.leaveReset
  refine trans ?_ (ite (fun _ => enterConfigure mV _) fun _ => refl _)
  exact of_frame rfl rfl rfl rfl rfl

/-- Every block takes its power-on values: all buffers, slots and entries are FREE, and no report waits (R174). -/
theorem enterReset (resetN settled : Bool) (s : State) : PoolKept s (s.enterReset resetN settled) := by
  have buffer (b : Fin 8) : (s.enterReset resetN settled).buffer b = Buffer.free := by
    simp [State.buffer, State.enterReset, State.reset]
  have slot (p : Station) : ((s.enterReset resetN settled).slot p).assembly = none := by cases p <;> rfl
  have entry (e : Fin 48) : (s.enterReset resetN settled).entry e = Entry.free := by
    simp [State.entry, State.enterReset, State.reset, FaultTable.reset]
  refine ⟨fun _ => ⟨fun b => ?_, fun b _ => ?_, fun p a ha => ?_, fun b p hb => ?_⟩, fun _ _ => ⟨⟨fun e b => ?_, fun e _ => ?_⟩,
    fun b => ?_⟩⟩
  · simp [buffer, Buffer.free]
  · simp [buffer, Buffer.free]
  · simp [slot] at ha
  · simp [buffer, Buffer.free] at hb
  · simp [entry, buffer, Entry.free, Buffer.free]
  · rw [entry]
    rfl
  · rw [buffer]
    rfl

end PoolMoves

/-! ### Key-off -/

/-- After a loop, what each pass makes true of its own index, and later passes keep, is true of every index. -/
theorem foldl_each {σ α : Type} {P : α → σ → Prop} {g : σ → α → σ} (made : ∀ s a, P a (g s a))
    (kept : ∀ s a b, P b s → P b (g s a)) (l : List α) (s : σ) : ∀ a ∈ l, P a (l.foldl g s) := by
  induction l generalizing s with
  | nil => simp
  | cons x l ih =>
    intro a ha
    obtain rfl | ha := List.mem_cons.1 ha
    · exact foldl_holds (P a) (fun t b => kept t b a) l _ (made s a)
    · exact ih _ a ha

/-- A buffer that is not PENDING: after the short queues are emptied, no other is left (R57). -/
def State.settled (b : Fin 8) (s : State) : Prop := (s.buffer b).owner.reports = 0

theorem State.freeIfPending_settled (s : State) (b : Fin 8) : State.settled b (s.freeIfPending b) := by
  unfold State.settled State.freeIfPending
  split
  · rw [State.freeBuffer_owner, if_pos rfl]
    rfl
  · next h => rw [h]; rfl
  · next h => rw [h]; rfl

theorem State.settled_freeIfPending {s : State} {c : Fin 8} (b : Fin 8) (h : State.settled c s) :
    State.settled c (s.freeIfPending b) := by
  unfold State.settled State.freeIfPending at *
  split
  · rw [State.freeBuffer_owner]
    split
    · rfl
    · exact h
  all_goals exact h

theorem SnapshotsFit.freeIfPending {s : State} (h : SnapshotsFit s) (b : Fin 8) : SnapshotsFit (s.freeIfPending b) := by
  unfold State.freeIfPending
  split
  · exact h.freed (State.freeBuffer_freed b s)
  all_goals exact h

theorem SnapshotsNamed.freeIfPending {s : State} (h : SnapshotsNamed s) (b : Fin 8) :
    SnapshotsNamed (s.freeIfPending b) := by
  unfold State.freeIfPending
  split
  · next pending => exact h.setOwner (State.freeBuffer_owner b (s := s)) (by simp) (fun e => by simp [pending]) (by simp)
  all_goals exact h

theorem State.truncate_applying {s : State} (p : Station) (idle : s.faults.applying = none) :
    (s.truncate p).faults.applying = none := by
  have dropped (b : Fin 8) : (s.dropOwner b).faults.applying = none := by
    unfold State.dropOwner
    split
    · simp [State.unbind, idle]
    all_goals exact idle
  unfold State.truncate
  split
  · exact idle
  · split
    · exact idle
    · simp [dropped]

theorem State.portOff_applying {s : State} (p : Station) (idle : s.faults.applying = none) :
    (s.portOff p).faults.applying = none := by
  have moved : (s.setPort p (s.port p).toOffline).faults.applying = none := idle
  unfold State.portOff State.enterOffline
  dsimp only
  split
  · exact idle
  · split
    · simp [State.leaveExchange, State.truncate_applying p moved]
    · simpa using idle

theorem State.finishReport_applying (s : State) : s.finishReport.faults.applying = none := by
  unfold State.finishReport
  split
  · simp [State.applyReport]
  · assumption

namespace PoolMoves

theorem finishReport (s : State) : PoolKept s s.finishReport := by
  unfold State.finishReport
  split
  · next applying => exact applyReport applying
  · exact refl s

/-- Intake's purge: every assembly ends, the PENDING buffers become FREE, and the reports bound to them go with the queues
(R57). The report in application has been applied before. -/
theorem purgeIntake {s : State} (idle : s.faults.applying = none) : PoolKept s s.purgeIntake := by
  have ends : PoolKept s (stations.foldl State.endSlot s) := foldl (fun t p => truncate p t) stations s
  have still : (stations.foldl State.endSlot s).faults.applying = none :=
    foldl_holds (fun t : State => t.faults.applying = none) (fun _ p => State.truncate_applying p) stations s idle
  unfold State.purgeIntake
  generalize stations.foldl State.endSlot s = ended at ends still
  have settled (b : Fin 8) := foldl_each (P := State.settled) State.freeIfPending_settled
    (fun _ b _ => State.settled_freeIfPending b) (List.finRange 8) ended b (List.mem_finRange b)
  have fit := foldl_holds SnapshotsFit (fun _ b h => SnapshotsFit.freeIfPending h b) (List.finRange 8) ended
  have named := foldl_holds SnapshotsNamed (fun _ b h => SnapshotsNamed.freeIfPending h b) (List.finRange 8) ended
  have quiet : ((List.finRange 8).foldl State.freeIfPending ended).faults.applying = none := by simpa using still
  generalize (List.finRange 8).foldl State.freeIfPending ended = freed at settled fit named quiet
  refine ⟨fun h => (fit (ends.fit h)).of_eq rfl rfl, fun hn hb => ⟨(named (ends.owned hn hb).1).of_eq rfl rfl, fun b => ?_⟩⟩
  have none : State.reports { freed with intake := { freed.intake with
      queues := ⟨[], [], [], [], []⟩, conds := mapTable Cond.clear freed.intake.conds, current := none, allowance := 0
      rotation := .ride } } = [] := by simp [State.reports, State.queue, PerSource.get, quiet]
  rw [State.bound, none]
  exact (settled b).symm

theorem purgeTable (s : State) : PoolKept s s.purgeTable := by
  have entry (t : State) (e : Fin 48) : PoolKept t (t.purgeEntry e) := by
    unfold State.purgeEntry
    exact ite (fun _ => setEntry t rfl id) fun _ => freeEntry e t
  have purged : PoolKept s ((List.finRange 48).foldl (fun t e => t.purgeEntry e) s) :=
    foldl entry (List.finRange 48) s
  unfold State.purgeTable
  generalize (List.finRange 48).foldl (fun t e => State.purgeEntry e t) s = u at purged
  exact purged.trans (of_frame rfl rfl rfl rfl rfl)

/-- Every port goes OFFLINE after the report in application has been applied: none is left. -/
theorem portsOff (s : State) : PoolKept s (stations.foldl State.portOff s.finishReport) ∧
    (stations.foldl State.portOff s.finishReport).faults.applying = none :=
  ⟨(finishReport s).trans (foldl (fun t p => enterOffline p t) stations _),
    foldl_holds (fun t : State => t.faults.applying = none) (fun _ p => State.portOff_applying p) stations _
      s.finishReport_applying⟩

theorem keyOff (s : State) : PoolKept s s.keyOff := by
  have standby : PoolKept s { s with device := { s.device with state := .standby, configureWindow := none } } :=
    of_frame rfl rfl rfl rfl rfl
  unfold State.keyOff
  dsimp only
  generalize ({ s with device := { s.device with state := .standby, configureWindow := none } } : State) = u at standby
  obtain ⟨off, idle⟩ := portsOff u
  generalize stations.foldl State.portOff u.finishReport = v at off idle
  have purged := ((standby.trans off).trans (purgeIntake idle)).trans (purgeTable _)
  exact purged.trans of_frame

theorem keyLow (s : State) : PoolKept s s.keyLow := by
  unfold State.keyLow
  split
  · exact keyOff s
  · exact keyOff s
  all_goals exact refl s

theorem keyHigh (mV : Nat) (s : State) : PoolKept s (s.keyHigh mV) := by
  unfold State.keyHigh
  split
  · exact enterConfigure mV s
  all_goals exact refl s

end PoolMoves

/-! ### What each command makes of the pool -/

/-- The command answers a next state, and keeps the pool and the reports. -/
def AnswersPool (s : State) (o : Host.Outcome State Fault Refusal) : Prop :=
  ∃ t, o = .next t ∧ PoolKept s t

namespace AnswersPool

theorem keep {s t : State} (h : PoolKept s t) : AnswersPool s (.next t) := ⟨t, rfl, h⟩

theorem keyDebounceExpiry (mV : Nat) (s : State) : AnswersPool s (execKeyDebounceExpiry mV s) := by
  unfold execKeyDebounceExpiry
  split
  · exact keep (.refl s)
  · have sampled : PoolKept s { s with device := { s.device with debounce := none, keyLevel := s.device.keyPin } } :=
      .of_frame rfl rfl rfl rfl rfl
    exact keep (sampled.trans (.ite (fun _ => .keyHigh mV _) fun _ => .keyLow _))

theorem configureWindowExpiry (mV : Nat) (s : State) : AnswersPool s (execConfigureWindowExpiry mV s) := by
  unfold execConfigureWindowExpiry
  split
  · exact keep (.refl s)
  · exact keep (.expireConfigure mV s)

theorem contention (p : Station) (s : State) : AnswersPool s (execContention p s) := by
  unfold execContention
  split
  · exact keep (.contention p _ s)
  · exact keep (.modPort s p _)
  · exact keep (.refl s)

theorem stationDrivesLine (p : Station) (s : State) : AnswersPool s (execStationDrivesLine p s) := by
  unfold execStationDrivesLine
  split
  · exact keep .of_frame
  · exact keep .of_frame
  all_goals exact keep (.refl s)

theorem heartbeatExpiry (p : Station) (s : State) : AnswersPool s (execHeartbeatExpiry p s) := by
  unfold execHeartbeatExpiry
  split
  · exact keep (.refl s)
  · exact keep (.modPort s p _)

theorem turnWindowExpiry (p : Station) (receiving : Bool) (s : State) :
    AnswersPool s (execTurnWindowExpiry p receiving s) := by
  unfold execTurnWindowExpiry
  split
  · split
    · exact keep (.modPort s p _)
    · exact keep .of_frame
  · exact keep (.refl s)

theorem selfReportFormed (s : State) : AnswersPool s (execSelfReportFormed s) := by
  refine keep (.ite (fun _ => ?_) fun _ => .refl s)
  split
  · exact .formSelf _ s
  · exact .refl s

theorem arbiterHandOff (s : State) : AnswersPool s (execArbiterHandOff s) := by
  refine keep (.ite (fun h => ?_) fun _ => .refl s)
  simp only [Bool.and_eq_true, Option.isNone_iff_eq_none] at h
  exact .handOff h.2

theorem reportApplied (s : State) : AnswersPool s (execReportApplied s) := by
  unfold execReportApplied
  split
  · exact keep (.refl s)
  · next applying => exact keep ((PoolMoves.applyReport applying).trans (.settle s.faults _))

end AnswersPool

theorem exec_pool (c : Instr) (s : State) : AnswersPool s (exec c s) := by
  cases c with
  | powerOn => exact .keep (.enterReset _ _ s)
  | resetNLow => exact .keep (.enterReset _ _ s)
  | resetEnd topo1 topo0 key mV => exact .keep (.ite (fun _ => .leaveReset _ key mV s) fun _ => .refl s)
  | keyPinChange level => exact .keep (.of_frame rfl rfl rfl rfl rfl)
  | keyDebounceExpiry dcLink => exact .keyDebounceExpiry dcLink s
  | configureWindowExpiry dcLink => exact .configureWindowExpiry dcLink s
  | reqChange p level => exact .keep (.modPort s p _)
  | hello p turn payload => exact .keep (.ite (fun _ => .of_frame) fun _ => .takeFrame (fun _ => .of_frame) s)
  | status p turn payload | adopt p turn payload => exact .keep (.takeFrame (fun _ => .of_frame) s)
  | report p turn payload => exact .keep (.takeFrame (.receipted (.judgeReport p payload)) s)
  | snapshot p turn payload => exact .keep (.takeFrame (.receipted (.judgeSnapshot p payload)) s)
  | clear p turn payload => exact .keep (.takeFrame (.receipted (.judgeClear p payload)) s)
  | discardEntry p turn payload => exact .keep (.takeFrame (.receipted (.judgeDiscardEntry p payload)) s)
  | discardAllRetired p turn payload => exact .keep (.takeFrame (.receipted (.judgeDiscardAll p payload)) s)
  | clearOverflow p turn payload => exact .keep (.takeFrame (.receipted (.judgeClearOverflow p payload)) s)
  | readTable p turn payload | readEntry p turn payload | readSnapshot p turn payload | readEnvelope p turn payload
  | readMonitor p turn payload | readOverflow p turn payload | readIdent p turn payload =>
    exact .keep (.takeFrame (.receipted fun _ => .of_frame) s)
  | zoneRecord p turn payload | classRecord p turn payload | levelRecord p turn payload
  | responseRecord p turn payload | scanRecord p turn payload | channelsRecord p turn payload
  | comparatorRecord p turn payload dcLink | timingRecord p turn payload | weightRecord p turn payload =>
    exact .keep (.takeConfig (fun _ => .of_frame) s)
  | commit p turn payload => exact .keep (.takeFrame (.receipted (.judgeCommit p payload)) s)
  | discardedFrame p cause =>
    exact .keep (.ite (fun _ => .ite (fun _ => .modPort s p _) fun _ => .refl s)
      fun _ => .takeFrame (fun _ => .of_frame) s)
  | outOfTurnFrame p => exact .keep .of_frame
  | brokenFrame p => exact .keep (.ite (fun _ => .of_frame) fun _ => .of_frame)
  | contention p => exact .contention p s
  | stationDrivesLine p => exact .stationDrivesLine p s
  | outboundArbiterChoice p | expiredTurnLineIdle p | recoverQuietExpiry p =>
    exact .keep (.ite (fun _ => .of_frame) fun _ => .refl s)
  | syncDue p | syncSent p | syncTurnExpiry p => exact .keep (.ite (fun _ => .modPort s p _) fun _ => .refl s)
  | grantSent p | envelopeSent p | receiptSent p | readReplySent p => exact .keep (.completeIf p _ s)
  | noticeSent => exact .keep (.completeIf .ride _ s)
  | heartbeatExpiry p => exact .heartbeatExpiry p s
  | turnWindowExpiry p receiving => exact .turnWindowExpiry p receiving s
  | snapshotWindowExpiry p => exact .keep (.truncate p s)
  | selfReportFormed => exact .selfReportFormed s
  | arbiterHandOff => exact .arbiterHandOff s
  | reportApplied => exact .reportApplied s
  | scanDue | sampleComplete value | falling dcLink | rising dcLink =>
    exact .keep (.ite (fun _ => .of_frame) fun _ => .refl s)
  | noticeDelayExpiry | absoluteDelayExpiry | relaxHoldExpiry | parkedHoldExpiry =>
    dsimp only [exec, execNoticeDelayExpiry, execAbsoluteDelayExpiry, execRelaxHoldExpiry, execParkedHoldExpiry]
    split
    · exact .keep .of_frame
    · exact .keep (.refl s)
  | confirmWindowExpiry e | healHoldExpiry e =>
    dsimp only [exec, execConfirmWindowExpiry, execHealHoldExpiry]
    split
    · exact .keep (.retireEntry e _ s)
    all_goals exact .keep (.refl s)
  | adoptionWindowExpiry p | mismatchTimerExpiry =>
    dsimp only [exec, execAdoptionWindowExpiry, execMismatchTimerExpiry]
    split
    · exact .keep .of_frame
    · exact .keep .of_frame
    all_goals exact .keep (.refl s)

/-- One millisecond takes from the windows of the assemblies and the timers of the entries only (log 1). -/
theorem State.tick_pool (s : State) : PoolKept s s.tick := by
  unfold State.tick
  refine .ite (fun _ => .refl s) fun _ => ?_
  have slot (p : Station) : (s.pass.slot p).assembly =
      (s.slot p).assembly.map fun a => { a with window := a.window - 1 } := by
    simp [State.slot, State.pass, LongSlot.pass]
  have entry (e : Fin 48) : s.pass.entry e = (s.entry e).pass := by
    simp [State.entry, State.pass, FaultTable.pass]
  have same (e : Fin 48) : State.entry { s.pass with intake := s.intake } e = (s.entry e).pass := entry e
  have kept : PoolKept s { s.pass with intake := s.intake } :=
    .of_entries (fun e => by rw [same]; rfl) (fun e => by rw [same]; exact id) rfl rfl rfl rfl
  refine ⟨fun ⟨long, free, fits, named⟩ => ⟨long, free, fun p a ha => ?_, fun b p hb => ?_⟩, kept.owned⟩
  · rw [slot, Option.map_eq_some_iff] at ha
    obtain ⟨x, hx, rfl⟩ := ha
    exact fits p x hx
  · obtain ⟨a, ha, buffer⟩ := named b p hb
    exact ⟨{ a with window := a.window - 1 }, by rw [slot, ha]; rfl, buffer⟩

theorem PoolMoves.ownedKept {s t : State} (h : PoolKept s t) (hs : BuffersOwned s) : BuffersOwned t := by
  rw [buffersOwned_iff] at hs ⊢
  exact h.owned hs.1 hs.2

/-- Settles O57, by what each command makes of the pool (`exec_pool`) and by the tick. -/
theorem everyStepKeepsTheSnapshotPool : Obligations.EveryStepKeepsTheSnapshotPool := by
  intro s t h
  obtain ⟨-, rfl⟩ | ⟨c, rest, -, he⟩ := step_cases h
  · exact ⟨s.tick_pool.fit, s.tick_pool.ownedKept⟩
  · obtain ⟨u, hu, kept⟩ := exec_pool c { s with pending := rest }
    cases he.symm.trans hu
    exact ⟨fun hs => kept.fit hs, fun hs => kept.ownedKept hs⟩

end Sys2Proof.Machine
end

section
/-!
PROOFS. SELF reports and the intake arbiter: which record a SELF report is formed from, which queue the arbiter chooses, and what
handing over its head leaves.
-/
namespace Sys2Proof.Machine

open Sys2Proof

/-! ### SELF reports -/

/-- The lowest index of a table that satisfies a test. -/
theorem firstAt_eq_some {α : Type} {n : Nat} {f : α → Bool} {v : Vector α n} {i : Fin n} (holds : f v[i] = true)
    (lower : ∀ j < i, f v[j] = false) : firstAt f v = some i := by
  obtain ⟨before, after, split⟩ := List.append_of_mem (List.mem_finRange i)
  refine List.find?_eq_some_iff_append.2 ⟨holds, before, after, split, fun j hj => ?_⟩
  have sorted := List.pairwise_lt_finRange n
  rw [split, List.pairwise_append] at sorted
  have := lower j (sorted.2.2 j hj i List.mem_cons_self)
  rw [this]
  rfl

theorem firstAt_eq_none {α : Type} {n : Nat} {f : α → Bool} {v : Vector α n} (h : ∀ i : Fin n, f v[i] = false) :
    firstAt f v = none := by
  refine List.find?_eq_none.2 fun i _ => ?_
  rw [h i]
  decide

/-- A record's level is taken as carried, and no other record changes (R53). -/
theorem State.markSent_cond (k : Fin 24) (s : State) :
    (s.markSent k).cond k = { s.cond k with unsent := false } ∧ ∀ j, j ≠ k → (s.markSent k).cond j = s.cond j :=
  ⟨getElem_putAt_same .., fun _ hj => getElem_putAt_ne _ _ hj⟩

/-- Checks 3 to 5 of R38, passed. -/
theorem State.pairRefusal_eq_none (s : State) (q : Source) (zone : Fin 16) (cls : Fin 32) :
    s.pairRefusal q zone cls = none ↔ (s.classOf cls).assigned = true ∧ (s.zoneOf zone).valid = true ∧
      (s.zoneOf zone).reporters.has q = true := by
  unfold State.pairRefusal
  cases (s.classOf cls).assigned <;> cases (s.zoneOf zone).valid <;> cases (s.zoneOf zone).reporters.has q <;> simp

/-- Settles O26: the record is the lowest with its flag set (`firstAt_eq_some`), and its report is queued when it passes the
checks. -/
theorem selfReportIsFormed : Obligations.SelfReportIsFormed := by
  intro k s running room unsent lower zone cls admissible
  obtain ⟨sent, others⟩ := State.markSent_cond k s
  have first : s.firstUnsent = some k := firstAt_eq_some unsent lower
  have formed : exec .selfReportFormed s = .next (s.formSelf k) := by
    simp [exec, execSelfReportFormed, running, shortQueueMax, room, first]
  refine ⟨_, formed, ?_⟩
  unfold State.formSelf
  by_cases ok : admissible
  · have passes : s.pairRefusal .self (s.selfReport k).zone (s.selfReport k).cls = none :=
      (s.pairRefusal_eq_none .self zone cls).2 ok
    simp only [passes]
    refine ⟨sent, others, fun _ => State.queue_setQueue .., fun h => absurd ok h,
      fun q hq => State.queue_setQueue_ne _ _ hq, rfl⟩
  · obtain ⟨v, fails⟩ := Option.ne_none_iff_exists'.1
      (mt (s.pairRefusal_eq_none .self zone cls).1 ok : s.pairRefusal .self zone cls ≠ none)
    have fails : s.pairRefusal .self (s.selfReport k).zone (s.selfReport k).cls = some v := fails
    simp only [fails]
    exact ⟨sent, others, fun h => absurd h ok, fun _ => rfl, fun _ _ => rfl, rfl⟩

/-! ### The queue that the arbiter chooses -/

/-- One comparison of step 1 of R55: a queue of 6 or more that is longer than the best so far is the best. -/
def State.fuller (s : State) (best : Option Source) (q : Source) : Option Source :=
  if (s.queue q).length < 6 then best
  else match best with
    | none => some q
    | some b => if (s.queue b).length < (s.queue q).length then some q else best

theorem State.fullest_eq (s : State) : s.fullest = [Source.self, .front, .rear, .pack, .ride].foldl s.fuller none := rfl

theorem State.fuller_first {s : State} {q : Source} (full : 6 ≤ (s.queue q).length) : s.fuller none q = some q :=
  if_neg (Nat.not_lt.2 full)

theorem State.fuller_better {s : State} {b q : Source} (full : 6 ≤ (s.queue q).length)
    (h : (s.queue b).length < (s.queue q).length) : s.fuller (some b) q = some q :=
  (if_neg (Nat.not_lt.2 full)).trans (if_pos h)

theorem State.fuller_kept {s : State} {b q : Source} (h : (s.queue q).length ≤ (s.queue b).length) :
    s.fuller (some b) q = some b := by
  unfold State.fuller
  split
  · rfl
  · exact if_neg (Nat.not_lt.2 h)

/-- The best of some queues is one of them, or the one to begin with. -/
theorem State.foldl_fuller_mem (s : State) (l : List Source) (best : Option Source) :
    l.foldl s.fuller best = best ∨ ∃ b ∈ l, l.foldl s.fuller best = some b := by
  induction l generalizing best with
  | nil => exact .inl rfl
  | cons x l ih =>
    have step : s.fuller best x = best ∨ s.fuller best x = some x := by
      unfold State.fuller
      repeat' split
      all_goals simp
    obtain h | ⟨b, hb, h⟩ := ih (s.fuller best x)
    · rw [List.foldl_cons, h]
      exact step.imp id fun e => ⟨x, by simp, e⟩
    · exact .inr ⟨b, List.mem_cons_of_mem _ hb, h⟩

theorem State.foldl_fuller_keep (s : State) {l : List Source} {best : Option Source}
    (h : ∀ x ∈ l, s.fuller best x = best) : l.foldl s.fuller best = best := by
  induction l with
  | nil => rfl
  | cons x l ih => rw [List.foldl_cons, h x (by simp), ih fun y hy => h y (by simp [hy])]

/-- A queue of 6 or more, longer than those before it and no shorter than those after it, is the best of them all. -/
theorem State.foldl_fuller_eq_some (s : State) {before after : List Source} {q : Source} (full : 6 ≤ (s.queue q).length)
    (hb : ∀ x ∈ before, (s.queue x).length < (s.queue q).length)
    (ha : ∀ x ∈ after, (s.queue x).length ≤ (s.queue q).length) : (before ++ q :: after).foldl s.fuller none = some q := by
  have here : s.fuller (before.foldl s.fuller none) q = some q := by
    obtain h | ⟨b, mem, h⟩ := s.foldl_fuller_mem before none
    · rw [h, State.fuller_first full]
    · rw [h, State.fuller_better full (hb b mem)]
  rw [List.foldl_append, List.foldl_cons, here]
  exact s.foldl_fuller_keep fun x hx => State.fuller_kept (ha x hx)

theorem State.chooseQueue_fullest {s : State} {q : Source} (full : 6 ≤ (s.queue q).length)
    (fullest : ∀ before after, [Source.self, .front, .rear, .pack, .ride] = before ++ q :: after →
      (∀ x ∈ before, (s.queue x).length < (s.queue q).length) ∧
      (∀ x ∈ after, (s.queue x).length ≤ (s.queue q).length)) : s.chooseQueue = some q := by
  obtain ⟨before, after, split⟩ := List.append_of_mem
    (show q ∈ [Source.self, .front, .rear, .pack, .ride] by cases q <;> decide)
  obtain ⟨hb, ha⟩ := fullest before after split
  have : s.fullest = some q := by rw [s.fullest_eq, split, s.foldl_fuller_eq_some full hb ha]
  simp [State.chooseQueue, this]

theorem State.chooseQueue_rotation {s : State} {q : Source} (waits : s.queue q ≠ [])
    (short : ∀ x, (s.queue x).length < 6)
    (next : ∀ before after, rotationAfter s.intake.rotation = before ++ q :: after → ∀ x ∈ before, s.queue x = []) :
    s.chooseQueue = some q := by
  have none : s.fullest = none := s.foldl_fuller_keep fun x _ => if_pos (short x)
  obtain ⟨before, after, split⟩ := List.append_of_mem
    (show q ∈ rotationAfter s.intake.rotation by cases s.intake.rotation <;> cases q <;> decide)
  have : s.nextInRotation = some q := List.find?_eq_some_iff_append.2
    ⟨by simpa using waits, before, after, split, fun x hx => by simp [next before after split x hx]⟩
  simp [State.chooseQueue, none, this]

/-! ### The head handed over -/

/-- `t` is `s` with report `r`, the head of queue `q` before `rest`, handed over: `left` reports of the allowance are left, and
the rotation position is `rotation` (R55, R56; log 17). -/
structure HandsOver (q : Source) (r : QReport) (rest : List QReport) (left : Nat) (rotation : Source) (s t : State) : Prop where
  faults : t.faults = { s.faults with applying := some r }
  queue : t.queue q = rest
  others : ∀ x, x ≠ q → t.queue x = s.queue x
  rotation : t.intake.rotation = rotation
  current : t.intake.current = if left = 0 ∨ rest = [] then none else some q
  allowance : t.intake.allowance = if left = 0 ∨ rest = [] then 0 else left
  frame : t = { s with intake := t.intake, faults := t.faults }
  conds : t.intake.conds = s.intake.conds
  slots : t.intake.slots = s.intake.slots

theorem State.handHead_handsOver {q : Source} {r : QReport} {rest : List QReport} {s : State} (h : s.queue q = r :: rest) :
    HandsOver q r rest (s.intake.allowance - 1) s.intake.rotation s (s.handHead q) := by
  have spent : (decide (s.intake.allowance ≤ 1) || rest.isEmpty) = true ↔ s.intake.allowance - 1 = 0 ∨ rest = [] := by
    rw [Bool.or_eq_true, decide_eq_true_eq, List.isEmpty_iff]
    exact or_congr (by omega) Iff.rfl
  unfold State.handHead
  simp only [h, spent]
  exact ⟨rfl, State.queue_setQueue .., fun x hx => State.queue_setQueue_ne s rest hx, rfl, rfl, rfl, rfl, rfl, rfl⟩

theorem exec_arbiterHandOff {s : State} (running : s.running = true) (idle : s.faults.applying = none) :
    exec .arbiterHandOff s = .next s.handOff := by
  simp [exec, execArbiterHandOff, running, idle]

/-- A queue that is chosen where none is current hands over its head, within its weight (R55). -/
theorem State.handOff_chosen {q : Source} {r : QReport} {rest : List QReport} {s : State} (h : s.queue q = r :: rest)
    (none : s.intake.current = none) (chosen : s.chooseQueue = some q) :
    HandsOver q r rest (s.config.weights.get q - 1) q s s.handOff := by
  have moved : s.handOff = (s.makeCurrent q).handHead q := by simp [State.handOff, none, chosen]
  obtain ⟨h1, h2, h3, h4, h5, h6, h7, h8, h9⟩ := State.handHead_handsOver (s := s.makeCurrent q) h
  rw [moved]
  exact ⟨h1, h2, h3, h4, h5, h6, h7, h8, h9⟩

/-- Settles O27: the current queue goes on, or the one that step 1 or step 2 of R55 chooses becomes current. -/
theorem arbiterHandsTheChosenHead : Obligations.ArbiterHandsTheChosenHead := by
  intro q r rest s running idle head handed
  rw [exec_arbiterHandOff running idle]
  have told {left : Nat} {rotation : Source} {t : State} (h : HandsOver q r rest left rotation s t) :
      handed left rotation t := by
    obtain ⟨h1, h2, h3, h4, h5, h6, h7, h8, h9⟩ := h
    exact ⟨h1, h2, h3, h4, h5, h6, h7, h8, h9⟩
  refine ⟨fun current => ⟨_, rfl, told ?_⟩, fun none full fullest => ⟨_, rfl, told ?_⟩,
    fun none short next => ⟨_, rfl, told ?_⟩⟩
  · have goesOn : s.handOff = s.handHead q := by simp [State.handOff, current]
    rw [goesOn]
    exact State.handHead_handsOver head
  · exact State.handOff_chosen head none (State.chooseQueue_fullest full fullest)
  · exact State.handOff_chosen head none (State.chooseQueue_rotation (by simp [head]) short next)

end Sys2Proof.Machine
end

section
/-!
PROOFS. Truncation, the six cases of a SNAPSHOT, and the snapshot window.
-/
namespace Sys2Proof.Machine

open Sys2Proof

/-! ### Truncation -/

theorem State.truncate_free {p : Station} {s : State} (free : (s.slot p).assembly = none) : s.truncate p = s := by
  simp [State.truncate, free]

theorem State.truncate_unnamed {p : Station} {a : Assembly} {s : State} (open' : (s.slot p).assembly = some a)
    (unnamed : a.buffer = none) : s.truncate p = s.setSlot p ⟨none, .dropped⟩ := by
  simp [State.truncate, open', unnamed, State.endAssembly]

theorem State.truncate_named {p : Station} {a : Assembly} {b : Fin 8} {s : State}
    (open' : (s.slot p).assembly = some a) (named : a.buffer = some b) :
    s.truncate p = ((s.dropOwner b).freeBuffer b).endAssembly p .truncated := by
  simp [State.truncate, open', named]

/-- A truncated assembly's buffer is FREE, and the others are as before (R43, R47). -/
theorem State.truncate_buffers {p : Station} {a : Assembly} {b : Fin 8} {s : State}
    (open' : (s.slot p).assembly = some a) (named : a.buffer = some b) :
    (s.truncate p).slot p = ⟨none, .truncated⟩ ∧ (s.truncate p).buffer b = ⟨.free, none, 0, [], false⟩ ∧
      ∀ b', b' ≠ b → (s.truncate p).buffer b' = s.buffer b' := by
  have freed := State.freeBuffer_freed b (s.dropOwner b)
  rw [State.truncate_named open' named]
  exact ⟨State.slot_setSlot .., freed.free b rfl,
    fun c hc => (freed.spared c hc).trans (State.buffer_congr (State.dropOwner_pool b s) c)⟩

/-- What loses the buffer of a truncated assembly (R47): the queued report or the report in application, or the entry. -/
theorem State.truncate_owner {p : Station} {a : Assembly} {b : Fin 8} {s : State}
    (open' : (s.slot p).assembly = some a) (named : a.buffer = some b) :
    (s.truncate p).intake.queues = (s.dropOwner b).intake.queues ∧ (s.truncate p).faults = (s.dropOwner b).faults := by
  simp [State.truncate_named open' named]

/-- No report is bound to a buffer that has been unbound (R47). -/
theorem State.unbindReport_ne (b : Fin 8) (r : QReport) : (State.unbindReport b r).buffer ≠ some b := by
  unfold State.unbindReport
  split
  · simp
  · assumption

theorem State.unbind_reports (b : Fin 8) (s : State) : (∀ x, ∀ r ∈ (s.unbind b).queue x, r.buffer ≠ some b) ∧
    ∀ r, (s.unbind b).faults.applying = some r → r.buffer ≠ some b := by
  refine ⟨fun x r hr => ?_, fun r hr => ?_⟩
  · simp only [State.queue, State.unbind, PerSource.get_map, List.mem_map] at hr
    obtain ⟨r', -, rfl⟩ := hr
    exact State.unbindReport_ne b r'
  · simp only [State.unbind, Option.map_eq_some_iff] at hr
    obtain ⟨r', -, rfl⟩ := hr
    exact State.unbindReport_ne b r'

theorem State.dropOwner_length (b : Fin 8) (s : State) (q : Source) :
    ((s.dropOwner b).queue q).length = (s.queue q).length := by
  unfold State.dropOwner
  split
  · simp [State.queue, State.unbind]
  · rfl
  · rfl

/-- Truncation leaves every report in its queue (R47). -/
theorem State.truncate_length (p : Station) (s : State) (q : Source) :
    ((s.truncate p).queue q).length = (s.queue q).length := by
  unfold State.truncate
  split
  · rfl
  · split
    · rfl
    · next b _ =>
      have queues : (((s.dropOwner b).freeBuffer b).endAssembly p .truncated).intake.queues =
          (s.dropOwner b).intake.queues := by simp
      rw [State.queue, queues]
      exact s.dropOwner_length b q

/-- Settles O25, by what truncation makes of the assembly, its buffer, and the buffer's owner. -/
theorem snapshotWindowExpiryTruncates : Obligations.SnapshotWindowExpiryTruncates := by
  intro p a s open'
  refine ⟨fun unnamed => congrArg Host.Outcome.next (State.truncate_unnamed open' unnamed), fun b named => ?_⟩
  obtain ⟨slot, buffer, spared⟩ := State.truncate_buffers open' named
  obtain ⟨queues, faults⟩ := State.truncate_owner open' named
  refine ⟨s.truncate p, rfl, slot, buffer, spared, fun q pending => ?_, fun e owner => ?_, s.truncate_length p,
    by simp, by simp, by simp, by simp, by simp, by simp, by simp, by simp, by simp, by simp⟩
  · have dropped : s.dropOwner b = s.unbind b := by simp [State.dropOwner, pending]
    obtain ⟨queued, applied⟩ := State.unbind_reports b s
    rw [dropped] at queues faults
    refine ⟨fun x r hr => queued x r ?_, fun r hr => applied r ?_, ?_⟩
    · rwa [State.queue, queues] at hr
    · rwa [faults] at hr
    · rw [faults]
      simp
  · have dropped : s.dropOwner b = s.loseSnapshot e := by simp [State.dropOwner, owner]
    rw [dropped] at queues faults
    refine ⟨?_, fun i hi => ?_, ?_⟩
    · rw [State.entry_congr faults]
      exact State.entry_setEntry ..
    · rw [State.entry_congr faults]
      exact State.entry_setEntry_ne _ _ hi
    · rw [queues]
      simp

/-! ### A SNAPSHOT in a turn -/

theorem exec_snapshot_takes {p : Station} {s : State} (payload : List Byte) (h : s.takes p) :
    exec (.snapshot p false payload) s = .next (((s.counted p).judgeSnapshot p payload).1.addVerdict p
      ((s.counted p).judgeSnapshot p payload).2) :=
  congrArg Host.Outcome.next (State.receipted_takes h)

/-- The payloads that are a segment: a segment index and 1 to 60 bytes of data (case 2 of R45). -/
theorem parseSegment_segment {i : Byte} {d : List Byte} (low : 1 ≤ d.length) (high : d.length ≤ 60) :
    parseSegment (i :: d) = if i.toNat ≤ 3 then some (i.toNat, d) else none := by
  cases d with
  | nil => cases low
  | cons x d =>
    have : d.length ≤ 59 := Nat.le_of_succ_le_succ high
    simp [parseSegment, this]

theorem parseSegment_bad {payload : List Byte} (h : payload.length < 2 ∨ 61 < payload.length) :
    parseSegment payload = none := by
  unfold parseSegment
  split
  · refine if_neg ?_
    simp only [List.length_cons] at h
    simp only [Bool.and_eq_true, decide_eq_true_eq]
    omega
  · rfl

theorem State.judgeSnapshot_idle {p : Station} {s : State} (payload : List Byte) (idle : s.running = false) :
    s.judgeSnapshot p payload = (s, .wrongState) := by
  simp [State.judgeSnapshot, idle]

theorem State.judgeSnapshot_malformed {p : Station} {payload : List Byte} {s : State} (running : s.running = true)
    (bad : parseSegment payload = none) : s.judgeSnapshot p payload = (s.truncate p, .malformed) := by
  simp [State.judgeSnapshot, running, bad]

/-- A segment in range meets a FREE slot, is out of order or too long, or is taken (cases 3 to 6 of R45). -/
theorem State.judgeSnapshot_segment {p : Station} {payload : List Byte} {i : Nat} {d : List Byte} {s : State}
    (running : s.running = true) (good : parseSegment payload = some (i, d)) :
    ((s.slot p).assembly = none → s.judgeSnapshot p payload = (s, .snapshotDropped)) ∧
      ∀ a, (s.slot p).assembly = some a →
        (i ≠ a.next ∨ a.expected < a.received + d.length → s.judgeSnapshot p payload = (s.truncate p, .malformed)) ∧
        (i = a.next → a.received + d.length ≤ a.expected → s.judgeSnapshot p payload = s.takeSegment p a d) := by
  unfold State.judgeSnapshot
  simp only [running, good]
  refine ⟨fun free => by simp [free], fun a open' => ⟨fun bad => ?_, fun order room => ?_⟩⟩
  · simp [open', bad]
  · simp [open', order, Nat.not_lt.2 room]

theorem State.setSlot_setSlot (s : State) (p : Station) (x y : LongSlot) : (s.setSlot p x).setSlot p y = s.setSlot p y := by
  simp [State.setSlot, PerStation.put_put]

theorem putAt_putAt {α : Type} {n : Nat} (v : Vector α n) (i : Fin n) (x y : α) : putAt (putAt v i x) i y = putAt v i y :=
  Vector.set_set ..

theorem State.setBuffer_setBuffer (s : State) (b : Fin 8) (x y : Buffer) :
    (s.setBuffer b x).setBuffer b y = s.setBuffer b y := by
  simp [State.setBuffer, putAt_putAt]

/-- A segment without a buffer to go to is counted, and ends the assembly when it is the last (case 5 of R45). -/
theorem State.takeSegment_unnamed {p : Station} {a : Assembly} {d : List Byte} {s : State} (unnamed : a.buffer = none) :
    s.takeSegment p a d = (s.setSlot p
      (if a.received + d.length = a.expected then ⟨none, .dropped⟩
        else ⟨some { a with next := a.next + 1, received := a.received + d.length }, (s.slot p).outcome⟩),
      .snapshotDropped) := by
  unfold State.takeSegment State.countSegment State.endAssembly
  simp only [unnamed, State.setSlot_setSlot]
  split <;> rfl

/-- A segment is appended to the buffer, and completes it when it is the last (case 6 of R45, R46). -/
theorem State.takeSegment_named {p : Station} {a : Assembly} {b : Fin 8} {d : List Byte} {s : State}
    (named : a.buffer = some b) :
    s.takeSegment p a d = (if a.received + d.length = a.expected
      then (s.setBuffer b { s.buffer b with data := (s.buffer b).data ++ d, complete := true, writer := none }).setSlot
        p ⟨none, .complete⟩
      else (s.setBuffer b { s.buffer b with data := (s.buffer b).data ++ d }).setSlot
        p ⟨some { a with next := a.next + 1, received := a.received + d.length }, (s.slot p).outcome⟩, .taken) := by
  have counted (x : LongSlot) : ((s.setSlot p x).writeData b d) =
      (s.setBuffer b { s.buffer b with data := (s.buffer b).data ++ d }).setSlot p x := rfl
  have completed (x : LongSlot) (y : Buffer) : ((s.setBuffer b y).setSlot p x).completeAssembly b p =
      (s.setBuffer b { y with complete := true, writer := none }).setSlot p ⟨none, .complete⟩ := by
    have buffer : ((s.setBuffer b y).setSlot p x).buffer b = y := State.buffer_setBuffer s b y
    unfold State.completeAssembly State.endAssembly
    rw [buffer]
    calc _ = (((s.setBuffer b y).setBuffer b { y with complete := true, writer := none }).setSlot p x).setSlot p
          ⟨none, .complete⟩ := rfl
      _ = _ := by rw [State.setSlot_setSlot, State.setBuffer_setBuffer]
  unfold State.takeSegment State.countSegment
  simp only [named, counted, completed]

/-- A change of a slot, or of a buffer and a slot, and a frame counted and answered, in either order. -/
theorem State.counted_setSlot_addVerdict (s : State) (p : Station) (x : LongSlot) (v : Verdict) :
    ((s.counted p).setSlot p x).addVerdict p v = State.answered (s.setSlot p x) p v :=
  State.counted_addVerdict (s.setSlot p x) p v

theorem State.counted_setBuffer_addVerdict (s : State) (b : Fin 8) (y : Buffer) (p : Station) (x : LongSlot) (v : Verdict) :
    (((s.counted p).setBuffer b y).setSlot p x).addVerdict p v = State.answered ((s.setBuffer b y).setSlot p x) p v :=
  State.counted_addVerdict ((s.setBuffer b y).setSlot p x) p v

/-- Settles O24: what truncation leaves, and the cases in the order in which a segment is judged. -/
theorem snapshotSegmentCases : Obligations.SnapshotSegmentCases := by
  refine ⟨fun p s => ⟨State.truncate_free, fun a open' => ⟨State.truncate_unnamed open', fun b named => ?_⟩⟩,
    fun p payload s takes => ⟨fun idle => ?_, fun running bad => ?_, ?_⟩⟩
  · obtain ⟨slot, buffer, spared⟩ := State.truncate_buffers open' named
    exact ⟨slot, buffer, spared, by simp⟩
  · rw [exec_snapshot_takes payload takes, State.judgeSnapshot_idle payload (s := s.counted p) idle,
      State.counted_addVerdict]
  · rw [exec_snapshot_takes payload takes,
      State.judgeSnapshot_malformed (s := s.counted p) running (parseSegment_bad bad)]
  · rintro i d rfl low high running
    have parsed := parseSegment_segment (i := i) low high
    rw [exec_snapshot_takes _ takes]
    refine ⟨fun large => ?_, fun small free => ?_, fun a small open' => ?_⟩
    · rw [if_neg (by omega)] at parsed
      rw [State.judgeSnapshot_malformed (s := s.counted p) running parsed]
    · rw [if_pos small] at parsed
      rw [(State.judgeSnapshot_segment (s := s.counted p) running parsed).1 free, State.counted_addVerdict]
    · rw [if_pos small] at parsed
      obtain ⟨refused, taken⟩ := (State.judgeSnapshot_segment (s := s.counted p) running parsed).2 a open'
      refine ⟨fun bad => by rw [refused bad], fun order room unnamed => ?_, fun b order room named => ?_⟩
      · rw [taken order room, State.takeSegment_unnamed unnamed, State.counted_setSlot_addVerdict]
        rfl
      · rw [taken order room, State.takeSegment_named named]
        dsimp only
        split
        · exact congrArg Host.Outcome.next (State.counted_setBuffer_addVerdict ..)
        · exact congrArg Host.Outcome.next (State.counted_setBuffer_addVerdict ..)

end Sys2Proof.Machine
end

section
/-!
PROOFS. A REPORT in a turn: its checks in order, the assembly that an announcing one opens, and the report queued.
-/
namespace Sys2Proof.Machine

open Sys2Proof

theorem exec_report_takes {p : Station} {s : State} (payload : List Byte) (h : s.takes p) :
    exec (.report p false payload) s = .next (((s.counted p).judgeReport p payload).1.addVerdict p
      ((s.counted p).judgeReport p payload).2) :=
  congrArg Host.Outcome.next (State.receipted_takes h)

/-! ### Checks 1 and 2 of R38 -/

theorem parseReport_length {payload : List Byte} (h : payload.length ≠ 6) : parseReport payload = none := by
  refine Option.eq_none_iff_forall_ne_some.2 fun r hr => h ?_
  obtain ⟨_, _, _, _, _, _, rfl, -⟩ := (parseReport_eq_some payload r).1 hr
  rfl

theorem parseReport_range {z c o d1 d0 n : Byte} (h : 16 ≤ z.toNat ∨ 32 ≤ c.toNat ∨ 8 ≤ o.toNat ∨
    (o.getLsbD 2 = true ∧ (n.toNat = 0 ∨ 240 < n.toNat))) : parseReport [z, c, o, d1, d0, n] = none := by
  refine Option.eq_none_iff_forall_ne_some.2 fun r hr => ?_
  obtain ⟨_, _, _, _, _, _, same, hz, hc, ho, hn, -⟩ := (parseReport_eq_some _ r).1 hr
  cases same
  have := r.zone.isLt
  have := r.cls.isLt
  obtain h | h | h | ⟨announces, h⟩ := h
  · omega
  · omega
  · omega
  · have := hn announces
    omega

theorem State.judgeReport_idle {p : Station} {s : State} (payload : List Byte) (idle : s.running = false) :
    s.judgeReport p payload = (s, .wrongState) := by
  simp [State.judgeReport, idle]

theorem State.judgeReport_malformed {p : Station} {payload : List Byte} {s : State} (running : s.running = true)
    (bad : parseReport payload = none) : s.judgeReport p payload = (s, .malformed) := by
  simp [State.judgeReport, running, bad]

theorem State.judgeReport_fields {p : Station} {payload : List Byte} {r : ReportFields} {s : State}
    (running : s.running = true) (good : parseReport payload = some r) :
    s.judgeReport p payload = (s.openAssembly p r.announced).admitReport p r := by
  simp [State.judgeReport, running, good]

/-! ### Checks 3 to 6 of R38 -/

/-- Opening an assembly changes nothing that the checks look at. -/
theorem State.openAssembly_checks (p : Station) (announced : Option Nat) (s : State) :
    (∀ q zone cls, (s.openAssembly p announced).pairRefusal q zone cls = s.pairRefusal q zone cls) ∧
      ∀ q, ((s.openAssembly p announced).queue q).length = (s.queue q).length := by
  refine ⟨fun q zone cls => ?_, fun q => ?_⟩
  · have config : (s.openAssembly p announced).config = s.config := by simp
    unfold State.pairRefusal State.classOf State.zoneOf
    rw [config]
  · unfold State.openAssembly
    split
    · rfl
    · exact s.truncate_length p q

theorem State.admitReport_refused {p : Station} {r : ReportFields} {v : Verdict} {s : State}
    (fails : s.pairRefusal p.source r.zone r.cls = some v) : s.admitReport p r = (s, v) := by
  simp [State.admitReport, fails]

theorem State.admitReport_full {p : Station} {r : ReportFields} {s : State}
    (passes : s.pairRefusal p.source r.zone r.cls = none) (full : 8 ≤ (s.queue p.source).length) :
    s.admitReport p r = (s, .queueFull) := by
  simp [State.admitReport, passes, shortQueueMax, full]

theorem State.admitReport_accepted {p : Station} {r : ReportFields} {s : State}
    (passes : s.pairRefusal p.source r.zone r.cls = none) (room : (s.queue p.source).length < 8) :
    s.admitReport p r = s.acceptReport p r := by
  simp [State.admitReport, passes, shortQueueMax, Nat.not_le.2 room]

/-- The first of checks 3 to 5 that fails (R38). -/
theorem State.pairRefusal_eq (s : State) (q : Source) (zone : Fin 16) (cls : Fin 32) :
    ((s.classOf cls).assigned = false → s.pairRefusal q zone cls = some .unknownClass) ∧
      ((s.classOf cls).assigned = true → (s.zoneOf zone).valid = false → s.pairRefusal q zone cls = some .unknownZone) ∧
      ((s.classOf cls).assigned = true → (s.zoneOf zone).valid = true → (s.zoneOf zone).reporters.has q = false →
        s.pairRefusal q zone cls = some .notPermitted) := by
  unfold State.pairRefusal
  exact ⟨fun h => by simp [h], fun h g => by simp [h, g], fun h g k => by simp [h, g, k]⟩

/-! ### A report that is queued -/

theorem State.acceptReport_plain {p : Station} {r : ReportFields} {s : State} (plain : r.announced = none) :
    s.acceptReport p r = (s.enqueue (s.reportOf p r none), .taken) := by
  simp [State.acceptReport, plain]

/-- An announcing report is queued with the FREE buffer of the lowest index, or without one (R39, R40). -/
theorem State.acceptReport_announced {p : Station} {r : ReportFields} {n : Nat} (s : State) (hn : r.announced = some n) :
    s.acceptReport p r = ((s.freeBufferIndex.elim s fun b => s.lend b p n).enqueue (s.reportOf p r s.freeBufferIndex),
      if s.freeBufferIndex.isSome then .taken else .takenNoBuffer) := by
  unfold State.acceptReport
  simp only [hn]
  cases s.freeBufferIndex <;> rfl

/-- The record joins the tail of its source's queue, with a buffer or without one (R40). -/
theorem State.queue_enqueue_lent (b : Option (Fin 8)) (p : Station) (n : Nat) (r : QReport) (s : State) :
    ((b.elim s fun b => s.lend b p n).enqueue r).queue r.source = s.queue r.source ++ [r] := by
  cases b <;> exact State.queue_setQueue ..

theorem State.ports_enqueue_lent (b : Option (Fin 8)) (p : Station) (n : Nat) (r : QReport) (s : State) :
    ((b.elim s fun b => s.lend b p n).enqueue r).ports = s.ports := by
  cases b <;> rfl

/-- A buffer lent to an assembly is the assembly's buffer (R39). -/
theorem State.slot_lend {p : Station} {a : Assembly} {o : SlotOutcome} (b : Fin 8) (n : Nat) {s : State}
    (h : s.slot p = ⟨some a, o⟩) : (s.lend b p n).slot p = ⟨some { a with buffer := some b }, o⟩ := by
  simp [State.lend, h]

/-- What a REPORT with fields in range is answered, in a turn in RUN. -/
theorem exec_report_fields {p : Station} {payload : List Byte} {r : ReportFields} {s : State} (takes : s.takes p)
    (running : s.running = true) (good : parseReport payload = some r) :
    let opened := (s.counted p).openAssembly p r.announced
    (∀ v, s.pairRefusal p.source r.zone r.cls = some v →
      exec (.report p false payload) s = .next (opened.addVerdict p v)) ∧
    (s.pairRefusal p.source r.zone r.cls = none → 8 ≤ (s.queue p.source).length →
      exec (.report p false payload) s = .next (opened.addVerdict p .queueFull)) ∧
    (s.pairRefusal p.source r.zone r.cls = none → (s.queue p.source).length < 8 →
      exec (.report p false payload) s = .next ((opened.acceptReport p r).1.addVerdict p (opened.acceptReport p r).2)) := by
  obtain ⟨pair, length⟩ := State.openAssembly_checks p r.announced (s.counted p)
  rw [exec_report_takes payload takes, State.judgeReport_fields (s := s.counted p) running good]
  refine ⟨fun v fails => ?_, fun passes full => ?_, fun passes room => ?_⟩
  · rw [State.admitReport_refused ((pair ..).trans fails)]
  · rw [State.admitReport_full ((pair ..).trans passes) (full.trans (length _).ge)]
  · rw [State.admitReport_accepted ((pair ..).trans passes) ((length _).trans_lt room)]

/-- A verdict of a frame in a turn stands last in the turn's list (R26). -/
theorem State.addVerdict_verdicts {p : Station} (v : Verdict) {s t : State} (h : t.ports = (s.counted p).ports) :
    ((t.addVerdict p v).port p).verdicts = (s.port p).verdicts ++ [v] := by
  rw [State.addVerdict, State.port_modPort, State.port_congr h, State.counted_port]

/-- A report that announces no snapshot and passes the checks joins its queue and is TAKEN (R40). -/
theorem exec_report_plain {p : Station} {payload : List Byte} {r : ReportFields} {s : State} (takes : s.takes p)
    (running : s.running = true) (good : parseReport payload = some r) (plain : r.announced = none)
    (passes : s.pairRefusal p.source r.zone r.cls = none) (room : (s.queue p.source).length < 8) :
    exec (.report p false payload) s = .next (State.answered (s.setQueue p.source (s.queue p.source ++
      [⟨p.source, r.zone, r.cls, r.present, r.detail, s.device.clock, none⟩])) p .taken) := by
  obtain ⟨-, -, accepted⟩ := exec_report_fields takes running good
  rw [accepted passes room, State.acceptReport_plain plain, plain]
  exact congrArg Host.Outcome.next (State.counted_addVerdict (s.setQueue p.source _) p .taken)

/-- A report that announces a snapshot and passes the checks joins its queue, with the FREE buffer of the lowest index where
there is one, and is answered by whether there is (R39, R40). -/
theorem exec_report_announced {p : Station} {payload : List Byte} {r : ReportFields} {n : Nat} {s opened : State}
    {b : Option (Fin 8)} (takes : s.takes p) (running : s.running = true) (good : parseReport payload = some r)
    (hn : r.announced = some n) (passes : s.pairRefusal p.source r.zone r.cls = none)
    (room : (s.queue p.source).length < 8) (ho : (s.counted p).openAssembly p (some n) = opened)
    (hb : opened.freeBufferIndex = b) :
    exec (.report p false payload) s = .next (((b.elim opened fun b => opened.lend b p n).enqueue
      ⟨p.source, r.zone, r.cls, r.present, r.detail, s.device.clock, b⟩).addVerdict p
        (if b.isSome then .taken else .takenNoBuffer)) := by
  subst ho hb
  obtain ⟨-, -, accepted⟩ := exec_report_fields takes running good
  rw [accepted passes room, hn, State.acceptReport_announced _ hn, State.reportOf]
  simp

/-- Settles O22: checks 1 and 2 by what parses, checks 3 to 6 by `exec_report_fields`, and a report that passes them by
`exec_report_plain` and `exec_report_announced`. -/
theorem reportIsJudgedInOrder : Obligations.ReportIsJudgedInOrder := by
  intro p payload s takes
  refine ⟨fun idle => ?_, fun running length => ?_, ?_⟩
  · rw [exec_report_takes payload takes, State.judgeReport_idle (s := s.counted p) payload idle, State.counted_addVerdict]
  · rw [exec_report_takes payload takes, State.judgeReport_malformed (s := s.counted p) running (parseReport_length length),
      State.counted_addVerdict]
  rintro z c o d1 d0 n rfl running
  refine ⟨fun bad => ?_, ?_⟩
  · rw [exec_report_takes _ takes, State.judgeReport_malformed (s := s.counted p) running (parseReport_range bad),
      State.counted_addVerdict]
  intro zone cls hz hc ho hn open'
  have good := (parseReport_eq_some [z, c, o, d1, d0, n] ⟨zone, cls, o.getLsbD 0,
    if o.getLsbD 1 then some (d1 ++ d0) else none, if o.getLsbD 2 then some n.toNat else none⟩).2
    ⟨z, c, o, d1, d0, n, rfl, hz, hc, ho, hn, rfl⟩
  obtain ⟨refused, full, -⟩ := exec_report_fields takes running good
  obtain ⟨unassigned, invalid, other⟩ := s.pairRefusal_eq p.source zone cls
  have passes ha hv hr := (s.pairRefusal_eq_none p.source zone cls).2 ⟨ha, hv, hr⟩
  refine ⟨fun ha => refused _ (unassigned ha), fun ha hv => refused _ (invalid ha hv),
    fun ha hv hr => refused _ (other ha hv hr), fun ha hv hr long => full (passes ha hv hr) long,
    fun ha hv hr room plain => ?_, fun ha hv hr room announces => ?_⟩
  · exact exec_report_plain takes running good (if_neg (by rw [plain]; decide)) (passes ha hv hr) room
  · exact ⟨_, _, _, exec_report_announced takes running good (if_pos announces) (passes ha hv hr) room rfl rfl,
      State.queue_enqueue_lent .., (State.openAssembly_checks p _ (s.counted p)).2 p.source,
      State.addVerdict_verdicts _ ((State.ports_enqueue_lent ..).trans (by simp))⟩

/-! ### A buffer is borrowed -/

/-- An assembly opened on a FREE slot (R39). -/
theorem State.openAssembly_free {p : Station} (n : Nat) {s : State} (free : (s.slot p).assembly = none) :
    s.openAssembly p (some n) = s.setSlot p ⟨some ⟨n, 0, 0, none, 50⟩, (s.slot p).outcome⟩ := by
  simp [State.openAssembly, State.truncate_free free, snapshotWindowMs]

theorem State.freeBufferIndex_lowest {b : Fin 8} {s : State} (free : (s.buffer b).owner = .free)
    (lower : ∀ b' < b, (s.buffer b').owner ≠ .free) : s.freeBufferIndex = some b :=
  firstAt_eq_some (beq_iff_eq.2 free) fun b' hb => beq_eq_false_iff_ne.2 (lower b' hb)

theorem State.freeBufferIndex_none {s : State} (taken : ∀ b, (s.buffer b).owner ≠ .free) : s.freeBufferIndex = none :=
  firstAt_eq_none fun b => beq_eq_false_iff_ne.2 (taken b)

/-- Settles O23, by `exec_report_announced` on the assembly opened on a FREE slot, with the FREE buffer of the lowest index or
with none. -/
theorem announcingReportBorrowsABuffer : Obligations.AnnouncingReportBorrowsABuffer := by
  intro p payload r n s takes running good hn free passes room
  have opened := State.openAssembly_free n (s := s.counted p) free
  refine ⟨fun b lowest lower => ⟨_, exec_report_announced takes running good hn passes room opened
      (State.freeBufferIndex_lowest lowest lower), State.addVerdict_verdicts _ rfl, ?_⟩,
    fun taken => ⟨_, exec_report_announced takes running good hn passes room opened (State.freeBufferIndex_none taken),
      State.addVerdict_verdicts _ rfl, ?_⟩⟩
  · exact ⟨State.slot_lend _ _ (State.slot_setSlot ..), State.buffer_setBuffer .., fun _ hb => State.buffer_setBuffer_ne _ _ hb,
      State.queue_setQueue .., fun _ hq => State.queue_setQueue_ne _ _ hq, rfl, rfl, rfl, rfl⟩
  · exact ⟨State.slot_setSlot .., rfl, State.queue_setQueue .., rfl, rfl, rfl⟩

end Sys2Proof.Machine
end

section
/-!
PROOFS. The entries of the Fault Table: which pairs they hold and which roots they have (`TableKept`), what every command makes of
them (`exec_table`), and the statement on every step.
-/
namespace Sys2Proof.Machine

open Sys2Proof

/-! ### Entries that hold one pair in one state -/

/-- `y` holds the pair of `x` in the same state, and runs no timer where `x` runs none. -/
structure Entry.Alike (x y : Entry) : Prop where
  state : y.state = x.state
  zone : y.zone = x.zone
  cls : y.cls = x.cls
  timer : x.timer = .none → y.timer = .none

theorem Entry.Alike.refl (x : Entry) : x.Alike x := ⟨rfl, rfl, rfl, id⟩

theorem Entry.Alike.of_eq {x y : Entry} (h : y = x) : x.Alike y := h ▸ .refl x

theorem Entry.Alike.active {x y : Entry} (h : x.Alike y) : y.active = x.active := by
  unfold Entry.active
  rw [h.state]

/-- Roots are found from the pairs and the states of the entries (R102). -/
theorem rootOf_alike (c : Tables) {v w : Vector Entry 48} (h : ∀ i : Fin 48, v[i].Alike w[i]) (z : Fin 16) :
    rootOf c w z = rootOf c v z := by
  have same (a : Fin 16) : (fun i : Fin 48 => rootIn c.classes a w[i]) = fun i => rootIn c.classes a v[i] := by
    funext i
    obtain ⟨state, zone, cls, -⟩ := h i
    simp only [rootIn, Entry.concluded, state, zone, cls]
  unfold rootOf firstAt
  simp only [same]

theorem PairsDistinct.of_alike {s t : State} (h : ∀ e, (s.entry e).Alike (t.entry e)) (hs : PairsDistinct s) :
    PairsDistinct t := by
  obtain ⟨distinct, idle⟩ := hs
  refine ⟨fun i j hi hj hz hc => ?_, fun i hi => ?_⟩
  · rw [(h i).state] at hi
    rw [(h j).state] at hj
    rw [(h i).zone, (h j).zone] at hz
    rw [(h i).cls, (h j).cls] at hc
    exact distinct i j hi hj hz hc
  · rw [(h i).state] at hi
    exact (h i).timer (idle i hi)

theorem RootsHold.of_alike {s t : State} (h : ∀ e, (s.entry e).Alike (t.entry e))
    (hr : ∀ e, (t.entry e).root = (s.entry e).root) (hc : t.config = s.config)
    (hd : t.device.state = s.device.state) (hs : RootsHold s) : RootsHold t := by
  intro running e
  rw [hr, (h e).active, (h e).zone, hc, rootOf_alike s.config h, hs (hd ▸ running) e]

/-- Outside RUN nothing is said of roots. -/
theorem RootsHold.of_rest {s : State} (h : s.device.state ≠ .run) : RootsHold s := fun running => absurd running h

/-- No other entry that is not FREE holds the pair of one that is not FREE (R61). -/
theorem PairsDistinct.alone {s : State} (h : PairsDistinct s) {e : Fin 48} (used : (s.entry e).state ≠ .free) :
    ∀ i, i ≠ e → (s.entry i).state ≠ .free → ¬((s.entry i).zone = (s.entry e).zone ∧ (s.entry i).cls = (s.entry e).cls) :=
  fun i hi hu same => hi (h.1 i e hu used same.1 same.2)

/-- An entry changes, and takes no pair that another entry holds. -/
theorem PairsDistinct.setEntry {s : State} (h : PairsDistinct s) {e : Fin 48} {x : Entry}
    (idle : x.state = .free → x.timer = .none)
    (alone : x.state ≠ .free → ∀ i, i ≠ e → (s.entry i).state ≠ .free → ¬((s.entry i).zone = x.zone ∧ (s.entry i).cls = x.cls)) :
    PairsDistinct (s.setEntry e x) := by
  obtain ⟨distinct, stopped⟩ := h
  refine ⟨fun i j hi hj hz hc => ?_, fun i hi => ?_⟩
  · rw [State.entry_setEntry_eq] at hi hj hz hc
    rw [State.entry_setEntry_eq] at hz hc
    split at hi <;> split at hj
    · next ie je => rw [ie, je]
    · next ie je =>
      rw [if_pos ie, if_neg je] at hz hc
      exact absurd ⟨hz.symm, hc.symm⟩ (alone hi j je hj)
    · next ie je =>
      rw [if_neg ie, if_pos je] at hz hc
      exact absurd ⟨hz, hc⟩ (alone hj i ie hi)
    · next ie je =>
      rw [if_neg ie, if_neg je] at hz hc
      exact distinct i j hi hj hz hc
  · rw [State.entry_setEntry_eq] at hi ⊢
    split at hi
    · next ie =>
      rw [if_pos ie]
      exact idle hi
    · next ie =>
      rw [if_neg ie]
      exact stopped i hi

/-- An entry that is not FREE changes, keeps its pair, and stays so. -/
theorem PairsDistinct.setEntry_used {s : State} (h : PairsDistinct s) {e : Fin 48} {x : Entry}
    (before : (s.entry e).state ≠ .free) (after : x.state ≠ .free) (zone : x.zone = (s.entry e).zone)
    (cls : x.cls = (s.entry e).cls) : PairsDistinct (s.setEntry e x) :=
  h.setEntry (fun hf => absurd hf after) fun _ => by
    rw [zone, cls]
    exact h.alone before

/-! ### The lifecycle keeps the pair -/

theorem Entry.begin_pair (now : Clock) (k : FaultClass) (z : Zone) (e : Entry) :
    (e.begin now k z).zone = e.zone ∧ (e.begin now k z).cls = e.cls := by
  unfold Entry.begin Entry.confirm
  split <;> exact ⟨rfl, rfl⟩

theorem Entry.onPresent_pair (now : Clock) (k : FaultClass) (z : Zone) (r : QReport) (e : Entry) :
    (e.onPresent now k z r).zone = e.zone ∧ (e.onPresent now k z r).cls = e.cls := by
  unfold Entry.onPresent
  dsimp only
  split
  · split <;> exact ⟨rfl, rfl⟩
  all_goals exact ⟨rfl, rfl⟩

theorem Entry.heal_pair (now : Clock) (k : FaultClass) (e : Entry) :
    (e.heal now k).zone = e.zone ∧ (e.heal now k).cls = e.cls := by
  unfold Entry.heal
  split <;> exact ⟨rfl, rfl⟩

theorem Entry.onAbsent_pair (now : Clock) (k : FaultClass) (r : QReport) (e : Entry) :
    (e.onAbsent now k r).zone = e.zone ∧ (e.onAbsent now k r).cls = e.cls := by
  unfold Entry.onAbsent
  dsimp only
  split
  · split
    · split
      · exact ⟨rfl, rfl⟩
      · exact Entry.heal_pair ..
      all_goals exact ⟨rfl, rfl⟩
    · exact ⟨rfl, rfl⟩
  · exact ⟨rfl, rfl⟩

/-! ### Where a report lands -/

theorem firstAt_none {α : Type} {n : Nat} {f : α → Bool} {v : Vector α n} (h : firstAt f v = none) (i : Fin n) :
    f v[i] = false := by
  simpa using List.find?_eq_none.1 h i (List.mem_finRange i)

theorem Entry.holds_iff (x : Entry) (zone : Fin 16) (cls : Fin 32) :
    x.holds zone cls = true ↔ x.state ≠ .free ∧ x.zone = zone ∧ x.cls = cls := by
  simp [Entry.holds, Entry.used, and_assoc]

/-- A pair that no entry holds is found on none (R61). -/
theorem FaultTable.lookup_eq_none {t : FaultTable} {zone : Fin 16} {cls : Fin 32} : t.lookup zone cls = none ↔
    ∀ i : Fin 48, t.entries[i].state ≠ .free → ¬(t.entries[i].zone = zone ∧ t.entries[i].cls = cls) := by
  refine ⟨fun h i used same => ?_, fun h => firstAt_eq_none fun i => ?_⟩
  · have := firstAt_none h i
    rw [(Entry.holds_iff ..).2 ⟨used, same⟩] at this
    cases this
  · rw [← Bool.not_eq_true, Entry.holds_iff]
    exact fun ⟨used, same⟩ => h i used same

/-- The entry of a pair holds it (R61). -/
theorem FaultTable.lookup_holds {t : FaultTable} {zone : Fin 16} {cls : Fin 32} {e : Fin 48}
    (h : t.lookup zone cls = some e) : t.entries[e].state ≠ .free ∧ t.entries[e].zone = zone ∧ t.entries[e].cls = cls :=
  (Entry.holds_iff ..).1 (firstAt_some h)

theorem State.entry_freeEntry (e i : Fin 48) (s : State) :
    (s.freeEntry e).entry i = if i = e then Entry.free else s.entry i := by
  rw [State.freeEntry, State.entry_setEntry_eq, State.entry_congr (s := s) (by simp)]

theorem PairsDistinct.freeEntry {s : State} (h : PairsDistinct s) (e : Fin 48) : PairsDistinct (s.freeEntry e) :=
  (h.of_alike (t := s.freeSnapshot (s.entry e).snapshot) fun i => .of_eq (State.entry_congr (by simp) i)).setEntry
    (fun _ => rfl) fun used => absurd rfl used

theorem PairsDistinct.freeRetired {s : State} (h : PairsDistinct s) : PairsDistinct s.freeRetired :=
  foldl_holds PairsDistinct (fun t e ht => by
    unfold State.freeIfRetired
    split
    · exact ht.freeEntry e
    · exact ht) _ s h

/-- An entry is opened for a pair that no entry holds (R64). -/
theorem PairsDistinct.openEntry {s : State} (h : PairsDistinct s) (e : Fin 48) {r : QReport}
    (new : ∀ i, (s.entry i).state ≠ .free → ¬((s.entry i).zone = r.zone ∧ (s.entry i).cls = r.cls)) :
    PairsDistinct (s.openEntry e r) := by
  obtain ⟨zone, cls⟩ := Entry.begin_pair s.device.clock (s.classOf r.cls) (s.zoneOf r.zone) (Entry.opened s.device.clock r)
  refine h.setEntry (fun hf => absurd hf (Entry.begin_kept ..).2) fun _ i _ used => ?_
  rw [zone, cls]
  exact new i used

theorem PairsDistinct.landPresent {s : State} (h : PairsDistinct s) (r : QReport) : PairsDistinct (s.landPresent r).1 := by
  unfold State.landPresent
  dsimp only
  split
  · next e found =>
    have used : (s.entry e).state ≠ .free := FaultTable.lookup_used found
    split
    · obtain ⟨zone, cls⟩ := Entry.begin_pair s.device.clock (s.classOf (s.entry e).cls) (s.zoneOf (s.entry e).zone)
        ((s.entry e).reopened s.device.clock r)
      exact h.setEntry_used used (Entry.begin_kept ..).2 zone cls
    · obtain ⟨zone, cls⟩ := Entry.onPresent_pair s.device.clock (s.classOf (s.entry e).cls) (s.zoneOf (s.entry e).zone) r
        (s.entry e)
      exact h.setEntry_used used (fun hf => used ((Entry.onPresent_kept ..).2 hf)) zone cls
  · next unheld =>
    have new := FaultTable.lookup_eq_none.1 unheld
    split
    · next e _ => exact h.openEntry e new
    · split
      · next e _ =>
        refine (h.freeEntry e).openEntry e fun i => ?_
        rw [State.entry_freeEntry]
        split
        · exact fun used => absurd rfl used
        · exact new i
      · exact h

theorem PairsDistinct.landAbsent {s : State} (h : PairsDistinct s) (r : QReport) : PairsDistinct (s.landAbsent r).1 := by
  unfold State.landAbsent
  split
  · next e found =>
    have used : (s.entry e).state ≠ .free := FaultTable.lookup_used found
    obtain ⟨zone, cls⟩ := Entry.onAbsent_pair s.device.clock (s.classOf (s.entry e).cls) r (s.entry e)
    exact h.setEntry_used used (fun hf => used ((Entry.onAbsent_kept ..).2 hf)) zone cls
  · exact h

/-- A buffer dealt with changes the snapshot of one entry at most (R49). -/
theorem State.dealBuffer_alike (buffer : Option (Fin 8)) (landing : Option (Fin 48)) (s : State) (i : Fin 48) :
    (s.entry i).Alike ((s.dealBuffer buffer landing).entry i) := by
  have freed (b : Fin 8) : (s.entry i).Alike ((s.freeBuffer b).entry i) := .of_eq (State.entry_congr (by simp) i)
  unfold State.dealBuffer
  split
  · exact .refl _
  · next b =>
    split
    · exact freed b
    · next e =>
      split
      · rw [State.bindBuffer, State.entry_setEntry_eq]
        split
        · next hi => exact hi ▸ ⟨rfl, rfl, rfl, id⟩
        · exact .refl _
      · exact freed b

theorem PairsDistinct.applyReport {s : State} (h : PairsDistinct s) (r : QReport) : PairsDistinct (s.applyReport r) := by
  have taken : PairsDistinct { s with faults := { s.faults with applying := none } } := h
  refine .of_alike (State.dealBuffer_alike r.buffer _ _) ?_
  unfold State.land
  split
  · exact taken.landPresent r
  · exact taken.landAbsent r

/-! ### After an event of the Fault Table -/

theorem State.settleRoots_alike (s : State) (e : Fin 48) : (s.entry e).Alike (s.settleRoots.entry e) := by
  rw [State.settleRoots_entry]
  exact ⟨rfl, rfl, rfl, id⟩

/-- The roots found afresh are those of R102 (R103). -/
theorem State.settleRoots_roots (s : State) : RootsHold s.settleRoots := by
  intro _ e
  have config : s.settleRoots.config = s.config := by simp
  have alike := State.settleRoots_alike s
  have root : (s.settleRoots.entry e).root = if (s.entry e).active then rootOf s.config s.faults.entries (s.entry e).zone
      else none := by rw [State.settleRoots_entry]
  rw [root, config, rootOf_alike s.config alike, (alike e).active, (alike e).zone]

/-- What follows the roots after an event leaves the entries alone. -/
theorem State.settle_entries (old : FaultTable) (s : State) :
    (s.settle old).faults.entries = if s.running then s.settleRoots.faults.entries else s.faults.entries := by
  unfold State.settle
  split <;> simp

theorem State.settle_alike (old : FaultTable) (s : State) (e : Fin 48) : (s.entry e).Alike ((s.settle old).entry e) := by
  unfold State.entry
  rw [State.settle_entries]
  split
  · exact State.settleRoots_alike s e
  · exact .refl _

theorem State.settle_roots (old : FaultTable) (s : State) : RootsHold (s.settle old) := by
  have device : (s.settle old).device = s.device := by simp
  by_cases running : s.running = true
  · have entries : (s.settle old).faults.entries = s.settleRoots.faults.entries := by
      rw [State.settle_entries, if_pos running]
    have entry (e : Fin 48) : (s.settle old).entry e = s.settleRoots.entry e := by simp only [State.entry, entries]
    exact s.settleRoots_roots.of_alike (fun e => .of_eq (entry e)) (fun e => by rw [entry]) (by simp) (by simp)
  · refine .of_rest fun h => running ?_
    rw [device] at h
    simp [State.running, h]

/-! ### What an operation keeps -/

/-- `t` has come from `s` by an operation that keeps the pairs distinct and the roots of RUN in place. -/
structure TableKept (s t : State) : Prop where
  pairs : PairsDistinct s → PairsDistinct t
  roots : RootsHold s → RootsHold t

namespace TableKept

theorem refl (s : State) : TableKept s s := ⟨id, id⟩

theorem trans {s t u : State} (h : TableKept s t) (g : TableKept t u) : TableKept s u :=
  ⟨g.pairs ∘ h.pairs, g.roots ∘ h.roots⟩

theorem ite {c : Prop} [Decidable c] {s a b : State} (ha : c → TableKept s a) (hb : ¬c → TableKept s b) :
    TableKept s (if c then a else b) := by
  split
  · exact ha ‹_›
  · exact hb ‹_›

theorem ite_fst {c : Prop} [Decidable c] {s : State} {a b : State × Verdict} (ha : c → TableKept s a.1)
    (hb : ¬c → TableKept s b.1) : TableKept s (if c then a else b).1 := by
  split
  · exact ha ‹_›
  · exact hb ‹_›

theorem foldl {α : Type} {g : State → α → State} (h : ∀ s a, TableKept s (g s a)) (l : List α) (s : State) :
    TableKept s (l.foldl g s) :=
  foldl_holds (TableKept s) (fun t a ht => ht.trans (h t a)) l s (refl s)

theorem of_alike {s t : State} (h : ∀ e, (s.entry e).Alike (t.entry e)) (hr : ∀ e, (t.entry e).root = (s.entry e).root)
    (hc : t.config = s.config := by simp) (hd : t.device.state = s.device.state := by simp) : TableKept s t :=
  ⟨.of_alike h, .of_alike h hr hc hd⟩

/-- An operation whose frame holds the entries, the records and the device state. -/
theorem of_frame {s t : State} (he : t.faults.entries = s.faults.entries := by simp) (hc : t.config = s.config := by simp)
    (hd : t.device.state = s.device.state := by simp) : TableKept s t :=
  have entry (e : Fin 48) : t.entry e = s.entry e := by simp only [State.entry, he]
  of_alike (fun e => .of_eq (entry e)) (fun e => by rw [entry]) hc hd

/-- An operation that leaves the entries alone and ends outside RUN. -/
theorem of_rest {s t : State} (rest : t.device.state ≠ .run) (he : t.faults.entries = s.faults.entries := by simp) :
    TableKept s t :=
  have entry (e : Fin 48) : t.entry e = s.entry e := by simp only [State.entry, he]
  ⟨.of_alike fun e => .of_eq (entry e), fun _ => .of_rest rest⟩

/-- An event of the table, after which the roots are found afresh (R103). -/
theorem settle {s t : State} (old : FaultTable) (h : PairsDistinct s → PairsDistinct t) : TableKept s (t.settle old) :=
  ⟨fun hs => (h hs).of_alike (State.settle_alike old t), fun _ => State.settle_roots old t⟩

theorem modPort (s : State) (p : Station) (f : Port → Port) : TableKept s (s.modPort p f) := of_frame

/-! ### Truncation, frames and ports -/

/-- The entry that holds a truncated snapshot loses that alone (R47). -/
theorem dropOwner (b : Fin 8) (s : State) : TableKept s (s.dropOwner b) := by
  unfold State.dropOwner
  split
  · exact of_frame
  · next e _ =>
    refine of_alike (fun i => ?_) fun i => ?_
    all_goals
      rw [State.loseSnapshot, State.entry_setEntry_eq]
      split
    · next hi => exact hi ▸ ⟨rfl, rfl, rfl, id⟩
    · exact .refl _
    · next hi => rw [hi]
    · rfl
  · exact refl s

theorem truncate (p : Station) (s : State) : TableKept s (s.truncate p) := by
  unfold State.truncate
  split
  · exact refl s
  · split
    · exact of_frame
    · next b _ => exact (dropOwner b s).trans of_frame

theorem takeFrame {p : Station} {turn : Bool} {hand : State → State} (h : ∀ t, TableKept t (hand t)) (s : State) :
    TableKept s (s.takeFrame p turn hand) :=
  State.takeFrame_holds (TableKept s) (fun t f ht => ht.trans (modPort t p f)) (fun _ ht => ht.trans of_frame)
    (fun t ht => ht.trans (h t)) (refl s)

theorem receipted {p : Station} {judge : State → State × Verdict} (h : ∀ t, TableKept t (judge t).1) (s : State) :
    TableKept s (State.receipted p judge s) :=
  State.receipted_holds (TableKept s) (fun t f ht => ht.trans (modPort t p f)) (fun hs => hs.trans (h s)) (refl s)

/-- A record is written in CONFIGURE only (R178). -/
theorem takeConfig {p : Station} {turn : Bool} {judge : State → State × Verdict}
    (h : ∀ t, t.device.state = .configure → TableKept t (judge t).1) (s : State) : TableKept s (s.takeConfig p turn judge) :=
  takeFrame (receipted fun t => State.judgeConfig_holds (TableKept t) (fun hc _ => h t hc) (refl t)) s

theorem completeIf (p : Station) (is : Sending → Bool) (s : State) : TableKept s (s.completeIf p is) :=
  State.completeIf_holds (TableKept s) (fun t f ht => ht.trans (modPort t p f)) (fun _ => of_frame) (refl s)

theorem leaveExchange (p : Station) (s : State) : TableKept s (s.leaveExchange p) :=
  have departed (t : State) : TableKept t (t.depart p) := of_frame
  (truncate p s).trans (departed _)

/-- A port takes another state, and leaves the exchange if it was in it (R19, R20). -/
theorem setPort_leave (s : State) (p : Station) (o : Port) : TableKept s (State.motionPort p
    (if (s.port p).inExchange then (s.setPort p o).leaveExchange p else s.setPort p o)) := by
  have moved : TableKept s (s.setPort p o) := of_frame
  have told (t : State) : TableKept t (t.motionPort p) := of_frame
  exact trans (ite (fun _ => moved.trans (leaveExchange p _)) fun _ => moved) (told _)

theorem enterOffline (p : Station) (s : State) : TableKept s (s.enterOffline p) :=
  ite (fun _ => refl s) fun _ => setPort_leave s p _

theorem enterSync (p : Station) (s : State) : TableKept s (s.enterSync p) :=
  setPort_leave s p _

theorem contention (p : Station) (f : OutFrame) (s : State) : TableKept s (s.contention p f) := by
  have lost (t : State) : TableKept t (t.setCond (linkLostCond p) true none) := of_frame
  have told (t : State) : TableKept t (t.motionPort p) := of_frame
  exact (modPort s p _).trans (ite (fun _ => (modPort _ p _).trans (told _)) fun _ => (enterSync p _).trans (lost _))

/-! ### Intake -/

theorem openAssembly (p : Station) (announced : Option Nat) (s : State) : TableKept s (s.openAssembly p announced) := by
  unfold State.openAssembly
  split
  · exact refl s
  · exact (truncate p s).trans of_frame

theorem judgeReport (p : Station) (payload : List Byte) (s : State) : TableKept s (s.judgeReport p payload).1 := by
  refine ite_fst (fun _ => refl s) fun _ => ?_
  split
  · exact refl s
  · next r _ =>
    have admitted (t : State) : TableKept t (t.admitReport p r).1 := of_frame
    exact (openAssembly p _ s).trans (admitted _)

theorem judgeSnapshot (p : Station) (payload : List Byte) (s : State) : TableKept s (s.judgeSnapshot p payload).1 := by
  refine ite_fst (fun _ => refl s) fun _ => ?_
  split
  · exact truncate p s
  · split
    · exact refl s
    · exact ite_fst (fun _ => truncate p s) fun _ => of_frame

/-! ### The Fault Table's own events -/

theorem applyReport (r : QReport) (s : State) : TableKept s ((s.applyReport r).settle s.faults) :=
  settle s.faults fun h => h.applyReport r

/-- An entry that is not FREE retires (R88, R94, R100). -/
theorem retireEntry {e : Fin 48} (o : EpisodeEnd) {s : State} (used : PairsDistinct s → (s.entry e).state ≠ .free) :
    TableKept s (s.retireEntry e o) :=
  settle s.faults fun h => h.setEntry_used (used h) (by simp [Entry.retire]) rfl rfl

theorem judgeClear (p : Station) (payload : List Byte) (s : State) : TableKept s (s.judgeClear p payload).1 := by
  refine ite_fst (fun _ => refl s) fun _ => ?_
  split
  · exact refl s
  · split
    · exact refl s
    · next e _ =>
      refine ite_fst (fun _ => refl s) fun _ => ite_fst (fun _ => refl s) fun latched => ite_fst (fun _ => refl s) fun _ =>
        ite_fst (fun _ => refl s) fun _ => retireEntry .cleared fun _ => ?_
      rw [not_not.1 latched]
      decide

theorem judgeDiscardEntry (p : Station) (payload : List Byte) (s : State) :
    TableKept s (s.judgeDiscardEntry p payload).1 := by
  refine ite_fst (fun _ => refl s) fun _ => ?_
  split
  · exact refl s
  · exact ite_fst (fun _ => refl s) fun _ => ite_fst (fun _ => refl s) fun _ => settle s.faults fun h => h.freeEntry _

theorem judgeDiscardAll (p : Station) (payload : List Byte) (s : State) : TableKept s (s.judgeDiscardAll p payload).1 := by
  have settled : TableKept s (s.freeRetired.settle s.faults) := settle s.faults .freeRetired
  refine ite_fst (fun _ => refl s) fun _ => ite_fst (fun _ => refl s) fun _ => ite_fst (fun _ => refl s) fun _ => ?_
  dsimp only
  exact settled

theorem judgeClearOverflow (p : Station) (payload : List Byte) (s : State) :
    TableKept s (s.judgeClearOverflow p payload).1 :=
  ite_fst (fun _ => refl s) fun _ => ite_fst (fun _ => refl s) fun _ => ite_fst (fun _ => refl s) fun _ =>
    ite_fst (fun _ => refl s) fun _ => settle s.faults id

/-! ### The passages between device states -/

/-- The roots are found afresh on entry to RUN, by the records that stand then (R105). -/
theorem enterRun (way : RunEntry) {s u : State} (he : u.faults.entries = s.faults.entries := by simp) :
    TableKept s (u.enterRun way) := by
  let entered : State := { u with device := { u.device with state := .run, configureWindow := none, way := way } }
  have published (t : State) (l : Limits) (cause : Option (Fin 48)) :
      TableKept t (State.markConds (stations.foldl State.loseIfSync (t.publishWhole l cause))) := of_frame
  have rest : TableKept entered.settleRoots (u.enterRun way) := by
    unfold State.enterRun
    exact published _ _ _
  have alike (e : Fin 48) : (s.entry e).Alike (entered.settleRoots.entry e) := by
    have same : entered.entry e = s.entry e := by simp only [State.entry, entered, he]
    exact same ▸ State.settleRoots_alike entered e
  exact ⟨fun h => rest.pairs (h.of_alike alike), fun _ => rest.roots entered.settleRoots_roots⟩

theorem judgeCommit (p : Station) (payload : List Byte) (s : State) : TableKept s (s.judgeCommit p payload).1 := by
  refine ite_fst (fun _ => refl s) fun _ => ite_fst (fun _ => refl s) fun _ => ite_fst (fun _ => refl s) fun _ => ?_
  unfold State.judgeConsistency
  dsimp only
  split
  · exact of_frame
  · exact enterRun .commit

theorem expireConfigure (mV : Nat) (s : State) : TableKept s (s.expireConfigure mV) := by
  have told (t : State) (d : Option Detail) : TableKept t (t.setCond 23 true d) := of_frame
  unfold State.expireConfigure
  refine trans ?_ (told _ _)
  split
  · exact enterRun _
  · exact enterRun _

theorem enterConfigure (mV : Nat) (s : State) : TableKept s (s.enterConfigure mV) := by
  have entered : TableKept s { s with device := { s.device with
      state := .configure, configureWindow := some configureWindowMs, check := .none, way := .notYet } } :=
    of_rest (by simp)
  have woken (t : State) : TableKept t (stations.foldl State.wakePort t) :=
    foldl (fun t p => ite (fun _ => enterSync p t) fun _ => refl t) stations t
  unfold State.enterConfigure
  exact (entered.trans (woken _)).trans of_frame

theorem leaveReset (topo : Topology) (key : Bool) (mV : Nat) (s : State) : TableKept s (s.leaveReset topo key mV) := by
  unfold State.leaveReset
  refine trans ?_ (ite (fun _ => enterConfigure mV _) fun _ => refl _)
  exact of_rest (by simp)

/-- Every entry is FREE (R174). -/
theorem enterReset (resetN settled : Bool) (s : State) : TableKept s (s.enterReset resetN settled) := by
  have entry (e : Fin 48) : (s.enterReset resetN settled).entry e = Entry.free := by
    simp [State.entry, State.enterReset, State.reset, FaultTable.reset]
  refine ⟨fun _ => ⟨fun i j hi => ?_, fun i _ => ?_⟩, fun _ => .of_rest (by simp [State.enterReset, Device.reset])⟩
  · rw [entry] at hi
    exact absurd rfl hi
  · rw [entry]
    rfl

/-! ### Key-off -/

theorem purgeIntake (s : State) : TableKept s s.purgeIntake := by
  have ends : TableKept s (stations.foldl State.endSlot s) := foldl (fun t p => truncate p t) stations s
  have freed (t : State) : TableKept t ((List.finRange 8).foldl State.freeIfPending t) := of_frame
  have quiet := ends.trans (freed _)
  unfold State.purgeIntake
  generalize (List.finRange 8).foldl State.freeIfPending (stations.foldl State.endSlot s) = t at quiet
  exact quiet.trans (of_frame rfl rfl rfl)

end TableKept

/-- An entry is purged at key-off: a LATCHED one keeps its pair, any other becomes FREE (R80). -/
theorem PairsDistinct.purgeEntry {s : State} (h : PairsDistinct s) (e : Fin 48) : PairsDistinct (s.purgeEntry e) := by
  unfold State.purgeEntry
  split
  · next latched =>
    have used : (s.entry e).state ≠ .free := by rw [latched]; decide
    exact h.setEntry_used used used rfl rfl
  · exact h.freeEntry e

theorem PairsDistinct.purgeTable {s : State} (h : PairsDistinct s) : PairsDistinct s.purgeTable := by
  have purged := foldl_holds PairsDistinct (fun _ e ht => ht.purgeEntry e) (List.finRange 48) s h
  unfold State.purgeTable
  generalize (List.finRange 48).foldl (fun t e => State.purgeEntry e t) s = t at purged
  exact purged

theorem PairsDistinct.finishReport {s : State} (h : PairsDistinct s) : PairsDistinct s.finishReport := by
  unfold State.finishReport
  split
  · exact h.applyReport _
  · exact h

namespace TableKept

theorem keyOff (s : State) : TableKept s s.keyOff := by
  refine ⟨fun h => ?_, fun _ => .of_rest (by simp [State.keyOff])⟩
  let standby : State := { s with device := { s.device with state := .standby, configureWindow := none } }
  have finished : PairsDistinct standby.finishReport := PairsDistinct.finishReport (s := standby) h
  have off (t : State) : TableKept t (stations.foldl State.portOff t) :=
    foldl (fun t p => enterOffline p t) stations t
  have purged := ((purgeIntake _).pairs ((off _).pairs finished)).purgeTable
  have stopped (t : State) (l : Limits) :
      TableKept t (t.stopMonitor.stopMotion.publishWhole l none).endEpisodes := of_frame
  unfold State.keyOff
  exact (stopped _ _).pairs purged

theorem keyLow (s : State) : TableKept s s.keyLow := by
  unfold State.keyLow
  split
  · exact keyOff s
  · exact keyOff s
  all_goals exact refl s

theorem keyHigh (mV : Nat) (s : State) : TableKept s (s.keyHigh mV) := by
  unfold State.keyHigh
  split
  · exact enterConfigure mV s
  all_goals exact refl s

end TableKept

/-! ### What each command makes of the entries -/

/-- The command answers a next state, and keeps the pairs and the roots. -/
def AnswersTable (s : State) (o : Host.Outcome State Fault Refusal) : Prop :=
  ∃ t, o = .next t ∧ TableKept s t

namespace AnswersTable

theorem keep {s t : State} (h : TableKept s t) : AnswersTable s (.next t) := ⟨t, rfl, h⟩

theorem keyDebounceExpiry (mV : Nat) (s : State) : AnswersTable s (execKeyDebounceExpiry mV s) := by
  unfold execKeyDebounceExpiry
  split
  · exact keep (.refl s)
  · have sampled : TableKept s { s with device := { s.device with debounce := none, keyLevel := s.device.keyPin } } :=
      .of_frame rfl rfl rfl
    exact keep (sampled.trans (.ite (fun _ => .keyHigh mV _) fun _ => .keyLow _))

theorem configureWindowExpiry (mV : Nat) (s : State) : AnswersTable s (execConfigureWindowExpiry mV s) := by
  unfold execConfigureWindowExpiry
  split
  · exact keep (.refl s)
  · exact keep (.expireConfigure mV s)

theorem contention (p : Station) (s : State) : AnswersTable s (execContention p s) := by
  unfold execContention
  split
  · exact keep (.contention p _ s)
  · exact keep (.modPort s p _)
  · exact keep (.refl s)

theorem stationDrivesLine (p : Station) (s : State) : AnswersTable s (execStationDrivesLine p s) := by
  unfold execStationDrivesLine
  split
  · exact keep .of_frame
  · exact keep .of_frame
  all_goals exact keep (.refl s)

theorem heartbeatExpiry (p : Station) (s : State) : AnswersTable s (execHeartbeatExpiry p s) := by
  unfold execHeartbeatExpiry
  split
  · exact keep (.refl s)
  · exact keep (.modPort s p _)

theorem turnWindowExpiry (p : Station) (receiving : Bool) (s : State) :
    AnswersTable s (execTurnWindowExpiry p receiving s) := by
  unfold execTurnWindowExpiry
  split
  · split
    · exact keep (.modPort s p _)
    · exact keep .of_frame
  · exact keep (.refl s)

theorem reportApplied (s : State) : AnswersTable s (execReportApplied s) := by
  unfold execReportApplied
  split
  · exact keep (.refl s)
  · exact keep (.applyReport _ s)

/-- The timer that runs is not that of a FREE entry (R59). -/
theorem entryExpires {e : Fin 48} (o : EpisodeEnd) {s : State} (runs : (s.entry e).timer ≠ .none) :
    AnswersTable s (.next (s.retireEntry e o)) :=
  keep (.retireEntry o fun ⟨_, idle⟩ free => runs (idle e free))

end AnswersTable

theorem exec_table (c : Instr) (s : State) : AnswersTable s (exec c s) := by
  cases c with
  | powerOn => exact .keep (.enterReset _ _ s)
  | resetNLow => exact .keep (.enterReset _ _ s)
  | resetEnd topo1 topo0 key mV => exact .keep (.ite (fun _ => .leaveReset _ key mV s) fun _ => .refl s)
  | keyPinChange level => exact .keep (.of_frame rfl rfl rfl)
  | keyDebounceExpiry mV => exact .keyDebounceExpiry mV s
  | configureWindowExpiry mV => exact .configureWindowExpiry mV s
  | reqChange p level => exact .keep (.modPort s p _)
  | hello p turn payload => exact .keep (.ite (fun _ => .of_frame) fun _ => .takeFrame (fun _ => .of_frame) s)
  | status p turn payload | adopt p turn payload => exact .keep (.takeFrame (fun _ => .of_frame) s)
  | report p turn payload => exact .keep (.takeFrame (.receipted (.judgeReport p payload)) s)
  | snapshot p turn payload => exact .keep (.takeFrame (.receipted (.judgeSnapshot p payload)) s)
  | clear p turn payload => exact .keep (.takeFrame (.receipted (.judgeClear p payload)) s)
  | discardEntry p turn payload => exact .keep (.takeFrame (.receipted (.judgeDiscardEntry p payload)) s)
  | discardAllRetired p turn payload => exact .keep (.takeFrame (.receipted (.judgeDiscardAll p payload)) s)
  | clearOverflow p turn payload => exact .keep (.takeFrame (.receipted (.judgeClearOverflow p payload)) s)
  | readTable p turn payload | readEntry p turn payload | readSnapshot p turn payload | readEnvelope p turn payload
  | readMonitor p turn payload | readOverflow p turn payload | readIdent p turn payload =>
    exact .keep (.takeFrame (.receipted fun _ => .of_frame) s)
  | zoneRecord p turn payload | classRecord p turn payload | levelRecord p turn payload
  | responseRecord p turn payload | scanRecord p turn payload | channelsRecord p turn payload
  | comparatorRecord p turn payload mV | timingRecord p turn payload | weightRecord p turn payload =>
    exact .keep (.takeConfig (fun _ configure => .of_rest (by simp [configure])) s)
  | commit p turn payload => exact .keep (.takeFrame (.receipted (.judgeCommit p payload)) s)
  | discardedFrame p cause =>
    exact .keep (.ite (fun _ => .ite (fun _ => .modPort s p _) fun _ => .refl s)
      fun _ => .takeFrame (fun _ => .of_frame) s)
  | outOfTurnFrame p => exact .keep .of_frame
  | brokenFrame p => exact .keep (.ite (fun _ => .of_frame) fun _ => .of_frame)
  | contention p => exact .contention p s
  | stationDrivesLine p => exact .stationDrivesLine p s
  | outboundArbiterChoice p | expiredTurnLineIdle p | recoverQuietExpiry p | arbiterHandOff =>
    exact .keep (.ite (fun _ => .of_frame) fun _ => .refl s)
  | syncDue p | syncSent p | syncTurnExpiry p => exact .keep (.ite (fun _ => .modPort s p _) fun _ => .refl s)
  | grantSent p | envelopeSent p | receiptSent p | readReplySent p => exact .keep (.completeIf p _ s)
  | noticeSent => exact .keep (.completeIf .ride _ s)
  | heartbeatExpiry p => exact .heartbeatExpiry p s
  | turnWindowExpiry p receiving => exact .turnWindowExpiry p receiving s
  | snapshotWindowExpiry p => exact .keep (.truncate p s)
  | selfReportFormed =>
    refine .keep (.ite (fun _ => ?_) fun _ => .refl s)
    split
    · exact .of_frame
    · exact .refl s
  | reportApplied => exact .reportApplied s
  | scanDue | sampleComplete value | falling mV | rising mV =>
    exact .keep (.ite (fun _ => .of_frame) fun _ => .refl s)
  | noticeDelayExpiry | absoluteDelayExpiry | relaxHoldExpiry | parkedHoldExpiry =>
    dsimp only [exec, execNoticeDelayExpiry, execAbsoluteDelayExpiry, execRelaxHoldExpiry, execParkedHoldExpiry]
    split
    · exact .keep .of_frame
    · exact .keep (.refl s)
  | confirmWindowExpiry e | healHoldExpiry e =>
    dsimp only [exec, execConfirmWindowExpiry, execHealHoldExpiry]
    split
    · next runs => exact .entryExpires _ (by rw [runs]; nofun)
    all_goals exact .keep (.refl s)
  | adoptionWindowExpiry p | mismatchTimerExpiry =>
    dsimp only [exec, execAdoptionWindowExpiry, execMismatchTimerExpiry]
    split
    · exact .keep .of_frame
    · exact .keep .of_frame
    all_goals exact .keep (.refl s)

/-- One millisecond takes from the entries' timers only (log 1). -/
theorem State.tick_table (s : State) : TableKept s s.tick := by
  unfold State.tick
  refine .ite (fun _ => .refl s) fun _ => ?_
  have entry (e : Fin 48) : s.pass.entry e = (s.entry e).pass := by simp [State.entry, State.pass, FaultTable.pass]
  refine .of_alike (fun e => ?_) (fun e => by rw [entry]; rfl) rfl rfl
  rw [entry]
  exact ⟨rfl, rfl, rfl, fun idle => by simp [Entry.pass, idle, EntryTimer.pass]⟩

/-- Settles O56, by what each command makes of the entries (`exec_table`) and by the tick. -/
theorem everyStepKeepsPairsAndRoots : Obligations.EveryStepKeepsPairsAndRoots := by
  intro s t h
  obtain ⟨-, rfl⟩ | ⟨c, rest, -, he⟩ := step_cases h
  · exact ⟨s.tick_table.pairs, s.tick_table.roots⟩
  · obtain ⟨u, hu, kept⟩ := exec_table c { s with pending := rest }
    cases he.symm.trans hu
    exact ⟨fun hs => kept.pairs hs, fun hs => kept.roots hs⟩

end Sys2Proof.Machine
end

section
/-!
PROOFS. The conditions that every step keeps, at reset.
-/
namespace Sys2Proof.Machine

open Sys2Proof

theorem State.reset_entry (e : Fin 48) : State.reset.entry e = Entry.free := by
  simp [State.entry, State.reset, FaultTable.reset]

theorem State.reset_buffer (b : Fin 8) : State.reset.buffer b = Buffer.free := by
  simp [State.buffer, State.reset]

theorem State.reset_slot (p : Station) : State.reset.slot p = ⟨none, .none⟩ := by cases p <;> rfl

theorem State.reset_adoption (p : Station) : State.reset.adoption p = Adoption.reset := by cases p <;> rfl

theorem State.reset_port (p : Station) : State.reset.port p = Port.reset := by cases p <;> rfl

/-- Every entry is FREE at reset (R59). -/
theorem pairsDistinct_reset : PairsDistinct State.reset := by
  refine ⟨fun i j hi => ?_, fun i _ => ?_⟩
  · rw [State.reset_entry] at hi
    exact absurd rfl hi
  · rw [State.reset_entry]
    rfl

/-- Every buffer and every long slot is FREE at reset (R42, R44). -/
theorem snapshotsFit_reset : SnapshotsFit State.reset := by
  refine ⟨fun b => (Pool.wf_reset b).1, fun b => (Pool.wf_reset b).2, fun p a ha => ?_, fun b p hb => ?_⟩
  · rw [State.reset_slot] at ha
    cases ha
  · rw [State.reset_buffer] at hb
    cases hb

/-- No report waits at reset, and no entry has a snapshot (R41, R59). -/
theorem buffersOwned_reset : BuffersOwned State.reset := by
  refine ⟨fun e b => ?_, fun e _ => ?_, fun b => ?_⟩
  · rw [State.reset_entry, State.reset_buffer]
    exact iff_of_false nofun nofun
  · rw [State.reset_entry]
    rfl
  · rw [State.reset_buffer]
    rfl

/-- No port is a member at reset, and none owes (R131, R133). -/
theorem completionAgrees_reset : CompletionAgrees State.reset := by
  refine ⟨fun p owes => ?_, iff_of_true rfl fun p => ?_⟩
  · rw [State.reset_adoption] at owes
    cases owes
  · rw [State.reset_adoption]
    rfl

theorem generationsFit_reset : GenerationsFit State.reset := by
  refine ⟨Nat.zero_le _, fun p => ?_⟩
  rw [State.reset_adoption]
  exact Nat.le_refl 0

/-- All four envelopes are the closed one at reset, and the lines follow it (R118, R127, R128). -/
theorem linesAndEnvelopes_reset : LinesFollow State.reset ∧ InForceIsStricter State.reset ∧ AxleLossHolds State.reset := by
  refine ⟨⟨fun _ => rfl, nofun, nofun, nofun⟩, rfl, fun _ _ => by decide⟩

/-- Settles O60: outside RUN nothing is said of demands and roots, and each block's own condition holds of its reset value. -/
theorem conditionsHoldAtReset : Obligations.ConditionsHoldAtReset := by
  obtain ⟨lines, inForce, axleLoss⟩ := linesAndEnvelopes_reset
  refine ⟨lines, inForce, nofun, axleLoss, fixedRecordsHold_of_defaults (topo := .rearOnly) rfl, fun q => ?_, generationsFit_reset,
    completionAgrees_reset, ⟨rfl, rfl⟩, pairsDistinct_reset, .of_rest nofun, snapshotsFit_reset, buffersOwned_reset,
    (portsFollow_iff _).2 fun p _ => ?_, (statusFormsHold_iff _).2 fun p x hx => ?_, nofun⟩
  · cases q <;> exact Nat.zero_le _
  · rw [State.reset_port]
    rfl
  · rw [State.reset_port] at hx
    cases hx

end Sys2Proof.Machine
end

section
/-!
PROOFS. A report applied: what follows an event of the table (`Follows`), what becomes of the report's buffer, and a report that
lands on an entry (`LandsOn`) or on none.
-/
namespace Sys2Proof.Machine

open Sys2Proof

/-! ### What follows an event of the Fault Table -/

theorem State.settle_unrooted (old : FaultTable) (s : State) (e : Fin 48) :
    ((s.settle old).entry e).unrooted = (s.entry e).unrooted := by
  unfold State.entry
  rw [State.settle_entries]
  split
  · show (s.settleRoots.entry e).unrooted = _
    rw [State.settleRoots_entry]
    rfl
  · rfl

/-- An event has led from `s` to `u`, and what follows it to `t`: the roots, the notices and the Ladder in RUN, and nothing
else (R60; logs 18 and 19). -/
structure Follows (s u t : State) : Prop where
  entries : ∀ i, (t.entry i).unrooted = (u.entry i).unrooted
  settles : s.running = true → TableSettles s t
  overflow : t.faults.overflow = u.faults.overflow
  applying : t.faults.applying = u.faults.applying
  pool : t.pool = u.pool
  intake : t.intake = u.intake
  config : t.config = s.config
  device : t.device = s.device
  monitor : t.monitor = s.monitor
  motion : t.motion = s.motion

/-- The timers and the flag of the notices, which an event itself leaves alone (R78, R79). -/
def FaultTable.notices (t : FaultTable) : Timer × Timer × Bool := (t.noticeDelay, t.absoluteDelay, t.highWater)

theorem State.settle_follows {s u : State} (notices : u.faults.notices = s.faults.notices)
    (device : u.device = s.device := by simp) (config : u.config = s.config := by simp) (ports : u.ports = s.ports := by simp)
    (ladder : u.ladder = s.ladder := by simp) (publication : u.publication = s.publication := by simp)
    (monitor : u.monitor = s.monitor := by simp) (motion : u.motion = s.motion := by simp) :
    Follows s u (u.settle s.faults) := by
  obtain ⟨delay, absolute, high⟩ : _ ∧ _ ∧ _ := by simpa [FaultTable.notices] using notices
  have running : u.running = s.running := by simp [State.running, device]
  exact {
    entries := State.settle_unrooted s.faults u
    settles := fun h => State.settle_settles (running.trans h) config ports ladder publication delay absolute high
    overflow := by simp
    applying := by simp
    pool := by simp
    intake := by simp
    config := by simpa using config
    device := by simpa using device
    monitor := by simpa using monitor
    motion := by simpa using motion }

/-- The active entries are as many as before when each entry is active as before. -/
theorem FaultTable.activeCount_eq {t u : FaultTable} (h : ∀ e : Fin 48, t.entries[e].active = u.entries[e].active) :
    t.activeCount = u.activeCount := by
  simp only [FaultTable.activeCount, countAt_eq_countP, h]

/-- A notice change that leaves as many entries active starts the notice timers (R78). -/
theorem TableSettles.starts {s t : State} (h : TableSettles s t) (active : ∀ e, (t.entry e).active = (s.entry e).active)
    (changed : (∃ e, (t.entry e).state ≠ (s.entry e).state) ∨ t.faults.cellCount ≠ s.faults.cellCount) :
    t.faults.noticeDelay = some 20 ∧ t.faults.absoluteDelay = some (s.faults.absoluteDelay.getD 100) := by
  have same : t.faults.activeCount = s.faults.activeCount := FaultTable.activeCount_eq active
  obtain ⟨delay, absolute, -⟩ := h.changed (by omega) changed
  exact ⟨delay, absolute⟩

theorem Entry.active_of_unrooted {x y : Entry} (h : x.unrooted = y.unrooted) : x.active = y.active :=
  (congrArg Entry.active h : x.unrooted.active = y.unrooted.active)

/-! ### The buffer of an applied report -/

namespace BufferDealt

variable {r : QReport} {holder : Option (Fin 48)} {s t : State}

/-- A condition on the buffers and the long slots only. -/
theorem congr {s' t' : State} (h : BufferDealt r holder s t) (pool : s'.pool = s.pool := by simp)
    (intake : s'.intake = s.intake := by simp) (pool' : t'.pool = t.pool := by simp)
    (intake' : t'.intake = t.intake := by simp) : BufferDealt r holder s' t' := by
  obtain ⟨bound, freed, spared, slots, rest⟩ := h
  refine ⟨?_, ?_, ?_, ?_, ?_⟩
  all_goals
    simp only [State.buffer, State.slot, pool, intake, pool', intake']
    assumption

theorem of_unbound (h : r.buffer = none) : BufferDealt r holder s s :=
  ⟨fun b _ hb => by simp [h] at hb, fun b hb => by simp [h] at hb, fun _ _ => rfl, fun _ _ => rfl, rfl⟩

theorem of_freed {b : Fin 8} (h : r.buffer = some b) : BufferDealt r none s (s.freeBuffer b) := by
  obtain ⟨free, spared, detached, slots, rest⟩ := State.freeBuffer_freed b s
  refine ⟨fun _ _ _ he => (nomatch he), fun c hc _ => ?_, fun c hc => spared c fun e => hc (e ▸ h), fun p hp => ?_, rest⟩
  · have same : c = b := Option.some.inj (hc.symm.trans h)
    exact ⟨free c same, fun p a => detached c p a same⟩
  · exact slots p fun c same => hp rfl c (same ▸ h)

theorem of_bound {b : Fin 8} (h : r.buffer = some b) (e : Fin 48) : BufferDealt r (some e) s (s.bindBuffer b e) := by
  refine ⟨fun c i hc hi => ?_, fun _ _ he => (nomatch he), fun c hc => ?_, fun _ _ => rfl, rfl⟩
  · cases hi
    cases h.symm.trans hc
    exact State.buffer_setBuffer ..
  · exact State.buffer_setBuffer_ne s _ fun e => hc (e ▸ h)

/-- Intake does not change where the buffer is bound to an entry. -/
theorem intake_eq {e : Fin 48} (h : BufferDealt r (some e) s t) : t.intake = s.intake := by
  have slot (p : Station) : t.slot p = s.slot p := h.slots p nofun
  have slots : t.intake.slots = s.intake.slots := by
    have ride := slot .ride
    have front := slot .front
    have rear := slot .rear
    have pack := slot .pack
    simp only [State.slot, PerStation.get] at ride front rear pack
    calc t.intake.slots = ⟨t.intake.slots.ride, t.intake.slots.front, t.intake.slots.rear, t.intake.slots.pack⟩ := rfl
      _ = s.intake.slots := by rw [ride, front, rear, pack]
  rw [h.intake, slots]

end BufferDealt

/-- An entry that a report has landed on, once the report's buffer has been dealt with: an entry without a snapshot takes the
buffer as its own (R49). -/
def Entry.withBuffer (b : Option (Fin 8)) (x : Entry) : Entry :=
  { x with snapshot := if x.snapshot.isSome then x.snapshot else b }

theorem Entry.withBuffer_none (x : Entry) : x.withBuffer none = x := by
  unfold Entry.withBuffer
  split
  · rfl
  · next empty => rw [← Option.not_isSome_iff_eq_none.1 empty]

theorem Entry.withBuffer_held {x : Entry} (b : Option (Fin 8)) (held : x.snapshot.isSome = true) : x.withBuffer b = x := by
  simp [Entry.withBuffer, held]

theorem Entry.withBuffer_empty {x : Entry} (b : Option (Fin 8)) (empty : x.snapshot = none) :
    x.withBuffer b = { x with snapshot := b } := by
  simp [Entry.withBuffer, empty]

/-- The report's buffer goes to the entry that it landed on, or is freed where that has a snapshot (R49). -/
theorem State.dealBuffer_on (r : QReport) (e : Fin 48) (s : State) :
    (s.dealBuffer r.buffer (some e)).entry e = (s.entry e).withBuffer r.buffer ∧
      (∀ i, i ≠ e → (s.dealBuffer r.buffer (some e)).entry i = s.entry i) ∧
      BufferDealt r (if (s.entry e).snapshot.isSome then none else some e) s (s.dealBuffer r.buffer (some e)) := by
  unfold State.dealBuffer
  cases bound : r.buffer with
  | none => exact ⟨(Entry.withBuffer_none _).symm, fun _ _ => rfl, .of_unbound bound⟩
  | some b =>
    dsimp only
    split
    · next empty =>
      rw [Entry.withBuffer_empty _ empty, empty]
      exact ⟨State.entry_setEntry .., fun i hi => State.entry_setEntry_ne _ _ hi, .of_bound bound e⟩
    · next held =>
      have held := Option.isSome_iff_ne_none.2 held
      have entry (i : Fin 48) : (s.freeBuffer b).entry i = s.entry i := State.entry_congr (by simp) i
      rw [Entry.withBuffer_held _ held, if_pos held]
      exact ⟨entry e, fun i _ => entry i, .of_freed bound⟩

/-- The report's buffer is freed when it landed on no entry (R49). -/
theorem State.dealBuffer_nowhere (r : QReport) (s : State) :
    (s.dealBuffer r.buffer none).faults = s.faults ∧ BufferDealt r none s (s.dealBuffer r.buffer none) := by
  unfold State.dealBuffer
  cases bound : r.buffer with
  | none => exact ⟨rfl, .of_unbound bound⟩
  | some b => exact ⟨by simp, .of_freed bound⟩

/-! ### A report applied -/

/-- The table with no report in application (R60). -/
def State.emptied (s : State) : State := { s with faults := { s.faults with applying := none } }

theorem State.applyReport_eq (r : QReport) (s : State) :
    s.applyReport r = (s.emptied.land r).1.dealBuffer r.buffer (s.emptied.land r).2 := rfl

theorem State.freeBuffer_notices (b : Fin 8) (s : State) : (s.freeBuffer b).faults.notices = s.faults.notices :=
  congrArg FaultTable.notices (by simp)

theorem State.freeEntry_notices (e : Fin 48) (s : State) : (s.freeEntry e).faults.notices = s.faults.notices := by
  have freed : (s.freeSnapshot (s.entry e).snapshot).faults = s.faults := by simp
  show (s.freeSnapshot (s.entry e).snapshot).faults.notices = _
  rw [freed]

theorem State.land_notices (r : QReport) (s : State) : (s.land r).1.faults.notices = s.faults.notices := by
  unfold State.land State.landPresent State.landAbsent
  dsimp only
  split
  · split
    · split <;> rfl
    · split
      · rfl
      · split
        · exact State.freeEntry_notices _ s
        · rfl
  · split <;> rfl

theorem State.dealBuffer_notices (buffer : Option (Fin 8)) (landing : Option (Fin 48)) (s : State) :
    (s.dealBuffer buffer landing).faults.notices = s.faults.notices := by
  unfold State.dealBuffer
  split
  · rfl
  · split
    · exact State.freeBuffer_notices ..
    · split
      · rfl
      · exact State.freeBuffer_notices ..

/-- A report in application is applied, and what follows the event follows (R60). -/
theorem exec_reportApplied {r : QReport} {s : State} (applying : s.faults.applying = some r) :
    ∃ t, exec .reportApplied s = .next t ∧ Follows s (s.applyReport r) t := by
  refine ⟨(s.applyReport r).settle s.faults, by simp only [exec, execReportApplied, applying], State.settle_follows ?_⟩
  rw [State.applyReport_eq, State.dealBuffer_notices, State.land_notices]
  rfl

/-- Report `r` has been applied from `s` to `t`: entry `holder` has its buffer, or none has, and what follows the event has
followed; what it made of the entries and the overflow map is said apart (R49, R60). -/
structure Applies (r : QReport) (holder : Option (Fin 48)) (s t : State) : Prop where
  dealt : BufferDealt r holder s t
  settles : s.running = true → TableSettles s t
  applying : t.faults.applying = none
  config : t.config = s.config
  device : t.device = s.device
  monitor : t.monitor = s.monitor
  motion : t.motion = s.motion

theorem Follows.applies {r : QReport} {holder : Option (Fin 48)} {s t : State} (h : Follows s (s.applyReport r) t)
    (dealt : BufferDealt r holder s (s.applyReport r)) : Applies r holder s t where
  dealt := dealt.congr rfl rfl h.pool h.intake
  settles := h.settles
  applying := by
    rw [h.applying, State.applyReport_eq]
    simp [State.emptied]
  config := h.config
  device := h.device
  monitor := h.monitor
  motion := h.motion

/-- A report that lands on an entry makes it `x`, but for the buffer that it may take, and changes no other entry but its root. -/
theorem exec_reportApplied_on {r : QReport} {e : Fin 48} {x : Entry} {s : State} (applying : s.faults.applying = some r)
    (landed : s.emptied.land r = (s.emptied.setEntry e x, some e)) :
    ∃ t, exec .reportApplied s = .next t ∧ (t.entry e).unrooted = (x.withBuffer r.buffer).unrooted ∧
      (∀ i, i ≠ e → (t.entry i).unrooted = (s.entry i).unrooted) ∧ t.faults.overflow = s.faults.overflow ∧
      Applies r (if x.snapshot.isSome then none else some e) s t := by
  obtain ⟨t, applied, follows⟩ := exec_reportApplied applying
  have made : s.applyReport r = (s.emptied.setEntry e x).dealBuffer r.buffer (some e) := by
    rw [State.applyReport_eq, landed]
  obtain ⟨entry, others, dealt⟩ := State.dealBuffer_on r e (s.emptied.setEntry e x)
  have here : (s.emptied.setEntry e x).entry e = x := State.entry_setEntry ..
  rw [here] at entry dealt
  refine ⟨t, applied, ?_, fun i hi => ?_, ?_, follows.applies (made ▸ dealt.congr rfl rfl rfl rfl)⟩
  · rw [follows.entries, made, entry]
  · rw [follows.entries, made, others i hi, State.entry_setEntry_ne _ _ hi]
    rfl
  · rw [follows.overflow, made]
    simp [State.emptied]

/-- A report that lands on no entry: its buffer is freed, and no entry changes but its root. -/
theorem exec_reportApplied_nowhere {r : QReport} {s u : State} (applying : s.faults.applying = some r)
    (landed : s.emptied.land r = (u, none)) (pool : u.pool = s.pool) (intake : u.intake = s.intake)
    (entries : u.faults.entries = s.faults.entries) :
    ∃ t, exec .reportApplied s = .next t ∧ (∀ i, (t.entry i).unrooted = (s.entry i).unrooted) ∧
      t.faults.overflow = u.faults.overflow ∧ Applies r none s t := by
  obtain ⟨t, applied, follows⟩ := exec_reportApplied applying
  have made : s.applyReport r = u.dealBuffer r.buffer none := by rw [State.applyReport_eq, landed]
  obtain ⟨faults, dealt⟩ := State.dealBuffer_nowhere r u
  refine ⟨t, applied, fun i => ?_, ?_, follows.applies (made ▸ dealt.congr pool.symm intake.symm rfl rfl)⟩
  · rw [follows.entries, made, State.entry_congr faults]
    simp only [State.entry, entries]
  · rw [follows.overflow, made, faults]

end Sys2Proof.Machine
end

section
/-!
PROOFS. PRESENT and ABSENT reports on the entry of their pair, and reports that find none: what the lifecycle makes of the entry,
by its state.
-/
namespace Sys2Proof.Machine

open Sys2Proof

/-! ### Where a report lands -/

theorem State.land_present {r : QReport} (s : State) (present : r.present = true) : s.land r = s.landPresent r := if_pos present

theorem State.land_absent {r : QReport} (s : State) (absent : r.present = false) : s.land r = s.landAbsent r :=
  if_neg (by simp [absent])

/-- What a PRESENT report makes of the entry of its pair (R63, R66). -/
def Entry.afterPresent (now : Clock) (k : FaultClass) (z : Zone) (r : QReport) (x : Entry) : Entry :=
  if x.state = .retired then (x.reopened now r).begin now k z else x.onPresent now k z r

theorem State.landPresent_on {r : QReport} {e : Fin 48} {s : State} (found : s.faults.lookup r.zone r.cls = some e) :
    s.landPresent r = (s.setEntry e ((s.entry e).afterPresent s.device.clock (s.classOf (s.entry e).cls)
      (s.zoneOf (s.entry e).zone) r), some e) := by
  unfold State.landPresent Entry.afterPresent
  simp only [found]
  split <;> rfl

theorem State.landAbsent_on {r : QReport} {e : Fin 48} {s : State} (found : s.faults.lookup r.zone r.cls = some e) :
    s.landAbsent r = (s.setEntry e ((s.entry e).onAbsent s.device.clock (s.classOf (s.entry e).cls) r), some e) := by
  unfold State.landAbsent
  simp only [found]

theorem Entry.afterPresent_snapshot (now : Clock) (k : FaultClass) (z : Zone) (r : QReport) (x : Entry) :
    (x.afterPresent now k z r).snapshot = x.snapshot := by
  unfold Entry.afterPresent
  split
  · exact (Entry.begin_kept now k z (x.reopened now r)).1
  · exact (Entry.onPresent_kept now k z r x).1

/-! ### A report without an entry to land on -/

theorem State.landPresent_nowhere {r : QReport} {s : State} (unheld : s.faults.lookup r.zone r.cls = none)
    (full : ∀ i, (s.entry i).state ≠ .free ∧ (s.entry i).state ≠ .retired) : s.landPresent r = (s.setCell r, none) := by
  have free : s.faults.firstFree = none := firstAt_eq_none fun i => beq_eq_false_iff_ne.2 (full i).1
  have retired : s.faults.oldestRetired s.device.clock = none :=
    foldl_holds (fun best : Option (Fin 48) => best = none) (fun best i h => by
      have : s.faults.entries[i].state ≠ .retired := (full i).2
      rw [if_neg this, h]) _ _ rfl
  unfold State.landPresent
  simp only [unheld, free, retired]

theorem State.setCell_overflow (r : QReport) (s : State) (c : Fin 64) : (s.setCell r).faults.overflow[c] =
    if c.val = (7 * r.zone.val + r.cls.val) % 64 then true else s.faults.overflow[c] := by
  have : c = cellOf r.zone r.cls ↔ c.val = (7 * r.zone.val + r.cls.val) % 64 := Fin.ext_iff
  simp only [State.setCell, getElem_putAt, this]

/-- One more cell is set when a report sets a cell that was clear (R67). -/
theorem FaultTable.cellCount_lt {t u : FaultTable} (grows : ∀ c : Fin 64, t.overflow[c] = true → u.overflow[c] = true)
    {c : Fin 64} (clear : t.overflow[c] = false) (set : u.overflow[c] = true) : t.cellCount < u.cellCount := by
  obtain ⟨before, after, split⟩ := List.append_of_mem (List.mem_finRange c)
  have early := List.countP_mono_left (l := before) fun c _ => grows c
  have late := List.countP_mono_left (l := after) fun c _ => grows c
  simp only [FaultTable.cellCount_eq, split, List.countP_append, List.countP_cons, clear, set, if_true, Bool.false_eq_true,
    if_false]
  omega

/-- Settles O29: the cell of the pair is set, its buffer is freed, and a new cell is a notice change. -/
theorem presentReportOverflows : Obligations.PresentReportOverflows := by
  intro r s applying present full
  have unheld : s.emptied.faults.lookup r.zone r.cls = none := FaultTable.lookup_eq_none.2 fun i _ => (full i).2.2
  have landed := (s.emptied.land_present present).trans (State.landPresent_nowhere unheld fun i => ⟨(full i).1, (full i).2.1⟩)
  obtain ⟨t, applied, entries, overflow, h⟩ := exec_reportApplied_nowhere applying landed rfl rfl rfl
  have cells (c : Fin 64) : t.faults.overflow[c] =
      if c.val = (7 * r.zone.val + r.cls.val) % 64 then true else s.faults.overflow[c] := by
    simp only [overflow]
    exact State.setCell_overflow r s.emptied c
  refine ⟨t, applied, cells, entries, h.dealt, h.applying, h.settles, fun running clear => ?_, h.config, h.device, h.monitor,
    h.motion⟩
  have more : s.faults.cellCount < t.faults.cellCount := by
    refine FaultTable.cellCount_lt (fun c hc => ?_) clear ?_
    · rw [cells]
      split
      · rfl
      · exact hc
    · rw [cells]
      exact if_pos rfl
  exact (h.settles running).starts (fun e => Entry.active_of_unrooted (entries e)) (.inr more.ne')

/-! ### A PRESENT report on the entry of its pair -/

theorem Entry.afterPresent_stays {x : Entry} (h : x.state = .confirmed ∨ x.state = .latched) (now : Clock) (k : FaultClass)
    (z : Zone) (r : QReport) : x.afterPresent now k z r = x.witnessed r := by
  obtain h | h := h <;> simp [Entry.afterPresent, Entry.onPresent, h]

theorem Entry.afterPresent_suspect {x : Entry} (h : x.state = .suspect) (now : Clock) (k : FaultClass) (z : Zone) (r : QReport) :
    x.afterPresent now k z r = if k.confirmCount ≤ (x.witnessed r).reportCount ∨ 2 ≤ (x.witnessed r).witness.size
      then (x.witnessed r).confirm now k z else x.witnessed r := by
  simp [Entry.afterPresent, Entry.onPresent, h]

theorem Entry.afterPresent_healing {x : Entry} (h : x.state = .healing) (now : Clock) (k : FaultClass) (z : Zone) (r : QReport) :
    x.afterPresent now k z r = (x.witnessed r).recur now := by
  simp [Entry.afterPresent, Entry.onPresent, h]

theorem Entry.afterPresent_retired {x : Entry} (h : x.state = .retired) (now : Clock) (k : FaultClass) (z : Zone) (r : QReport) :
    x.afterPresent now k z r = (x.reopened now r).begin now k z := if_pos h

theorem Entry.witnessed_eq (r : QReport) (x : Entry) : x.witnessed r = { x with
    lastReportAt := r.arrival, reportCount := if x.reportCount < 65535 then x.reportCount + 1 else 65535
    witness := x.witness.insert r.source, present := x.present.insert r.source
    detail := if r.detail.isSome then r.detail else x.detail } := by
  unfold Entry.witnessed
  cases r.detail <;> rfl

theorem Entry.reopened_eq (now : Clock) (r : QReport) (x : Entry) : x.reopened now r = { x with
    episode := if x.episode < 255 then x.episode + 1 else 255
    openedAt := now, stateSince := now, lastReportAt := r.arrival, reportCount := 1
    witness := SourceSet.single r.source, present := SourceSet.single r.source, recurrence := 0, root := none
    demand := none, outcome := none, detail := if r.detail.isSome then r.detail else x.detail } := by
  unfold Entry.reopened
  cases r.detail <;> rfl

/-- The first state of an episode, in one record (R85, R87). -/
theorem Entry.begin_eq (now : Clock) (k : FaultClass) (z : Zone) (e : Entry) : e.begin now k z = { e with
    state := firstState k, stateSince := now
    demand := if immediate k then some (demandOf k z) else e.demand
    timer := if immediate k then .none else .confirm k.confirmWindow } := by
  unfold Entry.begin Entry.confirm firstState
  split <;> simp [*]

/-- Settles O30, by the state of the entry that the report lands on. -/
theorem presentReportOnAnActiveEntry : Obligations.PresentReportOnAnActiveEntry := by
  intro r e s applying present found x k count y
  have landed := (s.emptied.land_present present).trans (State.landPresent_on found)
  obtain ⟨t, applied, entry, others, overflow, h⟩ := exec_reportApplied_on applying landed
  rw [Entry.afterPresent_snapshot] at h
  have entry : (t.entry e).unrooted =
    ((x.afterPresent s.device.clock k (s.zoneOf x.zone) r).withBuffer r.buffer).unrooted := entry
  have witnessed : (x.witnessed r).withBuffer r.buffer = y := by
    rw [Entry.witnessed_eq]
    rfl
  refine ⟨t, applied, others, h.dealt, h.settles, h.applying, overflow, h.config, h.device, h.monitor, h.motion,
    fun stays => ?_, fun suspect few one => ?_, fun suspect enough => ?_, fun healing => ?_, fun retired => ?_⟩
  · rw [entry, Entry.afterPresent_stays stays, witnessed]
  · rw [entry, Entry.afterPresent_suspect suspect, if_neg, witnessed]
    exact not_or.2 ⟨Nat.not_le.2 few, Nat.not_le.2 one⟩
  · rw [entry, Entry.afterPresent_suspect suspect, if_pos (by exact enough), ← witnessed]
    rfl
  · rw [entry, Entry.afterPresent_healing healing, ← witnessed]
    have third : x.recurrence + 1 < 3 ↔ x.recurrence < 2 := by omega
    simp only [Entry.recur, Entry.witnessed_eq, third]
    rfl
  · rw [entry, Entry.afterPresent_retired retired, Entry.begin_eq, Entry.reopened_eq]
    rfl

/-! ### An ABSENT report -/

theorem SourceSet.remove_of_not_has {t : SourceSet} {q : Source} (h : t.has q = false) : t.remove q = t := by
  cases q <;> simp only [SourceSet.has] at h <;> simp [SourceSet.remove, ← h]

/-- What an ABSENT report makes of an entry whose source it withdraws, by whether its present set empties (R62, R89, R92, R96). -/
theorem Entry.onAbsent_eq (now : Clock) (k : FaultClass) (r : QReport) (x : Entry) :
    let withdrawn : Entry := { x with lastReportAt := r.arrival, present := x.present.remove r.source }
    x.onAbsent now k r =
      if x.present.has r.source = true ∧ withdrawn.present = SourceSet.empty ∧ x.state = .suspect then
        withdrawn.retire now .dismissed
      else if x.present.has r.source = true ∧ withdrawn.present = SourceSet.empty ∧ x.state = .confirmed then
        withdrawn.heal now k
      else withdrawn := by
  unfold Entry.onAbsent
  dsimp only
  cases has : x.present.has r.source with
  | false => simp [SourceSet.remove_of_not_has has]
  | true =>
    by_cases empty : x.present.remove r.source = SourceSet.empty
    · cases state : x.state <;> simp [empty]
    · simp [empty]

theorem State.landAbsent_nowhere {r : QReport} {s : State} (unheld : s.faults.lookup r.zone r.cls = none) :
    s.landAbsent r = (s, none) := by
  unfold State.landAbsent
  simp only [unheld]

/-- Settles O31, by whether the pair has an entry, and by the state of the entry that the report lands on. -/
theorem absentReportWithdrawsItsSource : Obligations.AbsentReportWithdrawsItsSource := by
  intro r s applying absent
  refine ⟨fun unheld => ?_, fun e found => ?_⟩
  · have landed := (s.emptied.land_absent absent).trans (State.landAbsent_nowhere unheld)
    obtain ⟨t, applied, entries, overflow, h⟩ := exec_reportApplied_nowhere applying landed rfl rfl rfl
    exact ⟨t, applied, entries, h.dealt, h.settles, overflow, h.applying, h.config, h.device, h.monitor, h.motion⟩
  · intro x k y retired
    have landed := (s.emptied.land_absent absent).trans (State.landAbsent_on found)
    obtain ⟨t, applied, entry, others, overflow, h⟩ := exec_reportApplied_on applying landed
    rw [(Entry.onAbsent_kept ..).1] at h
    have entry : (t.entry e).unrooted = ((x.onAbsent s.device.clock k r).withBuffer r.buffer).unrooted := entry
    rw [Entry.onAbsent_eq] at entry
    refine ⟨t, applied, others, h.dealt, h.settles, overflow, h.applying, h.config, h.device, h.monitor, h.motion,
      fun stays => ?_, fun has empty suspect => ?_, fun has empty confirmed now => ?_, fun has empty confirmed later => ?_⟩
    · rw [entry, if_neg, if_neg]
      · rfl
      all_goals
        rintro ⟨has, empty, state⟩
        simp_all [y]
    · rw [entry, if_pos ⟨has, empty, suspect⟩]
      rfl
    · rw [entry, if_neg (by simp [confirmed]), if_pos ⟨has, empty, confirmed⟩, Entry.heal, if_pos now]
      rfl
    · rw [entry, if_neg (by simp [confirmed]), if_pos ⟨has, empty, confirmed⟩, Entry.heal, if_neg later.ne']
      rfl

end Sys2Proof.Machine
end

section
/-!
PROOFS. A PRESENT report of a new pair: the FREE entry that it opens, or the RETIRED one that it reclaims.
-/
namespace Sys2Proof.Machine

open Sys2Proof

/-! ### The oldest RETIRED entry -/

/-- One comparison of R65: a RETIRED entry that is older than the best so far is the best. -/
def FaultTable.older (now : Clock) (t : FaultTable) (best : Option (Fin 48)) (i : Fin 48) : Option (Fin 48) :=
  if t.entries[i].state = .retired then
    match best with
    | none => some i
    | some b => if t.entries[b].age now < t.entries[i].age now then some i else best
  else best

theorem FaultTable.oldestRetired_eq (now : Clock) (t : FaultTable) :
    t.oldestRetired now = (List.finRange 48).foldl (t.older now) none := rfl

theorem FaultTable.older_first {now : Clock} {t : FaultTable} {i : Fin 48} (retired : t.entries[i].state = .retired) :
    t.older now none i = some i := if_pos retired

theorem FaultTable.older_better {now : Clock} {t : FaultTable} {b i : Fin 48} (retired : t.entries[i].state = .retired)
    (better : t.entries[b].age now < t.entries[i].age now) : t.older now (some b) i = some i :=
  (if_pos retired).trans (if_pos better)

theorem FaultTable.older_kept {now : Clock} {t : FaultTable} {b i : Fin 48}
    (h : t.entries[i].state = .retired → t.entries[i].age now ≤ t.entries[b].age now) : t.older now (some b) i = some b := by
  unfold FaultTable.older
  split
  · next retired => exact if_neg (Nat.not_lt.2 (h retired))
  · rfl

theorem FaultTable.older_cases (now : Clock) (t : FaultTable) (best : Option (Fin 48)) (i : Fin 48) :
    t.older now best i = best ∨ t.entries[i].state = .retired ∧ t.older now best i = some i := by
  by_cases retired : t.entries[i].state = .retired
  · cases best with
    | none => exact .inr ⟨retired, FaultTable.older_first retired⟩
    | some b =>
      by_cases better : t.entries[b].age now < t.entries[i].age now
      · exact .inr ⟨retired, FaultTable.older_better retired better⟩
      · exact .inl (FaultTable.older_kept fun _ => Nat.not_lt.1 better)
  · exact .inl (if_neg retired)

/-- The best of some entries is none, or a RETIRED one of them. -/
theorem FaultTable.foldl_older (now : Clock) (t : FaultTable) (l : List (Fin 48)) :
    l.foldl (t.older now) none = none ∨ ∃ b ∈ l, t.entries[b].state = .retired ∧ l.foldl (t.older now) none = some b := by
  induction l using List.reverseRecOn with
  | nil => exact .inl rfl
  | append_singleton l i ih =>
    rw [List.foldl_append, List.foldl_cons, List.foldl_nil]
    obtain same | ⟨retired, new⟩ := t.older_cases now (l.foldl (t.older now) none) i
    · rw [same]
      exact ih.imp id fun ⟨b, hb, h⟩ => ⟨b, List.mem_append_left _ hb, h⟩
    · exact .inr ⟨i, by simp, retired, new⟩

/-- The RETIRED entry of the greatest age, the lowest-indexed among equals, is the oldest (R65). -/
theorem FaultTable.oldestRetired_some {now : Clock} {t : FaultTable} {e : Fin 48} (retired : t.entries[e].state = .retired)
    (greatest : ∀ i : Fin 48, t.entries[i].state = .retired → t.entries[i].age now ≤ t.entries[e].age now)
    (lowest : ∀ i < e, t.entries[i].state = .retired → t.entries[i].age now < t.entries[e].age now) :
    t.oldestRetired now = some e := by
  obtain ⟨before, after, split⟩ := List.append_of_mem (List.mem_finRange e)
  have sorted := List.pairwise_lt_finRange 48
  rw [split, List.pairwise_append] at sorted
  have here : t.older now (before.foldl (t.older now) none) e = some e := by
    obtain none | ⟨b, mem, hb, best⟩ := t.foldl_older now before
    · rw [none, FaultTable.older_first retired]
    · rw [best, FaultTable.older_better retired (lowest b (sorted.2.2 b mem e List.mem_cons_self) hb)]
  rw [FaultTable.oldestRetired_eq, split, List.foldl_append, List.foldl_cons, here]
  exact foldl_holds (fun best => best = some e) (fun _ i h => h ▸ FaultTable.older_kept (greatest i)) after _ rfl

/-! ### The entry of a new pair -/

theorem FaultTable.firstFree_some {t : FaultTable} {e : Fin 48} (free : t.entries[e].state = .free)
    (lower : ∀ i < e, t.entries[i].state ≠ .free) : t.firstFree = some e :=
  firstAt_eq_some (beq_iff_eq.2 free) fun i hi => beq_eq_false_iff_ne.2 (lower i hi)

theorem FaultTable.firstFree_none {t : FaultTable} (full : ∀ i : Fin 48, t.entries[i].state ≠ .free) : t.firstFree = none :=
  firstAt_eq_none fun i => beq_eq_false_iff_ne.2 (full i)

theorem State.landPresent_opens {r : QReport} {e : Fin 48} {s : State} (unheld : s.faults.lookup r.zone r.cls = none)
    (free : s.faults.firstFree = some e) : s.landPresent r = (s.openEntry e r, some e) := by
  unfold State.landPresent
  simp only [unheld, free]

theorem State.landPresent_reclaims {r : QReport} {e : Fin 48} {s : State} (unheld : s.faults.lookup r.zone r.cls = none)
    (full : s.faults.firstFree = none) (oldest : s.faults.oldestRetired s.device.clock = some e) :
    s.landPresent r = ((s.freeEntry e).openEntry e r, some e) := by
  unfold State.landPresent
  simp only [unheld, full, oldest]

/-- The entry that a report opens, once it has the report's buffer (R64, R85, R49). -/
theorem Entry.opened_first (now : Clock) (k : FaultClass) (z : Zone) (r : QReport) :
    (((Entry.opened now r).begin now k z).withBuffer r.buffer).unrooted = firstEntry now k z r r.buffer := by
  rw [Entry.withBuffer_empty _ (Entry.begin_kept ..).1, Entry.begin_eq]
  rfl

/-- Freeing an entry frees the snapshot that it names (R59). -/
theorem State.freeEntry_freed (e : Fin 48) (s : State) :
    BuffersFreed (fun b => (s.entry e).snapshot = some b) s (s.freeEntry e) := by
  obtain ⟨free, spared, detached, slots, intake⟩ := State.freeSnapshot_freed (s.entry e).snapshot s
  exact ⟨free, spared, detached, slots, intake⟩

theorem State.entry_freeEntry_ne {e i : Fin 48} (s : State) (h : i ≠ e) : (s.freeEntry e).entry i = s.entry i := by
  unfold State.freeEntry
  rw [State.entry_setEntry_ne _ _ h]
  exact State.entry_congr (by simp) i

/-- Settles O28: the report lands on the lowest-indexed FREE entry, or on the oldest RETIRED one once that is FREE and its
snapshot with it. -/
theorem presentReportOpensAnEntry : Obligations.PresentReportOpensAnEntry := by
  intro r e s applying present new
  have unheld : s.emptied.faults.lookup r.zone r.cls = none := FaultTable.lookup_eq_none.2 new
  have lands := s.emptied.land_present present
  refine ⟨fun free lower => ?_, fun full retired greatest lowest => ?_⟩
  · have landed := lands.trans (State.landPresent_opens unheld (FaultTable.firstFree_some free lower))
    obtain ⟨t, applied, entry, others, overflow, h⟩ := exec_reportApplied_on applying landed
    rw [(Entry.begin_kept ..).1] at h
    have dealt : BufferDealt r (some e) s t := h.dealt
    exact ⟨t, applied, entry.trans (Entry.opened_first ..), others, dealt, h.settles, h.applying, overflow, dealt.intake_eq,
      h.config, h.device, h.monitor, h.motion⟩
  · have landed := lands.trans (State.landPresent_reclaims unheld (FaultTable.firstFree_none full)
      (FaultTable.oldestRetired_some retired greatest lowest))
    obtain ⟨t, applied, follows⟩ := exec_reportApplied applying
    have made : s.applyReport r = ((s.emptied.freeEntry e).openEntry e r).dealBuffer r.buffer (some e) := by
      rw [State.applyReport_eq, landed]
    have freed : BuffersFreed (fun b => (s.entry e).snapshot = some b) s (s.emptied.freeEntry e) := by
      obtain ⟨free, spared, detached, slots, intake⟩ := s.emptied.freeEntry_freed e
      exact ⟨free, spared, detached, slots, intake⟩
    have opened : ((s.emptied.freeEntry e).openEntry e r).entry e =
        (Entry.opened s.device.clock r).begin s.device.clock (s.classOf r.cls) (s.zoneOf r.zone) := by
      rw [State.openEntry, State.entry_setEntry]
      simp [State.classOf, State.zoneOf, State.emptied]
    obtain ⟨entry, others, dealt⟩ := State.dealBuffer_on r e ((s.emptied.freeEntry e).openEntry e r)
    rw [opened, (Entry.begin_kept ..).1, ← made] at dealt
    have dealt : BufferDealt r (some e) (s.emptied.freeEntry e) t := dealt.congr (by simp) (by simp) follows.pool follows.intake
    have slots (p : Station) : t.slot p = (s.emptied.freeEntry e).slot p := dealt.slots p nofun
    have intake : t.intake = (s.emptied.freeEntry e).intake := dealt.intake_eq
    refine ⟨t, applied, ?_, fun i hi => ?_, ?_, ?_, ?_, ?_, ?_, follows.settles, ?_, ?_, ?_, ?_, follows.config, follows.device,
      follows.monitor, follows.motion⟩
    · rw [follows.entries, made, entry, opened]
      exact Entry.opened_first ..
    · rw [follows.entries, made, others i hi, State.openEntry, State.entry_setEntry_ne _ _ hi, State.entry_freeEntry_ne _ hi]
      rfl
    · exact fun b held spared => (dealt.spared b spared).trans (freed.free b held)
    · intro b bound spared
      rw [dealt.bound b e bound rfl, freed.spared b spared]
    · exact fun b unbound spared => (dealt.spared b unbound).trans (freed.spared b spared)
    · exact fun b p a held writer assembly buffer => (slots p).trans (freed.detached b p a held writer assembly buffer)
    · exact fun p spared => (slots p).trans (freed.slots p spared)
    · rw [follows.applying, made]
      simp [State.emptied]
    · rw [follows.overflow, made]
      simp [State.emptied]
    · rw [intake]
      simp [State.emptied]
    · rw [intake]
      simp [State.emptied]

end Sys2Proof.Machine
end

section
/-!
PROOFS. An entry retired as an event of its own, the timers of the Fault Table, and a NOTICE handed to port 0.
-/
namespace Sys2Proof.Machine

open Sys2Proof

/-! ### An entry retired -/

/-- Entries that agree but for their roots, and in their roots, are one. -/
theorem Entry.eq_of_unrooted {x y : Entry} (h : x.unrooted = y.unrooted) (root : x.root = y.root) : x = y := by
  calc x = { x.unrooted with root := x.root } := rfl
    _ = { y.unrooted with root := y.root } := by rw [h, root]

theorem State.retireEntry_follows (e : Fin 48) (o : EpisodeEnd) (s : State) :
    Follows s (s.setEntry e ((s.entry e).retire s.device.clock o)) (s.retireEntry e o) :=
  State.settle_follows rfl

/-- The entry is RETIRED with its outcome, and no other changes but its root (R82, R103). -/
theorem State.retireEntry_entry (e : Fin 48) (o : EpisodeEnd) (s : State) :
    ((s.retireEntry e o).entry e).unrooted = ((s.entry e).retire s.device.clock o).unrooted ∧
      ∀ i, i ≠ e → ((s.retireEntry e o).entry i).unrooted = (s.entry i).unrooted := by
  have follows := s.retireEntry_follows e o
  exact ⟨by rw [follows.entries, State.entry_setEntry], fun i hi => by rw [follows.entries, State.entry_setEntry_ne _ _ hi]⟩

/-- A RETIRED entry has no root once the roots are settled (R82). -/
theorem TableSettles.root_of_retired {s t : State} (h : TableSettles s t) {e : Fin 48} (retired : (t.entry e).state = .retired) :
    (t.entry e).root = none := by
  rw [h.roots, if_neg]
  simp [Entry.active, retired]

/-! ### The timers of an entry -/

theorem exec_confirmWindowExpiry {e : Fin 48} {n : Nat} {s : State} (runs : (s.entry e).timer = .confirm n) :
    exec (.confirmWindowExpiry e) s = .next (s.retireEntry e .dismissed) := by
  simp only [exec, execConfirmWindowExpiry, runs]

theorem exec_healHoldExpiry {e : Fin 48} {n : Nat} {s : State} (runs : (s.entry e).timer = .heal n) :
    exec (.healHoldExpiry e) s = .next (s.retireEntry e .healed) := by
  simp only [exec, execHealHoldExpiry, runs]

/-! ### The notice timers -/

/-- A NOTICE is handed to port 0, unless that is in SYNC or OFFLINE (R77). -/
theorem State.handNotice_eq (s : State) : s.handNotice =
    if (s.port .ride).state = .hold ∨ (s.port .ride).state = .turn ∨ (s.port .ride).state = .recover then
      s.modPort .ride fun o => { o with notice := true } else s := by
  unfold State.handNotice
  split
  · next away => exact State.modPort_congr (if_pos ((Port.inExchange_iff _).2 away))
  · next away => exact State.modPort_congr (g := id) (if_neg (mt (Port.inExchange_iff _).1 away))

theorem exec_noticeDelayExpiry {s : State} (runs : s.faults.noticeDelay.isSome = true) :
    exec .noticeDelayExpiry s = .next s.handNotice.stopNoticeTimers := by
  obtain ⟨n, left⟩ := Option.isSome_iff_exists.1 runs
  simp only [exec, execNoticeDelayExpiry, left]

theorem exec_absoluteDelayExpiry {s : State} (runs : s.faults.absoluteDelay.isSome = true) :
    exec .absoluteDelayExpiry s = .next s.handNotice.stopNoticeTimers := by
  obtain ⟨n, left⟩ := Option.isSome_iff_exists.1 runs
  simp only [exec, execAbsoluteDelayExpiry, left]

/-- Settles O32: either timer of an entry retires it, and either notice timer hands a NOTICE and stops both. -/
theorem faultTableTimersExpire : Obligations.FaultTableTimersExpire := by
  refine ⟨?_, ?_⟩
  · intro e n s retired kept
    have kept (o : EpisodeEnd) : kept (s.retireEntry e o) := by
      obtain ⟨-, others⟩ := s.retireEntry_entry e o
      have follows := s.retireEntry_follows e o
      exact ⟨others, follows.settles, follows.overflow, follows.applying, follows.pool, follows.intake, follows.config,
        follows.device, follows.monitor, follows.motion⟩
    have entry (o : EpisodeEnd) : ((s.retireEntry e o).entry e).unrooted = retired o := (s.retireEntry_entry e o).1
    exact ⟨fun runs => ⟨_, exec_confirmWindowExpiry runs, entry _, kept _⟩,
      fun runs => ⟨_, exec_healHoldExpiry runs, entry _, kept _⟩⟩
  · intro s handed t
    have stopped : s.handNotice.stopNoticeTimers = t := by
      have faults : s.handNotice.faults = s.faults := by simp
      unfold State.stopNoticeTimers
      rw [faults, State.handNotice_eq]
    exact ⟨fun runs => by rw [exec_noticeDelayExpiry runs, stopped], fun runs => by rw [exec_absoluteDelayExpiry runs, stopped]⟩

end Sys2Proof.Machine
end

section
/-!
PROOFS. CLEAR: the entry that it names, its checks in order, and the entry retired as CLEARED.
-/
namespace Sys2Proof.Machine

open Sys2Proof

/-! ### An event of the Fault Table in a turn -/

/-- What follows an event rests, before it, on the table, the records, the Ladder, the generation and who is in the exchange. -/
theorem TableSettles.of_start {s w t : State} (faults : w.faults = s.faults) (config : w.config = s.config)
    (ladder : w.ladder = s.ladder) (publication : w.publication = s.publication)
    (exchange : ∀ p, (w.port p).inExchange = (s.port p).inExchange) (h : TableSettles w t) : TableSettles s t := by
  have entry := State.entry_congr faults
  obtain ⟨roots, high, changed, quiet, tightened, waited, untold⟩ := h
  simp only [faults, entry, exchange, ladder, publication] at high changed quiet tightened waited untold
  exact ⟨roots, high, changed, quiet,
    fun demands stricter => (tightened demands stricter).of_start config publication exchange,
    fun demands looser => (waited demands looser).of_start config publication ladder, untold⟩

/-- A verdict adds nothing to what follows an event. -/
theorem TableSettles.addVerdict {s t : State} (h : TableSettles s t) (p : Station) (v : Verdict) :
    TableSettles s (t.addVerdict p v) := by
  have port (q : Station) : ((t.addVerdict p v).port q).envelope = (t.port q).envelope ∧
      ((t.addVerdict p v).port q).grantDue = (t.port q).grantDue ∧
      ((t.addVerdict p v).port q).notice = (t.port q).notice := by
    rw [State.addVerdict, State.port_modPort_eq]
    split <;> exact ⟨rfl, rfl, rfl⟩
  refine { h with
    high := fun low reached => ?_
    tightened := fun demands stricter => ?_
    waited := fun demands looser => ?_ }
  · obtain ⟨flag, delay, absolute, notice⟩ := h.high low reached
    obtain ⟨-, -, sameNotice⟩ := port .ride
    exact ⟨flag, delay, absolute, fun away => sameNotice.trans (notice away)⟩
  · have published := h.tightened demands stricter
    refine { published with placed := fun q away => ?_ }
    obtain ⟨envelope, grant, adoption⟩ := published.placed q away
    obtain ⟨sameEnvelope, sameGrant, -⟩ := port q
    exact ⟨sameEnvelope.trans envelope, sameGrant.trans grant, adoption⟩
  · exact { h.waited demands looser with }

theorem TableSettles.of_counted {s t : State} {p : Station} (h : TableSettles (s.counted p) t) : TableSettles s t := by
  refine h.of_start (by simp) (by simp) (by simp) (by simp) fun q => ?_
  rw [State.counted, State.port_modPort_eq]
  split <;> rfl

theorem State.handNotice_verdicts (s : State) (p : Station) : (s.handNotice.port p).verdicts = (s.port p).verdicts := by
  rw [State.handNotice, State.port_modPort_eq]
  split
  · split <;> rfl
  · rfl

/-- The verdicts of a turn are not touched by what follows an event. -/
theorem State.settle_verdicts (old : FaultTable) (s : State) (p : Station) :
    ((s.settle old).port p).verdicts = (s.port p).verdicts := by
  have notified (t : State) : ((t.notify old).port p).verdicts = (t.port p).verdicts := by
    unfold State.notify
    split
    · exact State.handNotice_verdicts { t with faults := { t.faults with highWater := true } } p
    · split <;> rfl
  have told (t : State) : ((t.tellLadder old).port p).verdicts = (t.port p).verdicts := by
    unfold State.tellLadder
    split
    · exact (congrArg Port.verdicts (t.reform_reaches p).1 :)
    · rfl
  unfold State.settle
  split
  · rw [told, notified]
    rfl
  · rfl

theorem State.retireEntry_verdicts (e : Fin 48) (o : EpisodeEnd) (s : State) (p : Station) :
    ((s.retireEntry e o).port p).verdicts = (s.port p).verdicts := State.settle_verdicts ..

theorem State.port_addVerdict_verdicts (p : Station) (v : Verdict) (t : State) :
    ((t.addVerdict p v).port p).verdicts = (t.port p).verdicts ++ [v] := by
  rw [State.addVerdict, State.port_modPort]

/-! ### What a CLEAR names -/

/-- A CLEAR names an entry by its index, or by its pair (R99). -/
theorem parseClear_eq_some (payload : List Byte) (n : ClearName) : parseClear payload = some n ↔
    (∃ (b : Byte) (e : Fin 48), payload = [0, b] ∧ b.toNat = e.val ∧ n = .index e) ∨
      ∃ (z c : Byte) (zone : Fin 16) (cls : Fin 32), payload = [1, z, c] ∧ z.toNat = zone.val ∧ c.toNat = cls.val ∧
        n = .pair zone cls := by
  constructor
  · intro h
    unfold parseClear at h
    split at h
    · next code b =>
      split at h
      · next zero =>
        simp only [Option.map_eq_some_iff, fin?_eq_some] at h
        obtain ⟨e, he, rfl⟩ := h
        exact .inl ⟨b, e, by rw [BitVec.eq_of_toNat_eq (y := 0) zero], he, rfl⟩
      · contradiction
    · next code z c =>
      split at h
      · next one =>
        simp only [Option.bind_eq_bind, Option.bind_eq_some_iff, Option.some.injEq, fin?_eq_some] at h
        obtain ⟨zone, hz, cls, hc, rfl⟩ := h
        exact .inr ⟨z, c, zone, cls, by rw [BitVec.eq_of_toNat_eq (y := 1) one], hz, hc, rfl⟩
      · contradiction
    · contradiction
  · rintro (⟨b, e, rfl, he, rfl⟩ | ⟨z, c, zone, cls, rfl, hz, hc, rfl⟩)
    · simp [parseClear, fin?_eq_some.2 he]
    · simp [parseClear, fin?_eq_some.2 hz, fin?_eq_some.2 hc]

theorem parseClear_none {payload : List Byte} (index : ¬∃ i : Byte, i.toNat < 48 ∧ payload = [0, i])
    (pair : ¬∃ z c : Byte, z.toNat < 16 ∧ c.toNat < 32 ∧ payload = [1, z, c]) : parseClear payload = none := by
  refine Option.eq_none_iff_forall_ne_some.2 fun n hn => ?_
  obtain ⟨b, e, same, he, -⟩ | ⟨z, c, zone, cls, same, hz, hc, -⟩ := (parseClear_eq_some payload n).1 hn
  · exact index ⟨b, he ▸ e.isLt, same⟩
  · exact pair ⟨z, c, hz ▸ zone.isLt, hc ▸ cls.isLt, same⟩

/-- The entry that alone holds a pair is the one found (R61). -/
theorem FaultTable.lookup_eq_some {t : FaultTable} {zone : Fin 16} {cls : Fin 32} {e : Fin 48}
    (holds : t.entries[e].state ≠ .free ∧ t.entries[e].zone = zone ∧ t.entries[e].cls = cls)
    (alone : ∀ i : Fin 48, i ≠ e → t.entries[i].state ≠ .free → ¬(t.entries[i].zone = zone ∧ t.entries[i].cls = cls)) :
    t.lookup zone cls = some e :=
  firstAt_eq_some ((Entry.holds_iff ..).2 holds) fun i before => by
    rw [← Bool.not_eq_true, Entry.holds_iff]
    exact fun ⟨used, same⟩ => alone i before.ne used same

/-- The payload of a CLEAR of entry `e`, by its index or by the pair that it alone holds. -/
def State.clears (s : State) (e : Fin 48) (payload : List Byte) : Prop :=
  payload = [0, BitVec.ofNat 8 e.val] ∨
    ∃ z c : Byte, payload = [1, z, c] ∧ (s.entry e).state ≠ .free ∧ (s.entry e).zone.val = z.toNat ∧
      (s.entry e).cls.val = c.toNat ∧
      ∀ i, i ≠ e → (s.entry i).state ≠ .free → ¬((s.entry i).zone.val = z.toNat ∧ (s.entry i).cls.val = c.toNat)

/-- Such a CLEAR names the entry, unless the entry is FREE (check 3 of R99). -/
theorem State.clears.named {s : State} {e : Fin 48} {payload : List Byte} (h : s.clears e payload) :
    ∃ n, parseClear payload = some n ∧ s.named n = if (s.entry e).used then some e else none := by
  obtain rfl | ⟨z, c, rfl, used, hz, hc, alone⟩ := h
  · exact ⟨.index e, (parseClear_eq_some _ _).2 (.inl ⟨_, e, rfl, toNat_ofNat_fin (by decide) e, rfl⟩), rfl⟩
  · refine ⟨.pair (s.entry e).zone (s.entry e).cls,
      (parseClear_eq_some _ _).2 (.inr ⟨z, c, _, _, rfl, hz.symm, hc.symm, rfl⟩), ?_⟩
    rw [if_pos (by simpa [Entry.used] using used)]
    refine FaultTable.lookup_eq_some ⟨used, rfl, rfl⟩ fun i other held ⟨zone, cls⟩ => alone i other held ?_
    exact ⟨hz ▸ congrArg Fin.val zone, hc ▸ congrArg Fin.val cls⟩

/-! ### The checks of R99, and R100 -/

theorem State.judgeClear_idle {p : Station} {s : State} (payload : List Byte) (idle : s.running = false) :
    s.judgeClear p payload = (s, .wrongState) := by
  simp [State.judgeClear, idle]

theorem State.judgeClear_malformed {p : Station} {payload : List Byte} {s : State} (running : s.running = true)
    (bad : parseClear payload = none) : s.judgeClear p payload = (s, .malformed) := by
  simp [State.judgeClear, running, bad]

theorem State.judgeClear_unheld {p : Station} {payload : List Byte} {zone : Fin 16} {cls : Fin 32} {s : State}
    (running : s.running = true) (good : parseClear payload = some (.pair zone cls))
    (unheld : s.faults.lookup zone cls = none) : s.judgeClear p payload = (s, .notFound) := by
  simp [State.judgeClear, running, good, State.named, unheld]

/-- A CLEAR of entry `e`: the checks in order, and the entry retired. -/
theorem State.judgeClear_entry {p : Station} {payload : List Byte} {e : Fin 48} {s : State} (running : s.running = true)
    (clears : s.clears e payload) : s.judgeClear p payload =
      if (s.entry e).state = .free then (s, .notFound)
      else if p ≠ .ride ∧ (s.zoneOf (s.entry e).zone).owner ≠ p then (s, .notPermitted)
      else if (s.entry e).state ≠ .latched then (s, .notLatched)
      else if s.faults.parked = false then (s, .notParked)
      else if (s.entry e).present ≠ SourceSet.empty then (s, .stillPresent)
      else (s.retireEntry e .cleared, .taken) := by
  obtain ⟨n, good, named⟩ := clears.named
  by_cases free : (s.entry e).state = .free
  · simp [State.judgeClear, running, good, named, Entry.used, free]
  · simp [State.judgeClear, running, good, named, Entry.used, free, State.judgeClearEntry]

/-! ### The answers -/

theorem exec_clear_takes {p : Station} {s : State} (payload : List Byte) (h : s.takes p) :
    exec (.clear p false payload) s = .next (((s.counted p).judgeClear p payload).1.addVerdict p
      ((s.counted p).judgeClear p payload).2) :=
  congrArg Host.Outcome.next (State.receipted_takes h)

/-- A CLEAR that fails a check is answered, and changes nothing else. -/
theorem exec_clear_refused {p : Station} {payload : List Byte} {v : Verdict} {s : State} (takes : s.takes p)
    (refused : (s.counted p).judgeClear p payload = (s.counted p, v)) :
    exec (.clear p false payload) s = .next (s.answered p v) := by
  rw [exec_clear_takes payload takes, refused, State.counted_addVerdict]

/-- A CLEAR that passes the checks retires its entry as CLEARED and is TAKEN (R100). -/
theorem exec_clear_taken {p : Station} {payload : List Byte} {e : Fin 48} {s : State} (takes : s.takes p)
    (running : s.running = true) (passes : (s.counted p).judgeClear p payload = ((s.counted p).retireEntry e .cleared, .taken)) :
    ∃ t, exec (.clear p false payload) s = .next t ∧ (t.port p).verdicts = (s.port p).verdicts ++ [.taken] ∧
      t.entry e = { s.entry e with
        state := .retired, stateSince := s.device.clock, timer := .none, outcome := some .cleared, root := none } ∧
      (∀ i, i ≠ e → (t.entry i).unrooted = (s.entry i).unrooted) ∧ TableSettles s t ∧
      t.faults.overflow = s.faults.overflow ∧ t.pool = s.pool ∧ t.intake = s.intake ∧ t.config = s.config ∧
      t.motion = s.motion := by
  have follows := (s.counted p).retireEntry_follows e .cleared
  obtain ⟨entry, others⟩ := (s.counted p).retireEntry_entry e .cleared
  have verdicts : (((s.counted p).retireEntry e .cleared).port p).verdicts = (s.port p).verdicts := by
    rw [State.retireEntry_verdicts, State.counted_port]
  refine ⟨_, by rw [exec_clear_takes payload takes, passes], ?_⟩
  generalize (s.counted p).retireEntry e .cleared = t at follows entry others verdicts
  have settles := follows.settles running
  have retired : (t.entry e).state = .retired := congrArg Entry.state entry
  exact ⟨by rw [State.port_addVerdict_verdicts, verdicts], Entry.eq_of_unrooted entry (settles.root_of_retired retired), others,
    (settles.addVerdict p .taken).of_counted, follows.overflow, follows.pool, follows.intake, follows.config, follows.motion⟩

/-- Settles O33: checks 1 and 2 by what parses, checks 3 to 7 of an entry by `State.judgeClear_entry`. -/
theorem clearIsJudgedInOrder : Obligations.ClearIsJudgedInOrder := by
  intro p payload s takes
  refine ⟨fun idle => exec_clear_refused takes (State.judgeClear_idle payload idle),
    fun running index pair => exec_clear_refused takes (State.judgeClear_malformed running (parseClear_none index pair)), ?_, ?_⟩
  · rintro running z c hz hc rfl unheld
    have good := (parseClear_eq_some [1, z, c] _).2 (.inr ⟨z, c, ⟨z.toNat, hz⟩, ⟨c.toNat, hc⟩, rfl, rfl, rfl, rfl⟩)
    have absent : s.faults.lookup ⟨z.toNat, hz⟩ ⟨c.toNat, hc⟩ = none :=
      FaultTable.lookup_eq_none.2 fun i used ⟨zone, cls⟩ =>
        unheld i used ⟨congrArg Fin.val zone, congrArg Fin.val cls⟩
    exact exec_clear_refused takes (State.judgeClear_unheld running good absent)
  · intro e running clears
    have judged := State.judgeClear_entry (p := p) (s := s.counted p) running clears
    refine ⟨fun free => ?_, fun used other foreign => ?_, fun used permitted => ?_⟩
    · exact exec_clear_refused takes (judged.trans (by simp [free]))
    · exact exec_clear_refused takes (judged.trans (by simp [used, other, foreign]))
    · have owner := permitted.resolve_left
      refine ⟨fun state => ?_, fun latched away => ?_, fun latched parked still => ?_, fun latched parked gone => ?_⟩
      · exact exec_clear_refused takes (judged.trans (by simpa [used, state] using owner))
      · exact exec_clear_refused takes (judged.trans (by simpa [latched, away] using owner))
      · exact exec_clear_refused takes (judged.trans (by simpa [latched, parked, still] using owner))
      · exact exec_clear_taken takes running (judged.trans (by simpa [latched, parked, gone] using owner))

end Sys2Proof.Machine
end

section
/-!
PROOFS. How envelopes compare: the order of strictness (R112) with what the Ladder's combinations make of it, the axle-loss floor
(R114), and what one relaxation step makes of each field (R123).
-/
namespace Sys2Proof.Machine

open Sys2Proof

/-! ### The order of strictness -/

/-- `a` is at least as strict as `b` in every field (R112). -/
structure Limits.Covers (a b : Limits) : Prop where
  level : b.level.val ≤ a.level.val
  front : b.front.rank ≤ a.front.rank
  rear : b.rear.rank ≤ a.rear.rank
  regen : a.regenPermitted = true → b.regenPermitted = true
  ceiling : a.packCeiling ≤ b.packCeiling
  pack : b.packOpen = true → a.packOpen = true

namespace Limits

theorem covers_iff (a b : Limits) : a.Covers b ↔ b.someStricter a = false := by
  simp only [someStricter, Bool.or_eq_false_iff, decide_eq_false_iff_not, Nat.not_lt, Bool.and_eq_false_iff,
    Bool.not_eq_false']
  constructor
  · rintro ⟨level, front, rear, regen, ceiling, pack⟩
    refine ⟨⟨⟨⟨⟨level, front⟩, rear⟩, ?_⟩, ceiling⟩, ?_⟩
    · cases allowed : a.regenPermitted
      · exact .inr rfl
      · exact .inl (regen allowed)
    · cases opened : b.packOpen
      · exact .inl rfl
      · exact .inr (pack opened)
  · rintro ⟨⟨⟨⟨⟨level, front⟩, rear⟩, regen⟩, ceiling⟩, pack⟩
    exact ⟨level, front, rear, fun h => regen.resolve_right (by simp [h]), ceiling, fun h => pack.resolve_left (by simp [h])⟩

theorem Covers.refl (a : Limits) : a.Covers a := ⟨Nat.le_refl _, Nat.le_refl _, Nat.le_refl _, id, Nat.le_refl _, id⟩

theorem Covers.trans {a b c : Limits} (h : a.Covers b) (g : b.Covers c) : a.Covers c where
  level := g.level.trans h.level
  front := g.front.trans h.front
  rear := g.rear.trans h.rear
  regen := g.regen ∘ h.regen
  ceiling := h.ceiling.trans g.ceiling
  pack := h.pack ∘ g.pack

end Limits

theorem AxleState.rank_stricter (a b : AxleState) : (a.stricter b).rank = max a.rank b.rank := by
  unfold AxleState.stricter
  split <;> omega

namespace Limits

/-- The stricter of two envelopes covers both (R112). -/
theorem stricter_covers (a b : Limits) : (a.stricter b).Covers a ∧ (a.stricter b).Covers b := by
  have level : (levelStricter a.level b.level).val = max a.level.val b.level.val := by
    unfold levelStricter
    split <;> omega
  have front := AxleState.rank_stricter a.front b.front
  have rear := AxleState.rank_stricter a.rear b.rear
  constructor
  all_goals
    constructor
    all_goals simp +contextual [stricter, level, front, rear]

theorem stricter_self (a : Limits) : a.stricter a = a := by
  simp [stricter, levelStricter, AxleState.stricter]

/-- Escalation changes the level only, and that where no axle drives (R114). -/
theorem escalate_eq (l : Limits) : l.escalate = { l with level := l.escalate.level } ∧
    (l.front = .drive ∨ l.rear = .drive → l.escalate.level = l.level) ∧
    (l.front ≠ .drive → l.rear ≠ .drive → l.escalate.level.val = max 4 l.level.val) := by
  unfold escalate
  split
  · next loss =>
    simp only [noDrive, Bool.and_eq_true, bne_iff_ne, decide_eq_true_eq] at loss
    obtain ⟨⟨front, rear⟩, low⟩ := loss
    exact ⟨rfl, fun drives => (drives.elim front rear).elim, fun _ _ => (max_eq_left (Nat.le_of_lt low)).symm⟩
  · next high =>
    simp only [noDrive, Bool.and_eq_true, bne_iff_ne, decide_eq_true_eq, not_and, Nat.not_lt] at high
    exact ⟨rfl, fun _ => rfl, fun front rear => (max_eq_right (high ⟨front, rear⟩)).symm⟩

theorem escalate_covers (l : Limits) : l.escalate.Covers l := by
  obtain ⟨eq, driven, lost⟩ := l.escalate_eq
  have level : l.level.val ≤ l.escalate.level.val := by
    by_cases drives : l.front = .drive ∨ l.rear = .drive
    · rw [driven drives]
    · obtain ⟨front, rear⟩ := not_or.1 drives
      rw [lost front rear]
      exact le_max_right _ _
  rw [eq]
  exact { Covers.refl l with level := level }

theorem rank_cutPresent (a : AxleState) : a.rank ≤ a.cutPresent.rank := by
  cases a <;> decide

/-- The L5 parked rule cuts and opens only (R115). -/
theorem parkedRule_covers (parked : Bool) (l : Limits) : (l.parkedRule parked).Covers l := by
  unfold parkedRule
  split
  · exact { Covers.refl l with front := rank_cutPresent _, rear := rank_cutPresent _, pack := fun _ => rfl }
  · exact .refl l

theorem rank_step (parked : Bool) {published target : AxleState} (h : target.rank ≤ published.rank) :
    target.rank ≤ (published.step parked target).rank := by
  unfold AxleState.step
  split
  · next looser =>
    cases published with
    | drive => exact h
    | regenOnly => exact Nat.le_of_lt_succ looser
    | cut =>
      cases parked
      · exact h
      · exact Nat.le_of_lt_succ looser
    | absent => exact h
  · exact h

/-- A relaxation step does not go past the target (R123). -/
theorem step_covers (parked : Bool) {published target : Limits} (h : published.Covers target) :
    (step parked published target).Covers target := by
  refine (escalate_covers _).trans
    { level := ?_, front := rank_step parked h.front, rear := rank_step parked h.rear, regen := ?_, ceiling := ?_, pack := ?_ }
  · have := h.level
    dsimp only
    split
    · exact Nat.le_sub_one_of_lt ‹_›
    · exact this
  · intro either
    exact (Bool.or_eq_true_iff.1 either).elim h.regen id
  · exact max_le h.ceiling (Nat.le_refl _)
  · intro opened
    simp [opened, h.pack opened]

/-! ### The axle-loss floor -/

/-- The level is at least L4 while no axle drives (R114). -/
def Floored (l : Limits) : Prop :=
  l.front ≠ .drive → l.rear ≠ .drive → 4 ≤ l.level.val

theorem escalate_floored (l : Limits) : l.escalate.Floored := by
  obtain ⟨eq, -, lost⟩ := l.escalate_eq
  intro front rear
  rw [eq] at front rear
  rw [lost front rear]
  exact le_max_left _ _

theorem step_floored (parked : Bool) (published target : Limits) : (step parked published target).Floored :=
  escalate_floored _

/-- The L5 parked rule speaks of L5 only (R115). -/
theorem parkedRule_floored (parked : Bool) {l : Limits} (h : l.Floored) : (l.parkedRule parked).Floored := by
  unfold parkedRule
  split
  · next five =>
    have five : l.level = 5 := by simpa using (Bool.and_eq_true_iff.1 five).1
    intro _ _
    show 4 ≤ l.level.val
    rw [five]
    decide
  · exact h

theorem closed_floored (t : Topology) : (closed t).Floored := fun _ _ => by simp [closed]

theorem configure_floored (t : Topology) : (configure t).Floored := fun _ _ => by simp [configure]

end Limits

theorem targetLimits_floored (topo : Topology) (overflowLevel : Level) (t : FaultTable) (parked : Bool) :
    (targetLimits topo overflowLevel t parked).Floored :=
  Limits.parkedRule_floored parked (Limits.escalate_floored _)

/-! ### The demands in force -/

/-- A fold of demands covers its start and each demand (R111). -/
theorem foldl_stricter_covers (ask : Demand → Limits) (l : List (Fin 48 × Demand)) (start : Limits) :
    let all := l.foldl (fun l d => l.stricter (ask d.2)) start
    all.Covers start ∧ ∀ d ∈ l, all.Covers (ask d.2) := by
  induction l generalizing start with
  | nil => exact ⟨.refl start, nofun⟩
  | cons d l ih =>
    obtain ⟨past, others⟩ := ih (start.stricter (ask d.2))
    obtain ⟨kept, taken⟩ := start.stricter_covers (ask d.2)
    refine ⟨past.trans kept, fun x hx => ?_⟩
    obtain rfl | hx := List.mem_cons.1 hx
    · exact past.trans taken
    · exact others x hx

/-- The target covers every demand in force: each contributing entry's and the overflow demand (R111, R113). -/
theorem targetLimits_covers (topo : Topology) (overflowLevel : Level) (t : FaultTable) (parked : Bool) :
    let target := targetLimits topo overflowLevel t parked
    (∀ (e : Fin 48) d, t.entries[e].contributing = true → t.entries[e].demand = some d →
        target.Covers (d.asks topo parked)) ∧
      (t.anyCell = true → overflowLevel.val ≤ target.level.val) := by
  have formed : (targetLimits topo overflowLevel t parked).Covers (combine topo overflowLevel t parked) :=
    (Limits.parkedRule_covers parked _).trans (Limits.escalate_covers _)
  obtain ⟨start, each⟩ := foldl_stricter_covers (Demand.asks topo parked) t.demands
    (if t.anyCell then { Limits.open topo with level := overflowLevel } else Limits.open topo)
  refine ⟨fun e d contributing demand => formed.trans (each (e, d) ((t.mem_demands e d).2 ⟨contributing, demand⟩)),
    fun any => ?_⟩
  have start := (formed.trans start).level
  rwa [if_pos any] at start

/-! ### One relaxation step -/

/-- Each field of a relaxation step; the level is escalated where no axle drives (R123, R114). -/
theorem Limits.step_fields (parked : Bool) (pub tgt : Limits) :
    let l := Limits.step parked pub tgt
    let level := if tgt.level.val < pub.level.val then pub.level.val - 1 else pub.level.val
    l.front = pub.front.step parked tgt.front ∧ l.rear = pub.rear.step parked tgt.rear ∧
      l.regenPermitted = (pub.regenPermitted || tgt.regenPermitted) ∧ l.packCeiling = max pub.packCeiling tgt.packCeiling ∧
      l.packOpen = (pub.packOpen && (tgt.packOpen || !parked)) ∧
      (l.front = .drive ∨ l.rear = .drive → l.level.val = level) ∧
      (l.front ≠ .drive → l.rear ≠ .drive → l.level.val = max 4 level) := by
  obtain ⟨eq, driven, lost⟩ := escalate_eq
    { level := if tgt.level.val < pub.level.val then ⟨pub.level.val - 1, by omega⟩ else pub.level
      front := pub.front.step parked tgt.front
      rear := pub.rear.step parked tgt.rear
      regenPermitted := pub.regenPermitted || tgt.regenPermitted
      packCeiling := max pub.packCeiling tgt.packCeiling
      packOpen := pub.packOpen && (tgt.packOpen || !parked) }
  have val : (if tgt.level.val < pub.level.val then (⟨pub.level.val - 1, by omega⟩ : Level) else pub.level).val =
      if tgt.level.val < pub.level.val then pub.level.val - 1 else pub.level.val := by
    split <;> rfl
  dsimp only at eq driven lost ⊢
  rw [val] at lost
  unfold Limits.step
  rw [eq]
  exact ⟨rfl, rfl, rfl, rfl, rfl, fun drives => (congrArg Fin.val (driven drives)).trans val, lost⟩

/-- Settles O37, from each field of the step (`Limits.step_fields`), an axle by its published and its target state. -/
theorem relaxationStepLoosensFieldByField : Obligations.RelaxationStepLoosensFieldByField := by
  intro parked pub tgt
  obtain ⟨front, rear, regen, ceiling, pack, driven, lost⟩ := Limits.step_fields parked pub tgt
  have axle (now goal : AxleState) : now.step parked goal =
      match now, goal with
      | .cut, .drive | .cut, .regenOnly => if parked then AxleState.regenOnly else .cut
      | .regenOnly, .drive => .drive
      | x, _ => x := by
    cases now <;> cases goal <;> rfl
  dsimp only
  generalize Limits.step parked pub tgt = l at *
  refine ⟨fun _ _ => front.trans (axle _ _), fun _ _ => rear.trans (axle _ _), regen, ceiling, fun h g => ?_, fun h => ?_,
    fun drives looser => ?_, fun f r looser => ?_, fun drives reached => Fin.ext ?_⟩
  · rw [pack, h, g]
    rfl
  · rw [pack, h]
    cases tgt.packOpen <;> rfl
  · rw [driven drives, if_pos looser]
    omega
  · rw [lost f r, if_pos looser]
  · rw [driven drives, if_neg (Nat.not_lt.2 reached)]

end Sys2Proof.Machine
end

section
/-!
PROOFS. The demands that events of the Fault Table leave in force: the target rests on them (`State.formedTarget_congr`), and no
event gives an entry that stays concluded another demand (`Entry.KeepsDemand`, R109).
-/
namespace Sys2Proof.Machine

open Sys2Proof

/-! ### What the target rests on -/

/-- The demand that an entry has in force: its own while it contributes (R58). -/
def Entry.inForce (x : Entry) : Option Demand :=
  if x.contributing then x.demand else none

theorem FaultTable.demands_eq (t : FaultTable) :
    t.demands = (List.finRange 48).filterMap fun i => t.entries[i].inForce.map fun d => (i, d) := by
  unfold FaultTable.demands Entry.inForce
  congr 1
  funext i
  split <;> rfl

/-- The target rests on the topology, the overflow level, PARKED, the demands in force and whether a cell is set (R113). -/
theorem State.formedTarget_congr {s t : State} (topology : t.device.topology = s.device.topology)
    (level : t.config.overflowLevel = s.config.overflowLevel) (parked : t.ladder.parked = s.ladder.parked)
    (demands : ∀ e, (t.entry e).inForce = (s.entry e).inForce) (cells : t.faults.anyCell = s.faults.anyCell) :
    t.formedTarget = s.formedTarget := by
  have same (i : Fin 48) : t.faults.entries[i].inForce = s.faults.entries[i].inForce := demands i
  simp only [State.formedTarget, targetLimits, combine, FaultTable.demands_eq, same, topology, level, parked, cells]

/-! ### Entries that keep their demand -/

/-- `y` has the demand of `x` if both are concluded. -/
def Entry.KeepsDemand (x y : Entry) : Prop :=
  x.concluded = true → y.concluded = true → y.demand = x.demand

theorem Entry.concluded_of_contributing {x : Entry} (h : x.contributing = true) : x.concluded = true := by
  simp only [Entry.contributing, Bool.and_eq_true] at h
  exact h.1.1

/-- Where an entry keeps its demand and contributes as before, its demand in force is the one before. -/
theorem Entry.KeepsDemand.inForce {x y : Entry} (h : x.KeepsDemand y) (same : y.contributing = x.contributing) :
    y.inForce = x.inForce := by
  unfold Entry.inForce
  rw [same]
  split
  · next c => exact h (Entry.concluded_of_contributing c) (Entry.concluded_of_contributing (same.trans c))
  · rfl

namespace Entry.KeepsDemand

theorem refl (x : Entry) : x.KeepsDemand x := fun _ _ => rfl

/-- An entry that is FREE, SUSPECT or RETIRED before has no demand to keep. -/
theorem of_before {x y : Entry} (h : x.concluded = false) : x.KeepsDemand y :=
  fun before => by rw [h] at before; cases before

theorem of_after {x y : Entry} (h : y.concluded = false) : x.KeepsDemand y :=
  fun _ after => by rw [h] at after; cases after

theorem of_eq {x y : Entry} (h : y.demand = x.demand) : x.KeepsDemand y := fun _ _ => h

theorem of_retired {x y : Entry} (h : x.state = .retired) : x.KeepsDemand y := of_before (by simp [Entry.concluded, h])

theorem of_free {x y : Entry} (h : x.state = .free) : x.KeepsDemand y := of_before (by simp [Entry.concluded, h])

end Entry.KeepsDemand

/-- A PRESENT report gives a demand to a SUSPECT entry only (R86, R91, R93). -/
theorem Entry.onPresent_keepsDemand (now : Clock) (k : FaultClass) (z : Zone) (r : QReport) (x : Entry) :
    x.KeepsDemand (x.onPresent now k z r) := by
  by_cases suspect : x.state = .suspect
  · exact .of_before (by simp [Entry.concluded, suspect])
  · refine .of_eq ?_
    unfold Entry.onPresent
    dsimp only
    split
    · exact absurd ‹_› suspect
    all_goals rfl

/-- An ABSENT report changes no demand (R89, R92, R96). -/
theorem Entry.onAbsent_demand (now : Clock) (k : FaultClass) (r : QReport) (x : Entry) :
    (x.onAbsent now k r).demand = x.demand := by
  unfold Entry.onAbsent Entry.heal
  dsimp only
  repeat' split
  all_goals rfl

/-! ### Tables that keep their demands -/

/-- Every entry that is concluded in `s` and in `t` has the same demand in both. -/
def State.KeepsDemands (s t : State) : Prop := ∀ e, (s.entry e).KeepsDemand (t.entry e)

namespace State.KeepsDemands

theorem of_entries {s t : State} (h : t.faults.entries = s.faults.entries := by simp) : s.KeepsDemands t :=
  fun e => .of_eq (by simp only [State.entry, h])

theorem setEntry (s : State) {e : Fin 48} {x : Entry} (h : (s.entry e).KeepsDemand x) : s.KeepsDemands (s.setEntry e x) := by
  intro i
  rw [State.entry_setEntry_eq]
  split
  · next here => exact here ▸ h
  · exact .refl _

/-- An entry that changes after others keeps its demand, as it was before them. -/
theorem then_setEntry {s t : State} (h : s.KeepsDemands t) {e : Fin 48} {x : Entry} (hx : (s.entry e).KeepsDemand x) :
    s.KeepsDemands (t.setEntry e x) := by
  intro i
  rw [State.entry_setEntry_eq]
  split
  · next here => exact here ▸ hx
  · exact h i

theorem freeEntry {s t : State} (h : s.KeepsDemands t) (e : Fin 48) : s.KeepsDemands (t.freeEntry e) := by
  intro i
  rw [State.entry_freeEntry]
  split
  · exact .of_after rfl
  · exact h i

theorem freeRetired (s : State) : s.KeepsDemands s.freeRetired :=
  foldl_holds s.KeepsDemands (fun t e ht => by
    unfold State.freeIfRetired
    split
    · exact ht.freeEntry e
    · exact ht) _ s .of_entries

theorem landPresent (r : QReport) (s : State) : s.KeepsDemands (s.landPresent r).1 := by
  unfold State.landPresent
  dsimp only
  split
  · next e _ =>
    split
    · next retired => exact setEntry s (.of_retired retired)
    · exact setEntry s (Entry.onPresent_keepsDemand _ _ _ r _)
  · split
    · next e first => exact setEntry s (.of_free (FaultTable.firstFree_free first))
    · split
      · next e oldest =>
        have kept : s.KeepsDemands s := .of_entries
        refine (kept.freeEntry e).then_setEntry (.of_retired ?_)
        obtain none | ⟨b, -, retired, best⟩ := FaultTable.foldl_older s.device.clock s.faults (List.finRange 48)
        · cases oldest.symm.trans none
        · cases oldest.symm.trans best
          exact retired
      · exact .of_entries

theorem landAbsent (r : QReport) (s : State) : s.KeepsDemands (s.landAbsent r).1 := by
  unfold State.landAbsent
  split
  · exact setEntry s (.of_eq (Entry.onAbsent_demand ..))
  · exact .of_entries

/-- A buffer dealt with changes no demand (R49). -/
theorem dealBuffer {s t : State} (h : s.KeepsDemands t) (buffer : Option (Fin 8)) (landing : Option (Fin 48)) :
    s.KeepsDemands (t.dealBuffer buffer landing) := by
  have freed (b : Fin 8) : s.KeepsDemands (t.freeBuffer b) := fun i => by
    have same : (t.freeBuffer b).entry i = t.entry i := State.entry_congr (by simp) i
    exact same ▸ h i
  unfold State.dealBuffer
  split
  · exact h
  · next b =>
    split
    · exact freed b
    · next e =>
      split
      · have owned : s.KeepsDemands (t.setBuffer b { t.buffer b with owner := .entry e }) := h
        exact owned.then_setEntry (h e)
      · exact freed b

theorem applyReport (r : QReport) (s : State) : s.KeepsDemands (s.applyReport r) := by
  have landed : s.KeepsDemands (State.land r { s with faults := { s.faults with applying := none } }).1 := by
    unfold State.land
    split
    · exact landPresent r { s with faults := { s.faults with applying := none } }
    · exact landAbsent r { s with faults := { s.faults with applying := none } }
  exact landed.dealBuffer _ _

end State.KeepsDemands

/-- An event that changes no contribution and leaves the map empty or not empty as it was changes no demand in force (R117). -/
theorem State.KeepsDemands.inForce {s t : State} (h : s.KeepsDemands t) (untold : demandChange s.faults t.faults = false) :
    (∀ e, (t.entry e).inForce = (s.entry e).inForce) ∧ t.faults.anyCell = s.faults.anyCell := by
  simp only [demandChange, Bool.or_eq_false_iff, bne_eq_false_iff_eq] at untold
  obtain ⟨contributors, cells⟩ := untold
  have contributing := (FaultTable.entries_told s.faults t.faults).2.1 contributors
  exact ⟨fun e => (h e).inForce (contributing e).symm, cells.symm⟩

end Sys2Proof.Machine
end

section
/-!
PROOFS. The hard lines, the in-force envelope, the axle-loss floor and the demands in RUN: what the Ladder's operations make of
them (`LadderKept`), what every command does (`exec_ladder`), and the three statements on every step.
-/
namespace Sys2Proof.Machine

open Sys2Proof

/-! ### The hard lines and the in-force envelope -/

theorem AxleState.cutLine_iff (a : AxleState) : a.cutLine = true ↔ a = .cut ∨ a = .absent := by
  cases a <;> decide

/-- Lines driven from the device state and the in-force envelope follow them (R127, R128). -/
theorem linesFollow_of_driven {s : State} (h : s.lines = linesOf s.device.state s.ladder.inForce.limits) : LinesFollow s := by
  unfold LinesFollow
  rw [h]
  cases s.device.state <;> simp [linesOf, Lines.closed, AxleState.cutLine_iff]

/-- The in-force envelope is formed afresh, and the lines driven from it (R118, R127). -/
theorem State.refreshInForce_holds (s : State) : LinesFollow s.refreshInForce ∧ InForceIsStricter s.refreshInForce :=
  ⟨linesFollow_of_driven rfl, rfl⟩

theorem State.publish_holds (l : Limits) (cause : Option (Fin 48)) (s : State) :
    LinesFollow (s.publish l cause) ∧ InForceIsStricter (s.publish l cause) := by
  unfold State.publish
  dsimp only
  split
  · exact State.refreshInForce_holds _
  · exact State.refreshInForce_holds _

theorem LinesFollow.of_eq {s t : State} (state : t.device.state = s.device.state) (lines : t.lines = s.lines)
    (inForce : t.ladder.inForce.limits = s.ladder.inForce.limits) (h : LinesFollow s) : LinesFollow t := by
  unfold LinesFollow
  rwa [state, lines, inForce]

theorem InForceIsStricter.of_eq {s t : State} (inForce : t.ladder.inForce.limits = s.ladder.inForce.limits)
    (published : t.ladder.published.limits = s.ladder.published.limits)
    (adopted : t.ladder.adopted.limits = s.ladder.adopted.limits) (h : InForceIsStricter s) : InForceIsStricter t := by
  unfold InForceIsStricter
  rwa [inForce, published, adopted]

/-! ### The axle-loss floor and the demands in RUN -/

theorem axleLossHolds_iff (s : State) : AxleLossHolds s ↔ s.ladder.published.limits.Floored := Iff.rfl

theorem demandsCovered_iff (s : State) : DemandsCovered s ↔ (s.device.state = .run →
    s.ladder.target.limits = s.formedTarget ∧ s.ladder.published.limits.Covers s.formedTarget) := by
  refine forall_congr' fun _ => and_congr_right fun formed => ?_
  rw [Limits.covers_iff, formed]

/-- Outside RUN nothing is said of demands. -/
theorem DemandsCovered.of_rest {s : State} (h : s.device.state ≠ .run) : DemandsCovered s := fun running => absurd running h

theorem DemandsCovered.of_eq {s t : State} (state : t.device.state = s.device.state)
    (target : t.ladder.target.limits = s.ladder.target.limits)
    (published : t.ladder.published.limits = s.ladder.published.limits) (formed : t.formedTarget = s.formedTarget)
    (h : DemandsCovered s) : DemandsCovered t := by
  unfold DemandsCovered
  rwa [state, target, published, formed]

theorem State.ne_run_of_not_running {s : State} (h : ¬s.running = true) : s.device.state ≠ .run :=
  fun run => h (by simp [State.running, run])

/-! ### What an operation keeps -/

/-- `t` has come from `s` by an operation that keeps the lines and the in-force envelope, the axle-loss floor, and the demands
covered in RUN. -/
structure LadderKept (s t : State) : Prop where
  lines : LinesFollow s ∧ InForceIsStricter s → LinesFollow t ∧ InForceIsStricter t
  floor : AxleLossHolds s → AxleLossHolds t
  covered : DemandsCovered s → DemandsCovered t

namespace LadderKept

theorem refl (s : State) : LadderKept s s := ⟨id, id, id⟩

theorem trans {s t u : State} (h : LadderKept s t) (g : LadderKept t u) : LadderKept s u :=
  ⟨g.lines ∘ h.lines, g.floor ∘ h.floor, g.covered ∘ h.covered⟩

theorem ite {c : Prop} [Decidable c] {s a b : State} (ha : c → LadderKept s a) (hb : ¬c → LadderKept s b) :
    LadderKept s (if c then a else b) := by
  split
  · exact ha ‹_›
  · exact hb ‹_›

theorem ite_fst {c : Prop} [Decidable c] {s : State} {a b : State × Verdict} (ha : LadderKept s a.1) (hb : LadderKept s b.1) :
    LadderKept s (if c then a else b).1 := by
  split
  · exact ha
  · exact hb

/-- An operation that leaves the device state, the lines and three of the envelopes alone, and the demands covered. -/
theorem of_envelopes {s t : State} (covered : DemandsCovered s → DemandsCovered t)
    (state : t.device.state = s.device.state := by simp) (lines : t.lines = s.lines := by simp)
    (published : t.ladder.published = s.ladder.published := by simp)
    (adopted : t.ladder.adopted = s.ladder.adopted := by simp)
    (inForce : t.ladder.inForce = s.ladder.inForce := by simp) : LadderKept s t where
  lines h := ⟨h.1.of_eq state lines (by rw [inForce]), h.2.of_eq (by rw [inForce]) (by rw [published]) (by rw [adopted])⟩
  floor h := by
    rw [axleLossHolds_iff] at h ⊢
    rwa [published]
  covered := covered

/-- An operation that leaves the Ladder and the lines alone, and each demand in force. -/
theorem of_inForce {s t : State} (demands : ∀ e, (t.entry e).inForce = (s.entry e).inForce)
    (cells : t.faults.anyCell = s.faults.anyCell) (hd : t.device = s.device := by simp) (hc : t.config = s.config := by simp)
    (hl : t.ladder = s.ladder := by simp) (hn : t.lines = s.lines := by simp) : LadderKept s t :=
  of_envelopes (.of_eq (by rw [hd]) (by rw [hl]) (by rw [hl])
    (State.formedTarget_congr (by rw [hd]) (by rw [hc]) (by rw [hl]) demands cells)) (by rw [hd]) hn (by rw [hl]) (by rw [hl])
    (by rw [hl])

/-- An operation whose frame holds the device, the records, the Ladder, the lines, the entries and the overflow map. -/
theorem of_frame {s t : State} (hd : t.device = s.device := by simp) (hc : t.config = s.config := by simp)
    (hl : t.ladder = s.ladder := by simp) (hn : t.lines = s.lines := by simp)
    (he : t.faults.entries = s.faults.entries := by simp) (ho : t.faults.overflow = s.faults.overflow := by simp) :
    LadderKept s t :=
  of_inForce (fun e => by simp only [State.entry, he]) (by simp only [FaultTable.anyCell, ho]) hd hc hl hn

/-- An operation that leaves the Ladder and the lines alone, outside RUN. -/
theorem of_rest {s t : State} (rest : t.device.state ≠ .run) (hd : t.device.state = s.device.state := by simp)
    (hl : t.ladder = s.ladder := by simp) (hn : t.lines = s.lines := by simp) : LadderKept s t :=
  of_envelopes (fun _ => .of_rest rest) hd hn (by rw [hl]) (by rw [hl]) (by rw [hl])

theorem modPort (s : State) (p : Station) (f : Port → Port) : LadderKept s (s.modPort p f) := of_frame

/-! ### The Ladder -/

/-- A publication forms the in-force envelope and drives the lines afresh, whatever stood before; the envelope is to keep the
floor, and in RUN to cover the target that the demands ask. -/
theorem publish {s u : State} {l : Limits} (cause : Option (Fin 48)) (floored : l.Floored)
    (covers : DemandsCovered s → u.device.state = .run → u.ladder.target.limits = u.formedTarget ∧ l.Covers u.formedTarget) :
    LadderKept s (u.publish l cause) := by
  obtain ⟨published, -, -, -, -, -, target, -⟩ := u.publish_spec l cause
  have limits : (u.publish l cause).ladder.published.limits = l := congrArg Envelope.limits published
  have formed : (u.publish l cause).formedTarget = u.formedTarget :=
    State.formedTarget_congr (by simp) (by simp) (by simp) (fun e => by rw [State.entry_congr (s := u) (by simp)]) (by simp)
  refine ⟨fun _ => State.publish_holds l cause u, fun _ => ?_, fun h => (demandsCovered_iff _).2 fun running => ?_⟩
  · rwa [axleLossHolds_iff, limits]
  · rw [formed, limits, target]
    exact covers h (by simpa using running)

/-- A publication whose envelope is the target too; in RUN it is what the demands ask (R125, R126). -/
theorem publishWhole {s u : State} {l : Limits} (cause : Option (Fin 48)) (floored : l.Floored)
    (asked : u.device.state = .run → l = u.formedTarget) : LadderKept s (u.publishWhole l cause) := by
  obtain ⟨published, -⟩ := u.publish_spec l cause
  have limits : (u.publish l cause).ladder.published.limits = l := congrArg Envelope.limits published
  have formed : (u.publishWhole l cause).formedTarget = u.formedTarget :=
    State.formedTarget_congr (by simp) (by simp) (by simp) (fun e => by rw [State.entry_congr (s := u) (by simp)]) (by simp)
  have both : (u.publishWhole l cause).ladder.published.limits = l ∧ (u.publishWhole l cause).ladder.target.limits = l :=
    ⟨limits, limits⟩
  obtain ⟨follow, stricter⟩ := State.publish_holds l cause u
  refine ⟨fun _ => ⟨follow.of_eq rfl rfl rfl, stricter.of_eq rfl rfl rfl⟩, fun _ => ?_, fun _ =>
    (demandsCovered_iff _).2 fun running => ?_⟩
  · rwa [axleLossHolds_iff, both.1]
  · have same := asked (by simpa using running)
    rw [formed, both.1, both.2, ← same]
    exact ⟨rfl, .refl l⟩

/-- The relax state is set, and no envelope with it (R121). -/
theorem setRelax (moved : Bool) (s : State) : LadderKept s (s.setRelax moved) := by
  have ladder : (s.setRelax moved).ladder = { s.ladder with
      relax := (s.setRelax moved).ladder.relax, hold := (s.setRelax moved).ladder.hold } := by
    unfold State.setRelax
    split
    · rfl
    · split <;> rfl
  have formed : (s.setRelax moved).formedTarget = s.formedTarget :=
    State.formedTarget_congr (by simp) (by simp) (by simp) (fun e => by rw [State.entry_congr (s := s) (by simp)]) (by simp)
  exact of_envelopes (.of_eq (by simp) (by rw [ladder]) (by simp) formed) (inForce := by rw [ladder])

/-- The target is formed afresh from what the demands in force ask now, and the published envelope covers it, at once or by a
tightening (R117, R119). -/
theorem reform {s u : State} (state : u.device.state = s.device.state := by simp) (lines : u.lines = s.lines := by simp)
    (ladder : u.ladder.published = s.ladder.published ∧ u.ladder.adopted = s.ladder.adopted ∧
      u.ladder.inForce = s.ladder.inForce := by simp) : LadderKept s u.reform := by
  obtain ⟨published, adopted, inForce⟩ := ladder
  unfold State.reform
  dsimp only
  split
  · refine (publish _ (Limits.escalate_floored _) fun _ _ => ⟨rfl, ?_⟩).trans (setRelax true _)
    exact (Limits.escalate_covers _).trans (Limits.stricter_covers _ _).2
  · next covers =>
    refine trans ?_ (setRelax _ _)
    refine of_envelopes (fun _ => (demandsCovered_iff _).2 fun _ => ⟨rfl, ?_⟩) state lines published adopted inForce
    exact (Limits.covers_iff _ _).2 (Bool.eq_false_iff.2 covers)

/-- A relaxation step goes no further than the target (R122, R123). -/
theorem tryStep (s : State) : LadderKept s s.tryStep := by
  refine ite (fun _ => ?_) fun _ => refl s
  refine (publish _ (Limits.step_floored _ _ _) fun h running => ?_).trans (setRelax true _)
  obtain ⟨formed, covers⟩ := (demandsCovered_iff s).1 h running
  rw [← formed] at covers ⊢
  exact ⟨rfl, Limits.step_covers _ covers⟩

theorem relaxDue (s : State) : LadderKept s s.relaxDue :=
  have due : LadderKept s { s with ladder := { s.ladder with relax := .due, hold := none } } :=
    of_envelopes (.of_eq rfl rfl rfl rfl) rfl rfl rfl rfl rfl
  due.trans (tryStep _)

/-- The published envelope becomes the adopted one, and the in-force envelope is formed afresh (R120). -/
theorem completeAdoption (s : State) : LadderKept s s.completeAdoption :=
  ⟨fun _ => State.refreshInForce_holds _, id, .of_eq rfl rfl rfl rfl⟩

/-- The Ladder is told of PARKED: in RUN the target is formed with it (R117, R122). -/
theorem reportParked (b : Bool) (s : State) : LadderKept s (s.reportParked b) := by
  let told : State := { s with ladder := { s.ladder with parked := b }, faults := { s.faults with parked := b } }
  have formed : LadderKept s told.reform := reform rfl rfl ⟨rfl, rfl, rfl⟩
  exact ite (fun _ => ite (fun _ => formed.trans (tryStep _)) fun _ => formed) fun idle =>
    of_envelopes (fun _ => .of_rest (State.ne_run_of_not_running idle)) rfl rfl rfl rfl rfl

/-! ### Motion -/

theorem moveMotion (m : Motion) (s : State) : LadderKept s (s.moveMotion m) := by
  have moved (new : Motion) : LadderKept s { s with motion := new } := of_frame rfl rfl rfl rfl rfl rfl
  have released (old : Motion) (t : State) : LadderKept t (t.releaseMismatch old) := of_frame
  have settled := (moved (Motion.settleFrom s.device.topology s.config.timing s.motion m)).trans (released s.motion _)
  exact ite (fun _ => settled) fun _ => settled.trans (reportParked _ _)

theorem motionPort (p : Station) (s : State) : LadderKept s (s.motionPort p) :=
  ite (fun _ => moveMotion _ s) fun _ => refl s

theorem raiseParked (s : State) : LadderKept s s.raiseParked :=
  have raised : LadderKept s { s with motion := { s.motion with parked := true, parkedHold := none } } :=
    of_frame rfl rfl rfl rfl rfl rfl
  raised.trans (reportParked true _)

theorem assertMismatch (s : State) : LadderKept s s.assertMismatch := by
  unfold State.assertMismatch
  dsimp only
  split
  · exact of_frame
  · exact of_frame rfl rfl rfl rfl rfl rfl

theorem settleMismatch (s : State) : LadderKept s s.settleMismatch :=
  have quiet : LadderKept s { s with motion := s.motion.quiet } := of_frame rfl rfl rfl rfl rfl rfl
  have released (t : State) : LadderKept t (t.releaseMismatch s.motion) := of_frame
  quiet.trans (released _)

/-! ### After an event of the Fault Table -/

/-- An event of the table that keeps the demands of concluded entries: where it changes a contribution or the overflow demand,
the Ladder forms its target afresh (R117). -/
theorem settle {s u : State} (kept : s.KeepsDemands u) (hd : u.device = s.device := by simp)
    (hc : u.config = s.config := by simp) (hl : u.ladder = s.ladder := by simp) (hn : u.lines = s.lines := by simp) :
    LadderKept s (u.settle s.faults) := by
  have rooted : s.KeepsDemands (u.settleRoots.notify s.faults) := fun e => by
    have entry : (u.settleRoots.notify s.faults).entry e = u.settleRoots.entry e := by simp [State.entry]
    rw [entry, State.settleRoots_entry]
    exact kept e
  refine ite (fun _ => ite (fun _ => ?_) fun untold => ?_) fun idle => ?_
  · exact reform (by simp [hd]) (by simp [hn]) (by simp [hl])
  · obtain ⟨demands, cells⟩ := rooted.inForce (Bool.eq_false_iff.2 untold)
    exact of_inForce demands cells (by simp [hd]) (by simp [hc]) (by simp [hl]) (by simp [hn])
  · exact of_rest (State.ne_run_of_not_running idle) (by rw [hd]) hl hn

theorem retireEntry (e : Fin 48) (o : EpisodeEnd) (s : State) : LadderKept s (s.retireEntry e o) :=
  settle (.setEntry s (.of_after rfl))

theorem judgeClear (p : Station) (payload : List Byte) (s : State) : LadderKept s (s.judgeClear p payload).1 := by
  refine ite_fst (refl s) ?_
  split
  · exact refl s
  · split
    · exact refl s
    · exact ite_fst (refl s) (ite_fst (refl s) (ite_fst (refl s) (ite_fst (refl s) (retireEntry _ .cleared s))))

theorem judgeDiscardEntry (p : Station) (payload : List Byte) (s : State) :
    LadderKept s (s.judgeDiscardEntry p payload).1 := by
  have kept : s.KeepsDemands s := .of_entries
  refine ite_fst (refl s) ?_
  split
  · exact refl s
  · exact ite_fst (refl s) (ite_fst (refl s) (settle (kept.freeEntry _)))

theorem judgeDiscardAll (p : Station) (payload : List Byte) (s : State) : LadderKept s (s.judgeDiscardAll p payload).1 := by
  have settled : LadderKept s (s.freeRetired.settle s.faults) := settle (.freeRetired s)
  refine ite_fst (refl s) (ite_fst (refl s) (ite_fst (refl s) ?_))
  dsimp only
  exact settled

theorem judgeClearOverflow (p : Station) (payload : List Byte) (s : State) :
    LadderKept s (s.judgeClearOverflow p payload).1 :=
  ite_fst (refl s) (ite_fst (refl s) (ite_fst (refl s) (ite_fst (refl s) (settle .of_entries))))

/-! ### Truncation, frames and ports -/

/-- The entry that holds a truncated snapshot loses that alone (R47). -/
theorem dropOwner (b : Fin 8) (s : State) : LadderKept s (s.dropOwner b) := by
  unfold State.dropOwner
  split
  · exact of_frame
  · next e _ =>
    refine of_inForce (fun i => ?_) rfl
    rw [State.loseSnapshot, State.entry_setEntry_eq]
    split
    · next here => exact here ▸ rfl
    · rfl
  · exact refl s

theorem truncate (p : Station) (s : State) : LadderKept s (s.truncate p) := by
  unfold State.truncate
  split
  · exact refl s
  · split
    · exact of_frame
    · next b _ => exact (dropOwner b s).trans of_frame

theorem endTurn (how : TurnEnd) (p : Station) (s : State) : LadderKept s (s.endTurn how p) := by
  have ended (o : Port) (silent : Bool) : LadderKept s ((s.setPort p o).motionSilence p silent) := of_frame
  exact (ended _ _).trans (motionPort p _)

theorem takeFrame {p : Station} {turn : Bool} {hand : State → State} (h : ∀ t, LadderKept t (hand t)) (s : State) :
    LadderKept s (s.takeFrame p turn hand) :=
  State.takeFrame_holds (LadderKept s) (fun t f ht => ht.trans (modPort t p f)) (fun t ht => ht.trans (endTurn .normal p t))
    (fun t ht => ht.trans (h t)) (refl s)

theorem receipted {p : Station} {judge : State → State × Verdict} (h : ∀ t, LadderKept t (judge t).1) (s : State) :
    LadderKept s (State.receipted p judge s) :=
  State.receipted_holds (LadderKept s) (fun t f ht => ht.trans (modPort t p f)) (fun hs => hs.trans (h s)) (refl s)

/-- A record is written in CONFIGURE only (R178). -/
theorem takeConfig {p : Station} {turn : Bool} {judge : State → State × Verdict}
    (h : ∀ t, t.device.state = .configure → LadderKept t (judge t).1) (s : State) :
    LadderKept s (s.takeConfig p turn judge) :=
  takeFrame (receipted fun t => State.judgeConfig_holds (LadderKept t) (fun hc _ => h t hc) (refl t)) s

theorem completeIf (p : Station) (is : Sending → Bool) (s : State) : LadderKept s (s.completeIf p is) :=
  State.completeIf_holds (LadderKept s) (fun t f ht => ht.trans (modPort t p f)) (fun _ => of_frame) (refl s)

theorem leaveExchange (p : Station) (s : State) : LadderKept s (s.leaveExchange p) :=
  have departed (t : State) : LadderKept t (t.depart p) := of_frame
  (truncate p s).trans (departed _)

/-- A port takes another state, and leaves the exchange if it was in it (R19, R20). -/
theorem setPort_leave (s : State) (p : Station) (o : Port) : LadderKept s (State.motionPort p
    (if (s.port p).inExchange then (s.setPort p o).leaveExchange p else s.setPort p o)) := by
  have moved : LadderKept s (s.setPort p o) := of_frame
  exact trans (ite (fun _ => moved.trans (leaveExchange p _)) fun _ => moved) (motionPort p _)

theorem enterSync (p : Station) (s : State) : LadderKept s (s.enterSync p) :=
  setPort_leave s p _

theorem contention (p : Station) (f : OutFrame) (s : State) : LadderKept s (s.contention p f) := by
  have lost (t : State) : LadderKept t (t.setCond (linkLostCond p) true none) := of_frame
  exact (modPort s p _).trans (ite (fun _ => (modPort _ p _).trans (motionPort p _)) fun _ => (enterSync p _).trans (lost _))

theorem breakTurn (p : Station) (s : State) : LadderKept s (s.breakTurn p) :=
  (modPort s p _).trans ((modPort _ p _).trans (endTurn .broken p _))

theorem synchronised (p : Station) (s : State) : LadderKept s (s.synchronised p) := by
  have silence : LadderKept s (s.motionSilence p false) := of_frame
  have joined (t : State) : LadderKept t (t.join p) := of_frame
  exact silence.trans ((motionPort p _).trans (joined _))

theorem helloInSync (p : Station) (payload : List Byte) (s : State) : LadderKept s (s.helloInSync p payload) := by
  refine ite (fun _ => ?_) fun _ => refl s
  split
  · have cleared (t : State) : LadderKept t (t.setCond (linkLostCond p) false none) := of_frame
    exact (modPort s p _).trans ((cleared _).trans (synchronised p _))
  · exact modPort s p _

theorem helloInTurn (p : Station) (payload : List Byte) (s : State) : LadderKept s (s.helloInTurn p payload) := by
  unfold State.helloInTurn
  split
  · exact (modPort s p _).trans (synchronised p _)
  · exact modPort s p _

theorem statusInTurn (p : Station) (payload : List Byte) (s : State) : LadderKept s (s.statusInTurn p payload) := by
  unfold State.statusInTurn
  split
  · exact modPort s p _
  · exact (modPort s p _).trans (moveMotion _ _)
  · exact modPort s p _

theorem adoptInTurn (p : Station) (payload : List Byte) (s : State) : LadderKept s (s.adoptInTurn p payload) := by
  have complete (t : State) : LadderKept t t.testComplete := by
    have flagged : LadderKept t { t with publication := { t.publication with complete := true } } :=
      of_frame rfl rfl rfl rfl rfl rfl
    exact ite (fun _ => flagged.trans ((completeAdoption _).trans (tryStep _))) fun _ => refl t
  have current : LadderKept s (s.adoptCurrent p) :=
    trans (ite (fun _ => of_frame) fun _ => of_frame) (complete _)
  unfold State.adoptInTurn
  split
  · exact ite (fun _ => of_frame) fun _ => ite (fun _ => current) fun _ => refl s
  · exact modPort s p _

/-! ### Intake -/

theorem openAssembly (p : Station) (announced : Option Nat) (s : State) : LadderKept s (s.openAssembly p announced) := by
  unfold State.openAssembly
  split
  · exact refl s
  · exact (truncate p s).trans of_frame

theorem judgeReport (p : Station) (payload : List Byte) (s : State) : LadderKept s (s.judgeReport p payload).1 := by
  refine ite_fst (refl s) ?_
  split
  · exact refl s
  · next r _ =>
    have admitted (t : State) : LadderKept t (t.admitReport p r).1 := of_frame
    exact (openAssembly p _ s).trans (admitted _)

theorem judgeSnapshot (p : Station) (payload : List Byte) (s : State) : LadderKept s (s.judgeSnapshot p payload).1 := by
  refine ite_fst (refl s) ?_
  split
  · exact truncate p s
  · split
    · exact refl s
    · exact ite_fst (truncate p s) of_frame

/-! ### The passages between device states -/

/-- On entry to RUN the envelope that the demands ask is published whole, whatever stood before (R126, R181). -/
theorem enterRun (way : RunEntry) (s u : State) : LadderKept s (u.enterRun way) := by
  have told (t : State) : LadderKept t (State.markConds (stations.foldl State.loseIfSync t)) := of_frame
  unfold State.enterRun
  exact (publishWhole _ (targetLimits_floored _ _ _ _) fun _ => rfl).trans (told _)

theorem judgeCommit (p : Station) (payload : List Byte) (s : State) : LadderKept s (s.judgeCommit p payload).1 := by
  refine ite_fst (refl s) (ite_fst (refl s) (ite_fst (refl s) ?_))
  unfold State.judgeConsistency
  dsimp only
  split
  · exact of_envelopes (.of_eq rfl rfl rfl rfl) rfl rfl rfl rfl rfl
  · exact enterRun .commit s _

theorem expireConfigure (mV : Nat) (s : State) : LadderKept s (s.expireConfigure mV) := by
  have told (t : State) (d : Option Detail) : LadderKept t (t.setCond 23 true d) := of_frame
  unfold State.expireConfigure
  refine trans ?_ (told _ _)
  split
  · exact enterRun _ s _
  · exact enterRun _ s _

/-- On entry to CONFIGURE the configure envelope is published whole (R125, R177). -/
theorem enterConfigure (mV : Nat) (s u : State) : LadderKept s (u.enterConfigure mV) := by
  unfold State.enterConfigure
  exact publishWhole none (Limits.configure_floored _) fun running => by simp at running

/-- At key-off the closed envelope is published whole (R125, R184). -/
theorem keyOff (s : State) : LadderKept s s.keyOff := by
  have ended (t : State) : LadderKept t t.endEpisodes := of_frame
  unfold State.keyOff
  exact (publishWhole none (Limits.closed_floored _) fun running => by simp at running).trans (ended _)

theorem keyLow (s : State) : LadderKept s s.keyLow := by
  unfold State.keyLow
  split
  · exact keyOff s
  · exact keyOff s
  all_goals exact refl s

theorem keyHigh (mV : Nat) (s : State) : LadderKept s (s.keyHigh mV) := by
  unfold State.keyHigh
  split
  · exact enterConfigure mV s s
  all_goals exact refl s

/-- RESET ends with the lines closed, as they were, and the four envelopes closed (R118, R175). -/
theorem leaveReset (topo : Topology) (key : Bool) (mV : Nat) {s : State} (h : s.device.state = .reset) :
    LadderKept s (s.leaveReset topo key mV) := by
  refine ite (fun _ => enterConfigure mV s _) fun _ => ?_
  refine ⟨fun ⟨follow, _⟩ => ⟨?_, (Limits.stricter_self _).symm⟩, fun _ => Limits.closed_floored topo,
    fun _ => .of_rest (by simp)⟩
  exact linesFollow_of_driven (follow.1 (.inl h))

/-- Every block takes its power-on values (R174). -/
theorem enterReset (resetN settled : Bool) (s : State) : LadderKept s (s.enterReset resetN settled) := by
  obtain ⟨follow, stricter, floor⟩ := linesAndEnvelopes_reset
  exact ⟨fun _ => ⟨follow.of_eq rfl rfl rfl, stricter.of_eq rfl rfl rfl⟩, fun _ => floor, fun _ => .of_rest nofun⟩

end LadderKept

/-! ### What each command makes of the Ladder -/

/-- The command answers a next state, and keeps what `LadderKept` says. -/
def AnswersLadder (s : State) (o : Host.Outcome State Fault Refusal) : Prop :=
  ∃ t, o = .next t ∧ LadderKept s t

namespace AnswersLadder

theorem keep {s t : State} (h : LadderKept s t) : AnswersLadder s (.next t) := ⟨t, rfl, h⟩

theorem keyDebounceExpiry (mV : Nat) (s : State) : AnswersLadder s (execKeyDebounceExpiry mV s) := by
  unfold execKeyDebounceExpiry
  split
  · exact keep (.refl s)
  · have sampled : LadderKept s { s with device := { s.device with debounce := none, keyLevel := s.device.keyPin } } :=
      .of_envelopes (.of_eq rfl rfl rfl rfl) rfl rfl rfl rfl rfl
    exact keep (sampled.trans (.ite (fun _ => .keyHigh mV _) fun _ => .keyLow _))

theorem configureWindowExpiry (mV : Nat) (s : State) : AnswersLadder s (execConfigureWindowExpiry mV s) := by
  unfold execConfigureWindowExpiry
  split
  · exact keep (.refl s)
  · exact keep (.expireConfigure mV s)

theorem contention (p : Station) (s : State) : AnswersLadder s (execContention p s) := by
  unfold execContention
  split
  · exact keep (.contention p _ s)
  · exact keep (.modPort s p _)
  · exact keep (.refl s)

theorem stationDrivesLine (p : Station) (s : State) : AnswersLadder s (execStationDrivesLine p s) := by
  unfold execStationDrivesLine
  split
  · exact keep .of_frame
  · exact keep .of_frame
  all_goals exact keep (.refl s)

theorem heartbeatExpiry (p : Station) (s : State) : AnswersLadder s (execHeartbeatExpiry p s) := by
  unfold execHeartbeatExpiry
  split
  · exact keep (.refl s)
  · exact keep (.modPort s p _)

theorem turnWindowExpiry (p : Station) (receiving : Bool) (s : State) :
    AnswersLadder s (execTurnWindowExpiry p receiving s) := by
  unfold execTurnWindowExpiry
  split
  · split
    · exact keep (.modPort s p _)
    · exact keep (.endTurn .expiry p s)
  · exact keep (.refl s)

theorem reportApplied (s : State) : AnswersLadder s (execReportApplied s) := by
  unfold execReportApplied
  split
  · exact keep (.refl s)
  · exact keep (.settle (.applyReport _ s))

end AnswersLadder

theorem exec_ladder (c : Instr) (s : State) : AnswersLadder s (exec c s) := by
  cases c with
  | powerOn => exact .keep (.enterReset _ _ s)
  | resetNLow => exact .keep (.enterReset _ _ s)
  | resetEnd topo1 topo0 key mV => exact .keep (.ite (fun h => .leaveReset _ key mV h) fun _ => .refl s)
  | keyPinChange level => exact .keep (.of_envelopes (.of_eq rfl rfl rfl rfl) rfl rfl rfl rfl rfl)
  | keyDebounceExpiry mV => exact .keyDebounceExpiry mV s
  | configureWindowExpiry mV => exact .configureWindowExpiry mV s
  | reqChange p level => exact .keep (.modPort s p _)
  | hello p turn payload =>
    exact .keep (.ite (fun _ => .helloInSync p payload s) fun _ => .takeFrame (.helloInTurn p payload) s)
  | status p turn payload => exact .keep (.takeFrame (.statusInTurn p payload) s)
  | adopt p turn payload => exact .keep (.takeFrame (.adoptInTurn p payload) s)
  | report p turn payload => exact .keep (.takeFrame (.receipted (.judgeReport p payload)) s)
  | snapshot p turn payload => exact .keep (.takeFrame (.receipted (.judgeSnapshot p payload)) s)
  | clear p turn payload => exact .keep (.takeFrame (.receipted (.judgeClear p payload)) s)
  | discardEntry p turn payload => exact .keep (.takeFrame (.receipted (.judgeDiscardEntry p payload)) s)
  | discardAllRetired p turn payload => exact .keep (.takeFrame (.receipted (.judgeDiscardAll p payload)) s)
  | clearOverflow p turn payload => exact .keep (.takeFrame (.receipted (.judgeClearOverflow p payload)) s)
  | readTable p turn payload | readEntry p turn payload | readSnapshot p turn payload | readEnvelope p turn payload
  | readMonitor p turn payload | readOverflow p turn payload | readIdent p turn payload =>
    exact .keep (.takeFrame (.receipted fun _ => .of_frame) s)
  | zoneRecord p turn payload | classRecord p turn payload | levelRecord p turn payload
  | responseRecord p turn payload | scanRecord p turn payload | channelsRecord p turn payload
  | comparatorRecord p turn payload mV | timingRecord p turn payload | weightRecord p turn payload =>
    exact .keep (.takeConfig (fun _ configure => .of_rest (by simp [configure])) s)
  | commit p turn payload => exact .keep (.takeFrame (.receipted (.judgeCommit p payload)) s)
  | discardedFrame p cause =>
    exact .keep (.ite (fun _ => .ite (fun _ => .modPort s p _) fun _ => .refl s)
      fun _ => .takeFrame (fun _ => .of_frame) s)
  | outOfTurnFrame p => exact .keep .of_frame
  | brokenFrame p => exact .keep (.ite (fun _ => .breakTurn p s) fun _ => .of_frame)
  | contention p => exact .contention p s
  | stationDrivesLine p => exact .stationDrivesLine p s
  | outboundArbiterChoice p | arbiterHandOff => exact .keep (.ite (fun _ => .of_frame) fun _ => .refl s)
  | expiredTurnLineIdle p =>
    exact .keep (.ite (fun _ => (LadderKept.modPort s p _).trans (.endTurn .expiry p _)) fun _ => .refl s)
  | recoverQuietExpiry p =>
    exact .keep (.ite (fun _ => (LadderKept.modPort s p _).trans (.motionPort p _)) fun _ => .refl s)
  | syncDue p | syncSent p | syncTurnExpiry p => exact .keep (.ite (fun _ => .modPort s p _) fun _ => .refl s)
  | grantSent p | envelopeSent p | receiptSent p | readReplySent p => exact .keep (.completeIf p _ s)
  | noticeSent => exact .keep (.completeIf .ride _ s)
  | heartbeatExpiry p => exact .heartbeatExpiry p s
  | turnWindowExpiry p receiving => exact .turnWindowExpiry p receiving s
  | snapshotWindowExpiry p => exact .keep (.truncate p s)
  | selfReportFormed =>
    refine .keep (.ite (fun _ => ?_) fun _ => .refl s)
    split
    · exact .of_frame
    · exact .refl s
  | reportApplied => exact .reportApplied s
  | scanDue | sampleComplete value | falling mV | rising mV =>
    exact .keep (.ite (fun _ => .of_frame) fun _ => .refl s)
  | noticeDelayExpiry | absoluteDelayExpiry =>
    dsimp only [exec, execNoticeDelayExpiry, execAbsoluteDelayExpiry]
    split
    · exact .keep .of_frame
    · exact .keep (.refl s)
  | relaxHoldExpiry =>
    dsimp only [exec, execRelaxHoldExpiry]
    split
    · exact .keep (.relaxDue s)
    · exact .keep (.refl s)
  | parkedHoldExpiry =>
    dsimp only [exec, execParkedHoldExpiry]
    split
    · exact .keep (.raiseParked s)
    · exact .keep (.refl s)
  | confirmWindowExpiry e | healHoldExpiry e =>
    dsimp only [exec, execConfirmWindowExpiry, execHealHoldExpiry]
    split
    · exact .keep (.retireEntry e _ s)
    all_goals exact .keep (.refl s)
  | adoptionWindowExpiry p =>
    dsimp only [exec, execAdoptionWindowExpiry]
    split
    · exact .keep .of_frame
    · exact .keep .of_frame
    all_goals exact .keep (.refl s)
  | mismatchTimerExpiry =>
    dsimp only [exec, execMismatchTimerExpiry]
    split
    · exact .keep (.assertMismatch s)
    · exact .keep (.settleMismatch s)
    all_goals exact .keep (.refl s)

/-- One millisecond takes from timers only (log 1). -/
theorem State.tick_ladder (s : State) : LadderKept s s.tick := by
  unfold State.tick
  refine .ite (fun _ => .refl s) fun _ => ?_
  have entry (e : Fin 48) : s.pass.entry e = (s.entry e).pass := by simp [State.entry, State.pass, FaultTable.pass]
  have formed : s.pass.formedTarget = s.formedTarget :=
    State.formedTarget_congr rfl rfl rfl (fun e => by rw [entry]; rfl) rfl
  exact .of_envelopes (.of_eq rfl rfl rfl formed) rfl rfl rfl rfl rfl

/-- A step keeps what its command keeps, and the tick keeps it too. -/
theorem step_ladder {s t : State} (h : step s = .next t) : LadderKept s t := by
  obtain ⟨-, rfl⟩ | ⟨c, rest, -, he⟩ := step_cases h
  · exact s.tick_ladder
  · obtain ⟨u, hu, kept⟩ := exec_ladder c { s with pending := rest }
    cases he.symm.trans hu
    exact ⟨kept.lines, kept.floor, kept.covered⟩

/-! ### The statements -/

/-- Settles O51: each publication and each adoption forms the in-force envelope and drives the lines afresh, and nothing else moves
them (`step_ladder`). -/
theorem everyStepKeepsTheHardLines : Obligations.EveryStepKeepsTheHardLines :=
  fun _ _ follow stricter h => (step_ladder h).lines ⟨follow, stricter⟩

/-- Settles O52: every step keeps the target covered (`step_ladder`), and the target covers each demand in force
(`targetLimits_covers`). -/
theorem everyStepCoversTheDemands : Obligations.EveryStepCoversTheDemands := by
  refine ⟨fun s t covered h => (step_ladder h).covered covered, fun s covered running => ?_⟩
  obtain ⟨-, published⟩ := (demandsCovered_iff s).1 covered running
  obtain ⟨demands, overflow⟩ :=
    targetLimits_covers s.device.topology s.config.overflowLevel s.faults s.ladder.parked
  exact ⟨fun e d contributing demand => (Limits.covers_iff _ _).1 (published.trans (demands e d contributing demand)),
    fun any => (overflow any).trans published.level⟩

/-- Settles O53: every envelope published keeps the floor (`step_ladder`). -/
theorem everyStepKeepsTheAxleLossLevel : Obligations.EveryStepKeepsTheAxleLossLevel :=
  fun _ _ floor h => (step_ladder h).floor floor

end Sys2Proof.Machine
end

section
/-!
PROOFS. Relaxation steps taken as they fall due: at the relax hold's expiry, and where the parked hold raises PARKED; and what the
mismatch timer's expiry makes of its condition.
-/
namespace Sys2Proof.Machine

open Sys2Proof

/-! ### A relaxation step is tested -/

theorem State.stepDue_iff (s : State) : s.stepDue = true ↔ s.running = true ∧ s.ladder.relax = .due ∧
    s.publication.complete = true ∧ (s.ladder.published.limits.level.val < 4 ∨ s.ladder.parked = true) := by
  simp [State.stepDue, and_assoc]

theorem State.ne_standby_of_running {s : State} (h : s.running = true) : s.device.state ≠ .standby := by
  intro standby
  simp [State.running, standby] at h

/-- The step that the Ladder would take now loosens a field (R122, R123). -/
def State.stepLoosens (s : State) : Prop :=
  s.ladder.published.limits.someStricter
    (Limits.step s.ladder.parked s.ladder.published.limits s.ladder.target.limits) = true

theorem State.tryStep_takes {s : State} (due : s.stepDue = true) (loosens : s.stepLoosens) :
    Publishes (Limits.step s.ladder.parked s.ladder.published.limits s.ladder.target.limits) s.ladder.target.limits s s.tryStep ∧
      s.tryStep.ladder.target = s.ladder.target := by
  obtain ⟨running, -⟩ := s.stepDue_iff.1 due
  have step : s.tryStep = (s.publish (Limits.step s.ladder.parked s.ladder.published.limits s.ladder.target.limits)
      (causeOf s.faults)).setRelax true := if_pos (Bool.and_eq_true_iff.2 ⟨due, loosens⟩)
  rw [step]
  refine ⟨State.publish_publishes _ s (State.ne_standby_of_running running), ?_⟩
  obtain ⟨-, -, -, -, -, -, target, -⟩ := s.publish_spec
    (Limits.step s.ladder.parked s.ladder.published.limits s.ladder.target.limits) (causeOf s.faults)
  exact (State.setRelax_spec true _).1.trans target

theorem State.tryStep_rests {s : State} (h : s.stepDue = true → ¬s.stepLoosens) : s.tryStep = s :=
  if_neg fun both => (Bool.and_eq_true_iff.1 both).elim h

/-! ### The relax hold -/

theorem exec_relaxHoldExpiry {s : State} (h : s.ladder.hold.isSome = true) : exec .relaxHoldExpiry s = .next s.relaxDue := by
  obtain ⟨left, runs⟩ := Option.isSome_iff_exists.1 h
  simp [exec, execRelaxHoldExpiry, runs]

/-- Settles O36: relaxation is due, and the Ladder tests one step (`State.tryStep_takes`, `State.tryStep_rests`). -/
theorem relaxHoldExpiryTakesOneStep : Obligations.RelaxHoldExpiryTakesOneStep := by
  intro s runs
  let due : State := { s with ladder := { s.ladder with relax := .due, hold := none } }
  have stepDue : due.stepDue = true ↔ s.running = true ∧ s.publication.complete = true ∧
      (s.ladder.published.limits.level.val < 4 ∨ s.ladder.parked = true) :=
    due.stepDue_iff.trans (and_congr_right fun _ => and_iff_right rfl)
  rw [exec_relaxHoldExpiry runs]
  refine ⟨fun idle => ?_, fun ⟨running, complete, calm, loosens⟩ => ?_⟩
  · refine congrArg _ (State.tryStep_rests (s := due) fun h loosens => idle ?_)
    obtain ⟨running, complete, calm⟩ := stepDue.1 h
    exact ⟨running, complete, calm, loosens⟩
  · obtain ⟨published, target⟩ := State.tryStep_takes (s := due) (stepDue.2 ⟨running, complete, calm⟩) loosens
    refine ⟨s.relaxDue, rfl, published.of_start (w := due) rfl rfl fun _ => rfl, target, ?_⟩
    and_intros <;> simp [State.relaxDue]

/-! ### The parked hold -/

theorem exec_parkedHoldExpiry {s : State} (h : s.motion.parkedHold.isSome = true) :
    exec .parkedHoldExpiry s = .next s.raiseParked := by
  obtain ⟨left, runs⟩ := Option.isSome_iff_exists.1 h
  simp [exec, execParkedHoldExpiry, runs]

/-- PARKED is set, and the Ladder and the Fault Table hold it (R167, R169). -/
def State.toldParked (s : State) : State :=
  { s with
    motion := { s.motion with parked := true, parkedHold := none }
    ladder := { s.ladder with parked := true }
    faults := { s.faults with parked := true } }

theorem State.raiseParked_eq (s : State) :
    s.raiseParked = if s.running then s.toldParked.reform.tryStep else s.toldParked := by
  simp only [State.raiseParked, State.reportParked, if_true]
  rfl

/-- What PARKED's rise leaves, whatever the Ladder publishes (R167, R169). -/
theorem State.raiseParked_leaves (s : State) :
    let t := s.raiseParked
    t.motion = { s.motion with parked := true, parkedHold := none } ∧ t.ladder.parked = true ∧
      t.faults = { s.faults with parked := true } ∧ t.config = s.config ∧ t.intake = s.intake ∧ t.pool = s.pool ∧
      t.monitor = s.monitor ∧ t.device = s.device := by
  rw [State.raiseParked_eq]
  split
  · and_intros <;> simp [State.toldParked]
  · exact ⟨rfl, rfl, rfl, rfl, rfl, rfl, rfl, rfl⟩

/-- A formation leaves relaxation due only where it was due, the target is as it was, and that is not reached (R121). -/
theorem State.relax_due_of_reform {s : State} (hd : s.device.state ≠ .standby) (due : s.reform.ladder.relax = .due) :
    s.formedTarget.someStricter s.ladder.published.limits = false ∧ s.formedTarget ≠ s.ladder.published.limits ∧
      s.formedTarget = s.ladder.target.limits ∧ s.ladder.relax = .due := by
  obtain ⟨tightens, waits⟩ := s.reform_spec hd
  cases stricter : s.formedTarget.someStricter s.ladder.published.limits with
  | true =>
    have publishes := tightens stricter
    by_cases reached : s.formedTarget = (s.ladder.published.limits.stricter s.formedTarget).escalate
    · rw [(publishes.reached reached).1] at due
      cases due
    · rw [(publishes.looser reached).1] at due
      cases due
  | false =>
    have waits := waits stricter
    by_cases reached : s.formedTarget = s.ladder.published.limits
    · rw [(waits.reached reached).1] at due
      cases due
    · by_cases same : s.formedTarget = s.ladder.target.limits
      · exact ⟨rfl, reached, same, (waits.kept reached same).1.symm.trans due⟩
      · rw [(waits.moved reached same).1] at due
        cases due

/-- In RUN with PARKED told: a tightening at once, else a step where relaxation is due and the step loosens a field, else only the
relax state (R117, R119, R121, R122). -/
theorem State.reform_tryStep_spec {s : State} (running : s.running = true) (parked : s.ladder.parked = true) :
    let pub := s.ladder.published.limits
    let tgt := s.formedTarget
    let step := Limits.step true pub tgt
    let steps := tgt ≠ pub ∧ tgt = s.ladder.target.limits ∧ s.ladder.relax = .due ∧ s.publication.complete = true ∧
      pub.someStricter step = true
    (tgt.someStricter pub = true → Publishes (pub.stricter tgt).escalate tgt s s.reform.tryStep) ∧
      (tgt.someStricter pub = false → steps → Publishes step tgt s s.reform.tryStep) ∧
      (tgt.someStricter pub = false → ¬steps → Waits tgt s s.reform.tryStep) := by
  have hd := State.ne_standby_of_running running
  obtain ⟨tightens, waits⟩ := s.reform_spec hd
  have parked' : s.reform.ladder.parked = true := by simpa using parked
  have running' : s.reform.running = true := (State.running_congr (by simp)).trans running
  refine ⟨fun stricter => ?_, fun covers ⟨apart, same, due, complete, loosens⟩ => ?_, fun covers rests => ?_⟩
  · rw [State.tryStep_of_ne fun due => ?_]
    · exact tightens stricter
    · obtain ⟨covers, -⟩ := State.relax_due_of_reform hd due
      exact absurd stricter (by rw [covers]; decide)
  · obtain ⟨⟨published, publication⟩, target, -, -, kept⟩ := waits covers
    have taken := State.tryStep_takes (s := s.reform)
      ((State.stepDue_iff _).2 ⟨running', (kept apart same).1.trans due, by rw [publication, complete], .inr parked'⟩)
      (by rw [State.stepLoosens, parked', published, target]; exact loosens)
    rw [parked', published, target] at taken
    refine taken.1.of_start (by simp) publication fun p => ?_
    obtain ⟨state, -⟩ := (s.reform_reaches p).fields
    simp only [Port.inExchange, state]
  · rw [State.tryStep_rests fun due loosens => rests ?_]
    · exact waits covers
    · obtain ⟨⟨published, publication⟩, target, -⟩ := waits covers
      obtain ⟨-, relax, complete, -⟩ := (State.stepDue_iff _).1 due
      obtain ⟨-, apart, same, due⟩ := State.relax_due_of_reform hd relax
      rw [State.stepLoosens, parked', published, target] at loosens
      exact ⟨apart, same, due, by rw [← publication, complete], loosens⟩

/-! ### The mismatch timer -/

/-- A condition set after Motion has moved: nothing else changes (R51, R170). -/
theorem State.setCond_moved (m : Motion) (k : Fin 24) (a : Bool) (d : Option Detail) (s : State) :
    let t := State.setCond k a d { s with motion := m }
    t.motion = m ∧ (∀ j, j ≠ k → t.cond j = s.cond j) ∧
      t = { s with motion := t.motion, intake := { s.intake with conds := t.intake.conds } } := by
  refine ⟨by simp, fun j hj => State.cond_setCond_ne _ _ _ hj, ?_⟩
  unfold State.setCond
  split <;> rfl

theorem State.assertMismatch_eq {axle : Axle} {s : State} (h : s.motion.mismatchAxle = some axle) :
    s.assertMismatch = State.setCond (mismatchCond axle) true (some s.motion.gapDetail)
      { s with motion := { s.motion with mismatch := .asserted, mismatchTimer := none } } := by
  simp [State.assertMismatch, h]

theorem State.settleMismatch_eq {axle : Axle} {s : State} (settling : s.motion.mismatch = .settling)
    (h : s.motion.mismatchAxle = some axle) :
    s.settleMismatch = State.setCond (mismatchCond axle) false none { s with motion := s.motion.quiet } := by
  simp [State.settleMismatch, State.releaseMismatch, h, Motion.mismatchHeld, settling, Motion.quiet]

theorem exec_mismatchTimerExpiry {s : State} (h : s.motion.mismatchTimer.isSome = true) :
    (s.motion.mismatch = .arming → exec .mismatchTimerExpiry s = .next s.assertMismatch) ∧
      (s.motion.mismatch = .settling → exec .mismatchTimerExpiry s = .next s.settleMismatch) := by
  obtain ⟨left, runs⟩ := Option.isSome_iff_exists.1 h
  constructor <;> intro state <;> simp [exec, execMismatchTimerExpiry, runs, state]

/-- Settles O43: PARKED told to the Ladder in RUN (`State.reform_tryStep_spec`) and held outside it; the mismatch condition set
with the detector's move (`State.setCond_moved`). -/
theorem motionTimersExpire : Obligations.MotionTimersExpire := by
  intro s
  refine ⟨fun runs => ⟨s.raiseParked, exec_parkedHoldExpiry runs, ?_⟩, fun axle runs arming slower clear => ?_,
    fun axle runs settling slower => ?_⟩
  · obtain ⟨motion, parked, faults, config, intake, pool, monitor, device⟩ := s.raiseParked_leaves
    refine ⟨motion, parked, faults, config, intake, pool, monitor, device, fun idle => ?_, fun running => ?_⟩
    · rw [State.raiseParked_eq, idle]
      exact ⟨rfl, rfl, rfl⟩
    · have formed : s.raiseParked.formedTarget = s.toldParked.formedTarget :=
        State.formedTarget_congr (by rw [device]; rfl) (by rw [config]; rfl) parked
          (fun e => by rw [State.entry_congr (s := s.toldParked) faults]) (by rw [faults]; rfl)
      obtain ⟨tightens, steps, waits⟩ := State.reform_tryStep_spec (s := s.toldParked) running rfl
      have start {l tgt : Limits} {t : State} (h : Publishes l tgt s.toldParked t) : Publishes l tgt s t :=
        h.of_start (w := s.toldParked) rfl rfl fun _ => rfl
      rw [formed, State.raiseParked_eq, if_pos running]
      refine ⟨fun h => start (tightens h), fun h g => start (steps h g), fun h g => ?_⟩
      obtain ⟨published, target, reached, moved, kept⟩ := waits h g
      exact ⟨published, target, reached, moved, kept⟩
  · refine ⟨_, (exec_mismatchTimerExpiry runs).1 arming, ?_⟩
    rw [State.assertMismatch_eq slower]
    obtain ⟨motion, others, rest⟩ := State.setCond_moved { s.motion with mismatch := .asserted, mismatchTimer := none }
      (mismatchCond axle) true (some s.motion.gapDetail) s
    refine ⟨motion, ?_, others, rest⟩
    rw [State.cond_setCond, if_neg]
    · rfl
    · exact Bool.eq_false_iff.1 clear
  · refine ⟨_, (exec_mismatchTimerExpiry runs).2 settling, ?_⟩
    rw [State.settleMismatch_eq settling slower]
    obtain ⟨motion, others, rest⟩ := State.setCond_moved s.motion.quiet (mismatchCond axle) false none s
    exact ⟨motion, State.asserted_setCond _ _ _ _, others, rest⟩

end Sys2Proof.Machine
end

section
/-!
PROOFS. The adoption records: what a publication, a join, an adoption and every other operation make of the generation counter,
of the adopted generations and of the completion flag (`AdoptionsHold`), and the statement on every step.
-/
namespace Sys2Proof.Machine

open Sys2Proof

/-! ### The two conditions together -/

/-- The counter is a 32-bit number that no adopted generation exceeds, a port that owes is a member, and completion agrees with
owing (R130, R131, R133). -/
structure AdoptionsHold (s : State) : Prop where
  counter : s.publication.counter ≤ generationMax
  adopted : ∀ p, (s.adoption p).adopted ≤ s.publication.counter
  members : ∀ p, (s.adoption p).owing = true → s.publication.members.get p = true
  complete : s.publication.complete = true ↔ ∀ p, (s.adoption p).owing = false

theorem adoptionsHold_iff (s : State) : AdoptionsHold s ↔ GenerationsFit s ∧ CompletionAgrees s :=
  ⟨fun ⟨counter, adopted, members, complete⟩ => ⟨⟨counter, adopted⟩, members, complete⟩,
    fun ⟨⟨counter, adopted⟩, members, complete⟩ => ⟨counter, adopted, members, complete⟩⟩

theorem adoptionsHold_reset : AdoptionsHold State.reset :=
  (adoptionsHold_iff _).2 ⟨generationsFit_reset, completionAgrees_reset⟩

theorem State.nextGeneration_le (n : Nat) : State.nextGeneration n ≤ generationMax := by
  unfold State.nextGeneration
  split
  · next below => exact below
  · decide

/-- At a publication the counter moves on, or wraps with every adopted generation set to 0 (R130). -/
theorem State.publishRecord_adopted_le {n : Nat} {a : Adoption} (member : Bool) (h : a.adopted ≤ n) :
    (State.publishRecord (!(n < generationMax)) member a).adopted ≤ State.nextGeneration n := by
  unfold State.publishRecord State.nextGeneration
  by_cases below : n < generationMax
  · simpa [below] using Nat.le_succ_of_le h
  · simp [below]

theorem State.adoption_setAdoption_eq (s : State) (p q : Station) (x : Adoption) :
    (s.setAdoption p x).adoption q = if q = p then x else s.adoption q :=
  PerStation.get_put _ _ _ _

/-- No member owes: the test of R140. -/
theorem State.noneOwing_iff (s : State) :
    s.noneOwing = true ↔ ∀ p, s.publication.members.get p = true → (s.adoption p).owing = false := by
  have listed : s.noneOwing = true ↔
      ∀ p ∈ [Station.ride, .front, .rear, .pack], s.publication.members.get p = true → (s.adoption p).owing = false := by
    simp only [State.noneOwing, List.all_eq_true, Bool.not_eq_true', Bool.and_eq_false_imp]
  refine listed.trans ⟨fun h p => h p (by cases p <;> decide), fun h p _ => h p⟩

/-! ### One port adopts the current generation -/

/-- Port `p` has adopted the current generation and ADOPT_TIMEOUT is withdrawn; completion is not tested yet (R140). -/
def State.adoptedBy (p : Station) (s : State) : State :=
  let noted := s.setAdoption p (State.adoptedRecord s.publication.counter (s.adoption p))
  if (s.adoption p).unresponsive then noted.setCond (adoptCond p) false none else noted

theorem State.adoptCurrent_eq (p : Station) (s : State) : s.adoptCurrent p = (s.adoptedBy p).testComplete := rfl

theorem State.adoptedBy_publication (p : Station) (s : State) : (s.adoptedBy p).publication =
    (s.setAdoption p (State.adoptedRecord s.publication.counter (s.adoption p))).publication := by
  unfold State.adoptedBy
  dsimp only
  split
  · simp
  · rfl

@[simp] theorem State.adoptedBy_frame (p : Station) (s : State) :
    (s.adoptedBy p).device = s.device ∧ (s.adoptedBy p).config = s.config ∧ (s.adoptedBy p).ports = s.ports ∧
      (s.adoptedBy p).pool = s.pool ∧ (s.adoptedBy p).faults = s.faults ∧ (s.adoptedBy p).motion = s.motion ∧
      (s.adoptedBy p).ladder = s.ladder ∧ (s.adoptedBy p).lines = s.lines ∧
      (s.adoptedBy p).publication.counter = s.publication.counter ∧
      (s.adoptedBy p).publication.members = s.publication.members ∧
      (s.adoptedBy p).publication.complete = s.publication.complete := by
  refine ⟨?_, ?_, ?_, ?_, ?_, ?_, ?_, ?_, by rw [adoptedBy_publication]; rfl, by rw [adoptedBy_publication]; rfl,
    by rw [adoptedBy_publication]; rfl⟩
  all_goals
    unfold State.adoptedBy
    dsimp only
    split <;> simp

/-- The port has adopted and owes nothing, its window stops, and what it had missed is forgotten (R140; log 21). -/
theorem State.adoptedBy_adoption (p q : Station) (s : State) : (s.adoptedBy p).adoption q =
    if q = p then ⟨s.publication.counter, false, .idle, none, false, false⟩ else s.adoption q :=
  (State.adoption_congr (s.adoptedBy_publication p) q).trans (State.adoption_setAdoption_eq ..)

namespace AdoptionsHold

variable {s t : State}

/-- An operation whose frame holds Publication. -/
theorem of_frame (h : AdoptionsHold s) (hq : t.publication = s.publication := by simp) : AdoptionsHold t := by
  obtain ⟨counter, adopted, members, complete⟩ := h
  have same := State.adoption_congr hq
  refine ⟨?_, ?_, ?_, ?_⟩
  all_goals simp only [hq, same]
  all_goals assumption

theorem ite {c : Prop} [Decidable c] (ha : c → AdoptionsHold s) (hb : ¬c → AdoptionsHold t) :
    AdoptionsHold (if c then s else t) := by
  split
  · exact ha ‹_›
  · exact hb ‹_›

theorem ite_fst {c : Prop} [Decidable c] {a b : State × Verdict} (ha : AdoptionsHold a.1) (hb : AdoptionsHold b.1) :
    AdoptionsHold (if c then a else b).1 := by
  split
  · exact ha
  · exact hb

theorem modPort (h : AdoptionsHold s) (p : Station) (f : Port → Port) : AdoptionsHold (s.modPort p f) := h.of_frame

/-! ### Publication -/

/-- Records that owe as they did, and have adopted no generation above the counter. -/
theorem of_records (h : AdoptionsHold s) (owing : ∀ p, (t.adoption p).owing = (s.adoption p).owing)
    (adopted : ∀ p, (t.adoption p).adopted ≤ s.publication.counter)
    (counter : t.publication.counter = s.publication.counter := by simp)
    (members : t.publication.members = s.publication.members := by simp)
    (complete : t.publication.complete = s.publication.complete := by simp) : AdoptionsHold t where
  counter := counter ▸ h.counter
  adopted p := counter ▸ adopted p
  members p owes := by
    rw [members]
    exact h.members p (owing p ▸ owes)
  complete := by
    simp only [complete, owing]
    exact h.complete

/-- One port's record changes, but not what it owes. -/
theorem setAdoption (h : AdoptionsHold s) (p : Station) {x : Adoption} (owing : x.owing = (s.adoption p).owing)
    (adopted : x.adopted ≤ s.publication.counter) : AdoptionsHold (s.setAdoption p x) := by
  refine h.of_records (fun q => ?_) fun q => ?_
  all_goals rw [State.adoption_setAdoption_eq]
  · split
    · next here => rw [here, owing]
    · rfl
  · split
    · exact adopted
    · exact h.adopted q

/-- A publication takes the next generation, and those owe it that it is addressed to (R130, R132). -/
theorem publish (h : AdoptionsHold s) (l : Limits) (cause : Option (Fin 48)) : AdoptionsHold (s.publish l cause) := by
  obtain ⟨-, counter, members, complete, -, record, -⟩ := s.publish_spec l cause
  have owing (p : Station) : ((s.publish l cause).adoption p).owing = s.addressed p := by rw [record, State.publishRecord]
  refine ⟨?_, fun p => ?_, fun p owes => ?_, ?_⟩
  · rw [counter]
    exact State.nextGeneration_le _
  · rw [counter, record]
    exact State.publishRecord_adopted_le _ (h.adopted p)
  · rw [members, ← owing, owes]
  · rw [complete]
    exact forall_congr' fun p => by rw [owing]

theorem publishWhole (h : AdoptionsHold s) (l : Limits) (cause : Option (Fin 48)) : AdoptionsHold (s.publishWhole l cause) :=
  (h.publish l cause).of_frame rfl

/-- A port that joins owes the current generation, which is no longer complete (R134). -/
theorem join (h : AdoptionsHold s) (p : Station) : AdoptionsHold (s.join p) := by
  have joined : (s.join p).adoption p =
      { s.adoption p with adopted := 0, owing := true, window := .idle, timer := none } :=
    PerStation.get_put_same _ _ _
  have others {q : Station} (hq : q ≠ p) : (s.join p).adoption q = s.adoption q := PerStation.get_put_ne _ _ hq
  refine ⟨h.counter, fun q => ?_, fun q owes => ?_, iff_of_false Bool.false_ne_true fun nobody => ?_⟩
  · by_cases here : q = p
    · rw [here, joined]
      exact Nat.zero_le _
    · rw [others here]
      exact h.adopted q
  · by_cases here : q = p
    · rw [here]
      exact PerStation.get_put_same _ _ _
    · rw [others here] at owes
      exact (PerStation.get_put_ne _ _ here).trans (h.members q owes)
  · have owes := nobody p
    rw [joined] at owes
    cases owes

theorem setRelax (h : AdoptionsHold s) (moved : Bool) : AdoptionsHold (s.setRelax moved) := h.of_frame

theorem tryStep (h : AdoptionsHold s) : AdoptionsHold s.tryStep :=
  ite (fun _ => (h.publish _ _).setRelax true) fun _ => h

/-- Where completion may lag behind what is owed, the test of R140 brings the two together. -/
theorem testComplete (counter : s.publication.counter ≤ generationMax)
    (adopted : ∀ p, (s.adoption p).adopted ≤ s.publication.counter)
    (members : ∀ p, (s.adoption p).owing = true → s.publication.members.get p = true)
    (complete : s.publication.complete = true → ∀ p, (s.adoption p).owing = false) : AdoptionsHold s.testComplete := by
  have owing_iff : s.noneOwing = true ↔ ∀ p, (s.adoption p).owing = false :=
    s.noneOwing_iff.trans ⟨fun h p => Bool.eq_false_iff.2 fun owes => by simp [h p (members p owes)] at owes, fun h p _ => h p⟩
  refine ite (fun completes => ?_) fun lags => ?_
  · rw [Bool.and_eq_true, owing_iff] at completes
    have flagged : AdoptionsHold { s with publication := { s.publication with complete := true } } :=
      ⟨counter, adopted, members, iff_of_true rfl completes.2⟩
    exact (flagged.of_frame (t := State.completeAdoption _)).tryStep
  · rw [Bool.and_eq_true, owing_iff, Bool.not_eq_true'] at lags
    exact ⟨counter, adopted, members, complete, fun nobody => by
      by_contra flag
      exact lags ⟨Bool.eq_false_iff.2 flag, nobody⟩⟩

/-- A port that adopts the current generation owes it no more (R140). -/
theorem adoptCurrent (h : AdoptionsHold s) (p : Station) : AdoptionsHold (s.adoptCurrent p) := by
  rw [State.adoptCurrent_eq]
  refine testComplete (by simpa using h.counter) (fun q => ?_) (fun q => ?_) fun complete q => ?_
  all_goals rw [State.adoptedBy_adoption]
  · split
    · simp
    · simpa using h.adopted q
  · split
    · exact nofun
    · simpa using h.members q
  · split
    · rfl
    · exact h.complete.1 (by simpa using complete) q

theorem adoptInTurn (h : AdoptionsHold s) (p : Station) (payload : List Byte) : AdoptionsHold (s.adoptInTurn p payload) := by
  unfold State.adoptInTurn
  split
  · exact ite (fun below => h.setAdoption p rfl (Nat.le_of_lt below)) fun _ => ite (fun _ => h.adoptCurrent p) fun _ => h
  · exact h.of_frame

theorem depart (h : AdoptionsHold s) (p : Station) : AdoptionsHold (s.depart p) := h.setAdoption p rfl (h.adopted p)

theorem windowOnSend_keeps (k : Nat) (a : Adoption) :
    (State.windowOnSend k a).owing = a.owing ∧ (State.windowOnSend k a).adopted = a.adopted := by
  unfold State.windowOnSend
  split
  · split <;> exact ⟨rfl, rfl⟩
  · split <;> exact ⟨rfl, rfl⟩
  · exact ⟨rfl, rfl⟩

/-- A frame sent moves at most an adoption window (R136). -/
theorem tellSent (h : AdoptionsHold s) (p : Station) (f : OutFrame) : AdoptionsHold (s.tellSent p f) := by
  unfold State.tellSent
  split
  · obtain ⟨owing, adopted⟩ := windowOnSend_keeps s.config.timing.adoptionWindow (s.adoption p)
    exact ite (fun _ => h.setAdoption p owing (adopted ▸ h.adopted p)) fun _ => h
  · exact h.of_frame rfl
  all_goals exact h

theorem resend (h : AdoptionsHold s) (p : Station) : AdoptionsHold (s.resend p) := by
  have waiting := h.setAdoption p (x := { s.adoption p with window := .resent, timer := none }) rfl (h.adopted p)
  unfold State.resend
  exact waiting.of_frame

theorem lapse (h : AdoptionsHold s) (p : Station) : AdoptionsHold (s.lapse p) :=
  have lapsed := h.setAdoption p
    (x := { s.adoption p with window := .idle, timer := none, unresponsive := true, lapsed := true }) rfl (h.adopted p)
  ite (fun _ => lapsed) fun _ => lapsed.of_frame

/-! ### The Ladder, Motion and the Fault Table -/

theorem reform (h : AdoptionsHold s) : AdoptionsHold s.reform := by
  have formed (target : Envelope) : AdoptionsHold { s with ladder := { s.ladder with target := target } } := h.of_frame rfl
  exact ite (fun _ => ((formed _).publish _ _).setRelax true) fun _ => (formed _).setRelax _

theorem relaxDue (h : AdoptionsHold s) : AdoptionsHold s.relaxDue := tryStep (h.of_frame rfl)

theorem reportParked (h : AdoptionsHold s) (b : Bool) : AdoptionsHold (s.reportParked b) := by
  have told : AdoptionsHold { s with ladder := { s.ladder with parked := b }, faults := { s.faults with parked := b } } :=
    h.of_frame rfl
  exact ite (fun _ => ite (fun _ => told.reform.tryStep) fun _ => told.reform) fun _ => told

theorem moveMotion (h : AdoptionsHold s) (m : Motion) : AdoptionsHold (s.moveMotion m) := by
  have moved (new : Motion) : AdoptionsHold (State.releaseMismatch s.motion { s with motion := new }) := h.of_frame
  exact ite (fun _ => moved _) fun _ => (moved _).reportParked _

theorem motionPort (h : AdoptionsHold s) (p : Station) : AdoptionsHold (s.motionPort p) :=
  ite (fun _ => h.moveMotion _) fun _ => h

theorem stopMotion (h : AdoptionsHold s) : AdoptionsHold s.stopMotion :=
  have stopped : AdoptionsHold { s with motion := Motion.reset } := h.of_frame rfl
  ite (fun _ => stopped.reportParked _) fun _ => stopped

theorem raiseParked (h : AdoptionsHold s) : AdoptionsHold s.raiseParked :=
  have raised : AdoptionsHold { s with motion := { s.motion with parked := true, parkedHold := none } } := h.of_frame rfl
  raised.reportParked true

theorem settle (h : AdoptionsHold s) (old : FaultTable) : AdoptionsHold (s.settle old) := by
  have noticed : AdoptionsHold (s.settleRoots.notify old) := h.of_frame
  exact ite (fun _ => ite (fun _ => noticed.reform) fun _ => noticed) fun _ => h

theorem retireEntry (h : AdoptionsHold s) (e : Fin 48) (o : EpisodeEnd) : AdoptionsHold (s.retireEntry e o) := by
  have retired (x : Entry) : AdoptionsHold (s.setEntry e x) := h.of_frame
  exact (retired _).settle _

theorem judgeClear (h : AdoptionsHold s) (p : Station) (payload : List Byte) : AdoptionsHold (s.judgeClear p payload).1 := by
  refine ite_fst h ?_
  split
  · exact h
  · split
    · exact h
    · exact ite_fst h (ite_fst h (ite_fst h (ite_fst h (h.retireEntry _ .cleared))))

theorem judgeDiscardEntry (h : AdoptionsHold s) (p : Station) (payload : List Byte) :
    AdoptionsHold (s.judgeDiscardEntry p payload).1 := by
  refine ite_fst h ?_
  split
  · exact h
  · exact ite_fst h (ite_fst h (settle h.of_frame _))

theorem judgeDiscardAll (h : AdoptionsHold s) (p : Station) (payload : List Byte) :
    AdoptionsHold (s.judgeDiscardAll p payload).1 := by
  have settled : AdoptionsHold (s.freeRetired.settle s.faults) := settle h.of_frame _
  refine ite_fst h (ite_fst h (ite_fst h ?_))
  dsimp only
  exact settled

theorem judgeClearOverflow (h : AdoptionsHold s) (p : Station) (payload : List Byte) :
    AdoptionsHold (s.judgeClearOverflow p payload).1 :=
  ite_fst h (ite_fst h (ite_fst h (ite_fst h (settle h.of_frame _))))

/-! ### Frames and ports -/

theorem endTurn (h : AdoptionsHold s) (how : TurnEnd) (p : Station) : AdoptionsHold (s.endTurn how p) := by
  have silenced (o : Port) (silent : Bool) : AdoptionsHold ((s.setPort p o).motionSilence p silent) := h.of_frame
  exact (silenced _ _).motionPort p

theorem takeFrame {p : Station} {turn : Bool} {hand : State → State} (hhand : ∀ u, AdoptionsHold u → AdoptionsHold (hand u))
    (h : AdoptionsHold s) : AdoptionsHold (s.takeFrame p turn hand) :=
  State.takeFrame_holds AdoptionsHold (fun _ f hu => hu.modPort p f) (fun _ hu => hu.endTurn .normal p) hhand h

theorem receipted {p : Station} {judge : State → State × Verdict} (hjudge : ∀ u, AdoptionsHold u → AdoptionsHold (judge u).1)
    (u : State) (h : AdoptionsHold u) : AdoptionsHold (State.receipted p judge u) :=
  State.receipted_holds AdoptionsHold (fun _ f hu => hu.modPort p f) (hjudge u) h

theorem takeConfig {p : Station} {turn : Bool} {judge : State → State × Verdict}
    (hjudge : ∀ u, AdoptionsHold u → AdoptionsHold (judge u).1) (h : AdoptionsHold s) :
    AdoptionsHold (s.takeConfig p turn judge) :=
  takeFrame (receipted fun u hu => State.judgeConfig_holds AdoptionsHold (fun _ _ => hjudge u hu) hu) h

theorem completeIf (h : AdoptionsHold s) (p : Station) (is : Sending → Bool) : AdoptionsHold (s.completeIf p is) :=
  State.completeIf_holds AdoptionsHold (fun _ f hu => hu.modPort p f) (h.tellSent p) h

/-- A port takes another state, and leaves the exchange if it was in it (R19, R20, R135). -/
theorem setPort_leave (h : AdoptionsHold s) (p : Station) (o : Port) : AdoptionsHold (State.motionPort p
    (if (s.port p).inExchange then (s.setPort p o).leaveExchange p else s.setPort p o)) := by
  have moved : AdoptionsHold (s.setPort p o) := h.of_frame
  have truncated : AdoptionsHold ((s.setPort p o).truncate p) := moved.of_frame
  exact motionPort (ite (fun _ => truncated.depart p) fun _ => moved) p

theorem enterOffline (h : AdoptionsHold s) (p : Station) : AdoptionsHold (s.enterOffline p) :=
  ite (fun _ => h) fun _ => h.setPort_leave p _

theorem enterSync (h : AdoptionsHold s) (p : Station) : AdoptionsHold (s.enterSync p) := h.setPort_leave p _

theorem contention (h : AdoptionsHold s) (p : Station) (f : OutFrame) : AdoptionsHold (s.contention p f) :=
  have contended := h.modPort p (Port.contend f)
  ite (fun _ => (contended.modPort p _).motionPort p) fun _ => (contended.enterSync p).of_frame

theorem breakTurn (h : AdoptionsHold s) (p : Station) : AdoptionsHold (s.breakTurn p) :=
  ((h.modPort p _).modPort p _).endTurn .broken p

theorem synchronised (h : AdoptionsHold s) (p : Station) : AdoptionsHold (s.synchronised p) := by
  have silenced : AdoptionsHold (s.motionSilence p false) := h.of_frame
  exact (silenced.motionPort p).join p

theorem helloInSync (h : AdoptionsHold s) (p : Station) (payload : List Byte) : AdoptionsHold (s.helloInSync p payload) := by
  refine ite (fun _ => ?_) fun _ => h
  split
  · have cleared (f : Port → Port) : AdoptionsHold ((s.modPort p f).setCond (linkLostCond p) false none) := h.of_frame
    exact (cleared _).synchronised p
  · exact h.modPort p _

theorem helloInTurn (h : AdoptionsHold s) (p : Station) (payload : List Byte) : AdoptionsHold (s.helloInTurn p payload) := by
  unfold State.helloInTurn
  split
  · exact (h.modPort p _).synchronised p
  · exact h.of_frame

theorem statusInTurn (h : AdoptionsHold s) (p : Station) (payload : List Byte) : AdoptionsHold (s.statusInTurn p payload) := by
  unfold State.statusInTurn
  split
  · exact h.of_frame
  · exact (h.modPort p _).moveMotion _
  · exact h.of_frame

/-! ### The passages between device states -/

theorem enterRun (h : AdoptionsHold s) (way : RunEntry) : AdoptionsHold (s.enterRun way) := by
  have entered : AdoptionsHold
      { s with device := { s.device with state := .run, configureWindow := none, way := way } } := h.of_frame rfl
  have rooted {u : State} (hu : AdoptionsHold u) : AdoptionsHold u.settleRoots := hu.of_frame
  have marked {u : State} (hu : AdoptionsHold u) : AdoptionsHold (stations.foldl State.loseIfSync u).markConds := hu.of_frame
  unfold State.enterRun
  exact marked ((rooted entered).publishWhole _ _)

theorem judgeCommit (h : AdoptionsHold s) (p : Station) (payload : List Byte) : AdoptionsHold (s.judgeCommit p payload).1 := by
  refine ite_fst h (ite_fst h (ite_fst h ?_))
  unfold State.judgeConsistency
  dsimp only
  split
  · exact h.of_frame
  · exact enterRun h.of_frame .commit

theorem expireConfigure (h : AdoptionsHold s) (mV : Nat) : AdoptionsHold (s.expireConfigure mV) := by
  have told {u : State} (hu : AdoptionsHold u) (d : Option Detail) : AdoptionsHold (u.setCond 23 true d) := hu.of_frame
  unfold State.expireConfigure
  refine told ?_ _
  split
  · exact enterRun h.of_frame _
  · exact enterRun h.of_frame _

theorem enterConfigure (h : AdoptionsHold s) (mV : Nat) : AdoptionsHold (s.enterConfigure mV) := by
  have entered : AdoptionsHold { s with device := { s.device with
      state := .configure, configureWindow := some configureWindowMs, check := .none, way := .notYet } } := h.of_frame rfl
  have woken := foldl_holds AdoptionsHold (g := State.wakePort)
    (fun u p hu => ite (fun _ => hu.enterSync p) fun _ => hu) stations _ entered
  have started {u : State} (hu : AdoptionsHold u) : AdoptionsHold (u.startMonitor mV) := hu.of_frame
  unfold State.enterConfigure
  exact (started woken).publishWhole _ _

theorem keyOff (h : AdoptionsHold s) : AdoptionsHold s.keyOff := by
  have finished : AdoptionsHold (State.finishReport
      { s with device := { s.device with state := .standby, configureWindow := none } }) := h.of_frame
  have off := foldl_holds AdoptionsHold (g := State.portOff) (fun _ p hu => hu.enterOffline p) stations _ finished
  have purged {u : State} (hu : AdoptionsHold u) : AdoptionsHold u.purgeIntake.purgeTable.stopMonitor := hu.of_frame
  have ended {u : State} (hu : AdoptionsHold u) : AdoptionsHold u.endEpisodes :=
    hu.of_records (fun p => by simp [State.adoption, State.endEpisodes])
      (fun p => by simpa [State.adoption, State.endEpisodes] using hu.adopted p) rfl rfl rfl
  exact ended ((purged off).stopMotion.publishWhole _ _)

theorem keyLow (h : AdoptionsHold s) : AdoptionsHold s.keyLow := by
  unfold State.keyLow
  split
  · exact h.keyOff
  · exact h.keyOff
  all_goals exact h

theorem keyHigh (h : AdoptionsHold s) (mV : Nat) : AdoptionsHold (s.keyHigh mV) := by
  unfold State.keyHigh
  split
  · exact h.enterConfigure mV
  all_goals exact h

theorem leaveReset (h : AdoptionsHold s) (topo : Topology) (key : Bool) (mV : Nat) :
    AdoptionsHold (s.leaveReset topo key mV) := by
  unfold State.leaveReset
  refine ite (fun _ => enterConfigure ?_ mV) fun _ => ?_
  all_goals exact h.of_frame rfl

theorem enterReset (resetN settled : Bool) (s : State) : AdoptionsHold (s.enterReset resetN settled) :=
  adoptionsHold_reset.of_frame rfl

/-- Time takes from the adoption windows only (log 1). -/
theorem tick (h : AdoptionsHold s) : AdoptionsHold s.tick :=
  ite (fun _ => h) fun _ => h.of_records (fun p => by simp [State.adoption, State.pass, Adoption.pass])
    (fun p => by simpa [State.adoption, State.pass, Adoption.pass] using h.adopted p) rfl rfl rfl

end AdoptionsHold

/-! ### What each command makes of the adoption records -/

/-- The command answers a next state whose adoption records are sound. -/
def AnswersAdoptions (o : Host.Outcome State Fault Refusal) : Prop :=
  ∃ t, o = .next t ∧ AdoptionsHold t

namespace AnswersAdoptions

theorem keep {t : State} (h : AdoptionsHold t) : AnswersAdoptions (.next t) := ⟨t, rfl, h⟩

variable {s : State}

theorem keyDebounceExpiry (mV : Nat) (h : AdoptionsHold s) : AnswersAdoptions (execKeyDebounceExpiry mV s) := by
  unfold execKeyDebounceExpiry
  split
  · exact keep h
  · have sampled : AdoptionsHold { s with device := { s.device with debounce := none, keyLevel := s.device.keyPin } } :=
      h.of_frame rfl
    exact keep (.ite (fun _ => sampled.keyHigh mV) fun _ => sampled.keyLow)

theorem configureWindowExpiry (mV : Nat) (h : AdoptionsHold s) : AnswersAdoptions (execConfigureWindowExpiry mV s) := by
  unfold execConfigureWindowExpiry
  split
  · exact keep h
  · exact keep (h.expireConfigure mV)

theorem contention (p : Station) (h : AdoptionsHold s) : AnswersAdoptions (execContention p s) := by
  unfold execContention
  split
  · exact keep (h.contention p _)
  · exact keep h.of_frame
  · exact keep h

theorem stationDrivesLine (p : Station) (h : AdoptionsHold s) : AnswersAdoptions (execStationDrivesLine p s) := by
  unfold execStationDrivesLine
  split
  · exact keep h.of_frame
  · exact keep h.of_frame
  all_goals exact keep h

theorem heartbeatExpiry (p : Station) (h : AdoptionsHold s) : AnswersAdoptions (execHeartbeatExpiry p s) := by
  unfold execHeartbeatExpiry
  split
  · exact keep h
  · exact keep (h.modPort p _)

theorem turnWindowExpiry (p : Station) (receiving : Bool) (h : AdoptionsHold s) :
    AnswersAdoptions (execTurnWindowExpiry p receiving s) := by
  unfold execTurnWindowExpiry
  split
  · split
    · exact keep (h.modPort p _)
    · exact keep (h.endTurn .expiry p)
  · exact keep h

theorem reportApplied (h : AdoptionsHold s) : AnswersAdoptions (execReportApplied s) := by
  unfold execReportApplied
  split
  · exact keep h
  · exact keep (.settle h.of_frame _)

theorem adoptionWindowExpiry (p : Station) (h : AdoptionsHold s) : AnswersAdoptions (execAdoptionWindowExpiry p s) := by
  unfold execAdoptionWindowExpiry
  split
  · exact keep (h.resend p)
  · exact keep (h.lapse p)
  all_goals exact keep h

end AnswersAdoptions

/-- From sound adoption records every command answers sound ones. -/
theorem exec_adoptions (c : Instr) {s : State} (h : AdoptionsHold s) : AnswersAdoptions (exec c s) := by
  cases c with
  | powerOn => exact .keep (.enterReset _ _ s)
  | resetNLow => exact .keep (.enterReset _ _ s)
  | resetEnd topo1 topo0 key mV => exact .keep (.ite (fun _ => h.leaveReset _ key mV) fun _ => h)
  | keyPinChange level => exact .keep (h.of_frame rfl)
  | keyDebounceExpiry mV => exact .keyDebounceExpiry mV h
  | configureWindowExpiry mV => exact .configureWindowExpiry mV h
  | reqChange p level => exact .keep (h.modPort p _)
  | hello p turn payload =>
    exact .keep (.ite (fun _ => h.helloInSync p payload) fun _ => .takeFrame (fun _ hu => hu.helloInTurn p payload) h)
  | status p turn payload => exact .keep (.takeFrame (fun _ hu => hu.statusInTurn p payload) h)
  | adopt p turn payload => exact .keep (.takeFrame (fun _ hu => hu.adoptInTurn p payload) h)
  | clear p turn payload => exact .keep (.takeFrame (.receipted fun _ hu => hu.judgeClear p payload) h)
  | discardEntry p turn payload => exact .keep (.takeFrame (.receipted fun _ hu => hu.judgeDiscardEntry p payload) h)
  | discardAllRetired p turn payload => exact .keep (.takeFrame (.receipted fun _ hu => hu.judgeDiscardAll p payload) h)
  | clearOverflow p turn payload => exact .keep (.takeFrame (.receipted fun _ hu => hu.judgeClearOverflow p payload) h)
  | commit p turn payload => exact .keep (.takeFrame (.receipted fun _ hu => hu.judgeCommit p payload) h)
  | report p turn payload | snapshot p turn payload | readTable p turn payload | readEntry p turn payload
  | readSnapshot p turn payload | readEnvelope p turn payload | readMonitor p turn payload | readOverflow p turn payload
  | readIdent p turn payload =>
    exact .keep (.takeFrame (.receipted fun _ hu => hu.of_frame) h)
  | zoneRecord p turn payload | classRecord p turn payload | levelRecord p turn payload
  | responseRecord p turn payload | scanRecord p turn payload | channelsRecord p turn payload
  | comparatorRecord p turn payload mV | timingRecord p turn payload | weightRecord p turn payload =>
    exact .keep (.takeConfig (fun _ hu => hu.of_frame) h)
  | discardedFrame p cause =>
    exact .keep (.ite (fun _ => .ite (fun _ => h.modPort p _) fun _ => h) fun _ => .takeFrame (fun _ hu => hu.of_frame) h)
  | outOfTurnFrame p | snapshotWindowExpiry p => exact .keep h.of_frame
  | brokenFrame p => exact .keep (.ite (fun _ => h.breakTurn p) fun _ => h.of_frame)
  | contention p => exact .contention p h
  | stationDrivesLine p => exact .stationDrivesLine p h
  | outboundArbiterChoice p | arbiterHandOff | syncDue p | syncSent p | syncTurnExpiry p | scanDue | sampleComplete value
  | falling mV | rising mV =>
    exact .keep (.ite (fun _ => h.of_frame) fun _ => h)
  | expiredTurnLineIdle p => exact .keep (.ite (fun _ => (h.modPort p _).endTurn .expiry p) fun _ => h)
  | recoverQuietExpiry p => exact .keep (.ite (fun _ => (h.modPort p _).motionPort p) fun _ => h)
  | grantSent p | envelopeSent p | receiptSent p | readReplySent p => exact .keep (h.completeIf p _)
  | noticeSent => exact .keep (h.completeIf .ride _)
  | heartbeatExpiry p => exact .heartbeatExpiry p h
  | turnWindowExpiry p receiving => exact .turnWindowExpiry p receiving h
  | selfReportFormed =>
    refine .keep (.ite (fun _ => ?_) fun _ => h)
    split
    · exact h.of_frame
    · exact h
  | reportApplied => exact .reportApplied h
  | adoptionWindowExpiry p => exact .adoptionWindowExpiry p h
  | noticeDelayExpiry | absoluteDelayExpiry =>
    dsimp only [exec, execNoticeDelayExpiry, execAbsoluteDelayExpiry]
    split
    · exact .keep h.of_frame
    · exact .keep h
  | relaxHoldExpiry =>
    dsimp only [exec, execRelaxHoldExpiry]
    split
    · exact .keep h.relaxDue
    · exact .keep h
  | parkedHoldExpiry =>
    dsimp only [exec, execParkedHoldExpiry]
    split
    · exact .keep h.raiseParked
    · exact .keep h
  | confirmWindowExpiry e | healHoldExpiry e =>
    dsimp only [exec, execConfirmWindowExpiry, execHealHoldExpiry]
    split
    · exact .keep (h.retireEntry e _)
    all_goals exact .keep h
  | mismatchTimerExpiry =>
    dsimp only [exec, execMismatchTimerExpiry]
    split
    · exact .keep h.of_frame
    · exact .keep h.of_frame
    all_goals exact .keep h

/-- Settles O55: a publication, a join and an adoption each keep counter, records and completion together, and every other
operation leaves owing and adopted generations alone (`exec_adoptions`). -/
theorem everyStepKeepsTheAdoptionRecords : Obligations.EveryStepKeepsTheAdoptionRecords := by
  intro s t fit agrees h
  have before := (adoptionsHold_iff s).2 ⟨fit, agrees⟩
  refine (adoptionsHold_iff t).1 ?_
  obtain ⟨-, rfl⟩ | ⟨c, rest, -, he⟩ := step_cases h
  · exact before.tick
  · obtain ⟨u, hu, after⟩ := exec_adoptions c (s := { s with pending := rest }) (before.of_frame rfl)
    cases he.symm.trans hu
    exact after

end Sys2Proof.Machine
end

section
/-!
PROOFS. Adoption by one port: the ENVELOPE sent, the two expiries of its window, and the ADOPTs that answer it.
-/
namespace Sys2Proof.Machine

open Sys2Proof

/-! ### The adoption window starts -/

theorem State.windowOnSend_first {a : Adoption} (k : Nat) (idle : a.window = .idle) (lapsed : a.lapsed = false) :
    State.windowOnSend k a = { a with window := .waiting, timer := some k } := by
  simp [State.windowOnSend, idle, lapsed]

theorem State.windowOnSend_again {a : Adoption} (k : Nat) (resent : a.window = .resent) (rests : a.timer = none) :
    State.windowOnSend k a = { a with timer := some k } := by
  simp [State.windowOnSend, resent, rests]

/-- After a second window has expired none starts (R136; log 21). -/
theorem State.windowOnSend_lapsed {a : Adoption} (k : Nat) (idle : a.window = .idle) (lapsed : a.lapsed = true) :
    State.windowOnSend k a = a := by
  simp [State.windowOnSend, idle, lapsed]

theorem State.windowOnSend_running {a : Adoption} (k : Nat)
    (runs : a.window = .waiting ∨ (a.window = .resent ∧ a.timer ≠ none)) : State.windowOnSend k a = a := by
  obtain waiting | ⟨resent, timer⟩ := runs
  · simp [State.windowOnSend, waiting]
  · simp [State.windowOnSend, resent, timer]

/-- Only a current generation that the port owes moves its window (R136). -/
theorem State.envelopeOut_adoption (p : Station) (g : Nat) (s : State) : (s.envelopeOut p g).adoption p =
    if g = s.publication.counter ∧ (s.adoption p).owing = true then
      State.windowOnSend s.config.timing.adoptionWindow (s.adoption p)
    else s.adoption p := by
  unfold State.envelopeOut
  simp only [Bool.and_eq_true, decide_eq_true_eq]
  split
  · exact State.adoption_setAdoption ..
  · rfl

theorem State.envelopeOut_leaves (p : Station) (g : Nat) (s : State) :
    (∀ q, q ≠ p → (s.envelopeOut p g).adoption q = s.adoption q) ∧
      (s.envelopeOut p g).publication.complete = s.publication.complete ∧
      (s.envelopeOut p g).publication.members = s.publication.members := by
  unfold State.envelopeOut
  split
  · exact ⟨fun q hq => State.adoption_setAdoption_ne _ _ hq, rfl, rfl⟩
  · exact ⟨fun _ _ => rfl, rfl, rfl⟩

theorem exec_envelopeSent {p : Station} {e : Envelope} {turn : Bool} {bytes : List Byte} {s : State}
    (hold : (s.port p).state = .hold) (sends : (s.port p).sending = some ⟨.envelope e, turn, bytes⟩) :
    exec (.envelopeSent p) s = .next ((s.envelopeOut p e.generation).frameSent p turn) :=
  congrArg Host.Outcome.next (State.completeIf_accepts hold sends rfl)

/-- Settles O21: the frame's completion tells Publication (`State.envelopeOut_adoption`) and opens the turn, which changes the port
alone. -/
theorem envelopeSentStartsTheAdoptionWindow : Obligations.EnvelopeSentStartsTheAdoptionWindow := by
  intro p e bytes s hold sends a k current
  let u := s.envelopeOut p e.generation
  have moves (h : current) : u.adoption p = State.windowOnSend k a := (s.envelopeOut_adoption p _).trans (if_pos h)
  have stays (h : ¬current) : u.adoption p = a := (s.envelopeOut_adoption p _).trans (if_neg h)
  have port : (u.frameSent p true).port p = (u.port p).toTurn s.config.timing.turnWindow := by
    simp [State.frameSent, u]
  obtain ⟨others, complete, members⟩ := s.envelopeOut_leaves p e.generation
  refine ⟨u.frameSent p true, exec_envelopeSent hold sends, by rw [port]; rfl, by rw [port]; rfl, by rw [port]; rfl,
    by rw [port]; rfl, fun h idle fresh => ?_, fun h resent rests => ?_, fun h idle lapsed => ?_, fun h runs => ?_, stays,
    fun q hq => ⟨others q hq, ?_⟩, ?_, complete, members, ?_⟩
  · exact (moves h).trans (State.windowOnSend_first k idle fresh)
  · exact (moves h).trans (State.windowOnSend_again k resent rests)
  · exact (moves h).trans (State.windowOnSend_lapsed k idle lapsed)
  · exact (moves h).trans (State.windowOnSend_running k runs)
  · exact (State.port_modPort_ne _ _ hq).trans (State.port_congr (by simp [u]) q)
  · simp [u]
  · and_intros <;> simp [u]

/-! ### The adoption window expires -/

theorem exec_adoptionWindowExpiry {p : Station} {s : State} (h : (s.adoption p).timer.isSome = true) :
    ((s.adoption p).window = .waiting → exec (.adoptionWindowExpiry p) s = .next (s.resend p)) ∧
      ((s.adoption p).window = .resent → exec (.adoptionWindowExpiry p) s = .next (s.lapse p)) := by
  obtain ⟨left, runs⟩ := Option.isSome_iff_exists.1 h
  constructor <;> intro window <;> simp [exec, execAdoptionWindowExpiry, runs, window]

/-- The second window has expired: the port is unresponsive and still owes (R138; log 21). -/
def Adoption.missed (a : Adoption) : Adoption :=
  { a with window := .idle, timer := none, unresponsive := true, lapsed := true }

theorem State.lapse_publication (p : Station) (s : State) :
    (s.lapse p).publication = (s.setAdoption p (s.adoption p).missed).publication := by
  unfold State.lapse
  dsimp only
  split
  · rfl
  · simp [Adoption.missed]

/-- ADOPT_TIMEOUT is asserted once in an episode: where the port was not unresponsive yet (R138). -/
theorem State.lapse_eq (p : Station) (s : State) :
    ((s.adoption p).unresponsive = true → s.lapse p = s.setAdoption p (s.adoption p).missed) ∧
      ((s.adoption p).unresponsive = false → s.lapse p = (s.setAdoption p (s.adoption p).missed).setCond (adoptCond p) true
        (some (lagDetail s.publication.counter (s.adoption p).adopted))) := by
  unfold State.lapse
  refine ⟨fun unresponsive => if_pos unresponsive, fun responsive => if_neg ?_⟩
  simp [responsive]

theorem State.lapse_cond_ne {p : Station} {k : Fin 24} (s : State) (h : k ≠ adoptCond p) :
    (s.lapse p).cond k = s.cond k := by
  obtain ⟨already, first⟩ := s.lapse_eq p
  cases was : (s.adoption p).unresponsive with
  | true => rw [already was]; rfl
  | false => rw [first was, State.cond_setCond_ne _ _ _ h]; rfl

/-- Settles O40: the first expiry places the ENVELOPE again; the second changes the port's record (`State.lapse_publication`) and
its condition (`State.lapse_eq`). -/
theorem adoptionWindowExpiries : Obligations.AdoptionWindowExpiries := by
  intro p s runs
  obtain ⟨first, second⟩ := exec_adoptionWindowExpiry runs
  refine ⟨fun waiting => first waiting, fun resent => ⟨s.lapse p, second resent, ?_⟩⟩
  have record : (s.lapse p).adoption p = (s.adoption p).missed :=
    (State.adoption_congr (s.lapse_publication p) p).trans (State.adoption_setAdoption ..)
  have others (q : Station) (hq : q ≠ p) : (s.lapse p).adoption q = s.adoption q :=
    (State.adoption_congr (s.lapse_publication p) q).trans (State.adoption_setAdoption_ne _ _ hq)
  obtain ⟨already, asserts⟩ := s.lapse_eq p
  refine ⟨by rw [record]; rfl, by rw [record]; rfl, by rw [record]; rfl, by rw [record]; rfl, by rw [record]; rfl, others,
    fun responsive => ?_, fun unresponsive => by rw [already unresponsive]; rfl, fun k hk => s.lapse_cond_ne hk, ?_⟩
  · rw [asserts responsive]
    refine ⟨State.asserted_setCond .., fun clear => ?_⟩
    rw [State.cond_setCond, if_neg]
    · rfl
    · exact Bool.eq_false_iff.1 clear
  · refine ⟨by simp, by simp, by simp, ?_, by simp, by simp, by simp⟩
    rw [State.lapse_publication]
    rfl

/-! ### ADOPT -/

/-- An ADOPT taken in a turn hands its generation to Publication. -/
theorem exec_adopt_takes {p : Station} {a b c d : Byte} {s : State} (h : s.takes p) :
    exec (.adopt p false [a, b, c, d]) s = .next ((s.counted p).adoptGeneration p (u32 a b c d)) :=
  congrArg Host.Outcome.next (State.takeFrame_takes h)

/-- Settles O39: a generation below the counter is noted, and one above it is ignored. -/
theorem staleAndUnknownAdopts : Obligations.StaleAndUnknownAdopts := by
  intro p a b c d s takes
  rw [exec_adopt_takes takes]
  refine ⟨fun stale => congrArg _ (if_pos stale), fun unknown => congrArg _ ?_⟩
  exact (if_neg (Nat.lt_asymm unknown)).trans (if_neg (Nat.ne_of_gt unknown))

end Sys2Proof.Machine
end

section
/-!
PROOFS. An ADOPT of the current generation: the test of completion, and the relaxation step that may follow it.
-/
namespace Sys2Proof.Machine

open Sys2Proof

/-! ### A relaxation step, published -/

/-- What a publication leaves rests on the records, the counter and who is in the exchange. -/
theorem Publishes.of_counter {l tgt : Limits} {s w t : State} (config : w.config = s.config)
    (counter : w.publication.counter = s.publication.counter)
    (exchange : ∀ p, (w.port p).inExchange = (s.port p).inExchange) (h : Publishes l tgt w t) : Publishes l tgt s t := by
  obtain ⟨limits, completed, number, target, reached, looser, members, placed, spared⟩ := h
  rw [config] at completed looser
  rw [counter] at number
  simp only [exchange] at members placed spared
  exact ⟨limits, completed, number, target, reached, looser, members, placed, spared⟩

theorem State.tryStep_eq {s : State} (due : s.stepDue = true) (loosens : s.stepLoosens) :
    s.tryStep = (s.publish (Limits.step s.ladder.parked s.ladder.published.limits s.ladder.target.limits)
      (causeOf s.faults)).setRelax true :=
  if_pos (Bool.and_eq_true_iff.2 ⟨due, loosens⟩)

/-- A step addressed to some port waits for its adoption, and the last fully adopted envelope stays (R120, R132). -/
theorem State.tryStep_adopted {p : Station} {s : State} (due : s.stepDue = true) (loosens : s.stepLoosens)
    (addressed : s.addressed p = true) : s.tryStep.ladder.adopted = s.ladder.adopted := by
  let l := Limits.step s.ladder.parked s.ladder.published.limits s.ladder.target.limits
  obtain ⟨-, -, -, complete, -, -, -, -, -, -, adopted, -⟩ := s.publish_spec l (causeOf s.faults)
  have waits : ¬(s.publish l (causeOf s.faults)).publication.complete = true :=
    fun done => absurd (complete.1 done p) (by simp [addressed])
  rw [if_neg waits] at adopted
  simpa [State.tryStep_eq due loosens, l] using adopted

/-- The adopted generation of a port is kept by a step, unless the counter wraps with it (R130). -/
theorem State.tryStep_generation {s : State} (p : Station) (due : s.stepDue = true) (loosens : s.stepLoosens) :
    (s.tryStep.adoption p).adopted = if s.publication.counter < 4294967295 then (s.adoption p).adopted else 0 := by
  let l := Limits.step s.ladder.parked s.ladder.published.limits s.ladder.target.limits
  obtain ⟨-, -, -, -, -, records, -⟩ := s.publish_spec l (causeOf s.faults)
  rw [State.tryStep_eq due loosens, State.adoption_congr (s := s.publish l (causeOf s.faults)) (by simp [l]), records]
  unfold State.publishRecord generationMax
  by_cases below : s.publication.counter < 4294967295 <;> simp [below]

theorem State.tryStep_unresponsive (p : Station) (s : State) :
    (s.tryStep.adoption p).unresponsive = (s.adoption p).unresponsive := by
  obtain same | ⟨-, -, unresponsive⟩ := s.tryStep_once
  · rw [State.adoption_congr same]
  · exact unresponsive p

/-! ### The test of completion -/

/-- The current generation is complete, and the Ladder has taken the published envelope as the adopted one (R120, R140). -/
def State.completed (s : State) : State :=
  State.completeAdoption { s with publication := { s.publication with complete := true } }

theorem State.testComplete_completes {s : State} (waits : s.publication.complete = false) (nobody : s.noneOwing = true) :
    s.testComplete = s.completed.tryStep := by
  simp [State.testComplete, waits, nobody, State.adoptionComplete, State.completed]

theorem State.testComplete_rests {s : State} (h : s.publication.complete = false → s.noneOwing = false) :
    s.testComplete = s := by
  refine if_neg fun both => ?_
  obtain ⟨waits, nobody⟩ := Bool.and_eq_true_iff.1 both
  simp [h (by simpa using waits)] at nobody

/-- A relaxation step would follow the completion: relaxation is due and the step loosens a field, in RUN with the level below L4 or
PARKED (R122). -/
def State.stepReady (s : State) : Prop :=
  s.running = true ∧ s.ladder.relax = .due ∧ (s.ladder.published.limits.level.val < 4 ∨ s.ladder.parked = true) ∧ s.stepLoosens

theorem State.stepReady_congr {s t : State} (device : t.device = s.device) (ladder : t.ladder = s.ladder) :
    t.stepReady ↔ s.stepReady := by
  unfold State.stepReady State.stepLoosens
  rw [State.running_congr device, ladder]

theorem State.completed_steps (s : State) : s.completed.stepDue = true ∧ s.completed.stepLoosens ↔ s.stepReady := by
  rw [State.stepDue_iff]
  exact ⟨fun ⟨⟨running, due, _, calm⟩, loosens⟩ => ⟨running, due, calm, loosens⟩,
    fun ⟨running, due, calm, loosens⟩ => ⟨⟨running, due, rfl, calm⟩, loosens⟩⟩

/-- The completion with no step to take (R120). -/
theorem State.completed_rests {s : State} (h : ¬s.stepReady) : s.completed.tryStep = s.completed :=
  State.tryStep_rests fun due loosens => h (s.completed_steps.1 ⟨due, loosens⟩)

/-- The completion with a step published after it, to port `p` among others (R120, R122, R130). -/
theorem State.completed_takes {p : Station} {s : State} (h : s.stepReady) (exchange : (s.port p).inExchange = true) :
    let t := s.completed.tryStep
    Publishes (Limits.step s.ladder.parked s.ladder.published.limits s.ladder.target.limits) s.ladder.target.limits s t ∧
      t.ladder.target = s.ladder.target ∧ t.ladder.adopted = s.ladder.published ∧
      (t.adoption p).adopted = if s.publication.counter < 4294967295 then (s.adoption p).adopted else 0 := by
  obtain ⟨due, loosens⟩ := s.completed_steps.2 h
  obtain ⟨published, target⟩ := State.tryStep_takes due loosens
  have addressed : s.completed.addressed p = true :=
    Bool.and_eq_true_iff.2 ⟨bne_iff_ne.2 (State.ne_standby_of_running h.1), exchange⟩
  exact ⟨published.of_counter (w := s.completed) rfl rfl fun _ => rfl, target, State.tryStep_adopted due loosens addressed,
    State.tryStep_generation p due loosens⟩

theorem State.testComplete_reaches (s : State) : s.PortsReached s.testComplete := by
  unfold State.testComplete
  split
  · exact .trans (t := s.completed) (.of_ports rfl) (State.tryStep_reaches _)
  · exact .refl s

theorem State.testComplete_unresponsive (p : Station) (s : State) :
    (s.testComplete.adoption p).unresponsive = (s.adoption p).unresponsive := by
  unfold State.testComplete
  split
  · exact s.completed.tryStep_unresponsive p
  · rfl

/-! ### An ADOPT of the current generation -/

theorem exec_adopt_current {p : Station} {a b c d : Byte} {s : State} (takes : s.takes p)
    (current : u32 a b c d = s.publication.counter) :
    exec (.adopt p false [a, b, c, d]) s = .next ((s.counted p).adoptedBy p).testComplete := by
  rw [exec_adopt_takes takes]
  exact congrArg _ ((if_neg (Nat.not_lt.2 current.ge)).trans (if_pos current))

/-- ADOPT_TIMEOUT is withdrawn where the port was unresponsive, and Intake is left as it is where it was not (R140). -/
theorem State.adoptedBy_intake (p : Station) (s : State) :
    ((s.adoption p).unresponsive = true → ((s.adoptedBy p).cond (adoptCond p)).asserted = false) ∧
      ((s.adoption p).unresponsive = false → (s.adoptedBy p).intake = s.intake) := by
  unfold State.adoptedBy
  refine ⟨fun unresponsive => ?_, fun responsive => ?_⟩
  · rw [if_pos unresponsive]
    exact State.asserted_setCond ..
  · simp [responsive]

/-- Nobody owes once port `p` has adopted, unless another member does (R131). -/
theorem State.adoptedBy_noneOwing (p : Station) (s : State) : (s.adoptedBy p).noneOwing = true ↔
    ¬∃ q, q ≠ p ∧ s.publication.members.get q = true ∧ (s.adoption q).owing = true := by
  obtain ⟨-, -, -, -, -, -, -, -, -, members, -⟩ := s.adoptedBy_frame p
  rw [State.noneOwing_iff, members]
  simp only [State.adoptedBy_adoption]
  refine ⟨fun nobody ⟨q, other, member, owes⟩ => ?_, fun nobody q member => ?_⟩
  · have free := nobody q member
    rw [if_neg other, owes] at free
    cases free
  · split
    · rfl
    · next other => exact Bool.eq_false_iff.2 fun owes => nobody ⟨q, other, member, owes⟩

theorem State.inExchange_of_takes {p : Station} {s : State} (h : s.takes p) : (s.port p).inExchange = true := by
  obtain ⟨turn, -⟩ := h
  simp [Port.inExchange, turn]

/-- Settles O38: the port's record and condition change first (`State.adoptedBy`); where that completes the generation, the Ladder
is told and a step follows or not (`State.completed_takes`, `State.completed_rests`). -/
theorem adoptOfTheCurrentGeneration : Obligations.AdoptOfTheCurrentGeneration := by
  intro p a b c d s takes current others completes pub tgt step ready
  have nobody := (s.counted p).adoptedBy_noneOwing p
  have record (q : Station) := (s.counted p).adoptedBy_adoption p q
  obtain ⟨withdrawn, silent⟩ := (s.counted p).adoptedBy_intake p
  obtain ⟨device, config, ports, pool, faults, motion, ladder, lines, counter, members, complete⟩ :=
    (s.counted p).adoptedBy_frame p
  refine ⟨_, exec_adopt_current takes current, ?_⟩
  generalize (s.counted p).adoptedBy p = u at *
  have port : u.port p = { s.port p with frames := (s.port p).frames + 1 } :=
    (State.port_congr ports p).trans (s.counted_port p)
  have steps : u.stepReady ↔ ready := State.stepReady_congr device ladder
  have incomplete (h : ¬completes) : u.testComplete = u :=
    State.testComplete_rests fun waits => Bool.eq_false_iff.2 fun free => h ⟨nobody.1 free, complete.symm.trans waits⟩
  have done (h : completes) : u.testComplete = u.completed.tryStep :=
    State.testComplete_completes (complete.trans h.2) (nobody.2 h.1)
  have rests (h : completes) (g : ¬ready) : u.testComplete = u.completed :=
    (done h).trans (State.completed_rests (mt steps.1 g))
  obtain ⟨-, -, -, -, -, -, -, -, -, -, -, -, -, frames, verdicts, -⟩ := (u.testComplete_reaches p).fields
  refine ⟨?_, fun missed => ?_, fun heard => ?_, ?_, ?_, ?_, ?_, ?_, ?_, ?_, fun h => ?_, fun h => ?_, fun h g => ?_,
    fun h g => ?_⟩
  · rw [State.testComplete_unresponsive, record, if_pos rfl]
  · rw [State.cond_congr (s := u) (by simp)]
    exact withdrawn missed
  · have kept : u.testComplete.intake = u.intake := by simp
    exact kept.trans (silent heard)
  · rw [frames, port]
  · rw [verdicts, port]
  · simpa using faults
  · simpa using pool
  · simpa using config
  · simpa using device
  · simpa using motion
  · have kept : u.testComplete.adoption = u.adoption ∧ u.testComplete.publication.counter = u.publication.counter ∧
        u.testComplete.publication.members = u.publication.members := by
      by_cases g : completes
      · rw [rests g fun hr => h ⟨g, hr⟩]
        exact ⟨rfl, rfl, rfl⟩
      · rw [incomplete g]
        exact ⟨rfl, rfl, rfl⟩
    obtain ⟨adoption, counter', members'⟩ := kept
    rw [adoption, counter', members', record, if_pos rfl]
    exact ⟨rfl, fun q hq => (record q).trans (if_neg hq), counter, members⟩
  · rw [incomplete h]
    exact ⟨complete, ladder, lines⟩
  · rw [rests h g]
    have same {α : Type} (f : Ladder → α) : f u.ladder = f s.ladder := congrArg f ladder
    exact ⟨rfl, same (·.published), same (·.published), same (·.target), same (·.relax), same (·.hold)⟩
  · have exchange (q : Station) : (u.port q).inExchange = (s.port q).inExchange := by
      rw [State.port_congr ports, State.counted, State.port_modPort_eq]
      split <;> rfl
    obtain ⟨published, target, adopted, generation⟩ :=
      State.completed_takes (steps.2 g) ((exchange p).trans (State.inExchange_of_takes takes))
    rw [done h]
    rw [ladder] at published target adopted
    rw [record, if_pos rfl, counter] at generation
    exact ⟨published.of_counter config counter exchange, target, adopted, generation⟩

end Sys2Proof.Machine
end

section
/-!
PROOFS. The Self Monitor: a scan as it begins, the bus comparator with its record, and what a completed sample makes of the latest
samples, of the rest of its scan, and of its slot's filter and record.
-/
namespace Sys2Proof.Machine

open Sys2Proof

theorem State.watching_iff (s : State) : s.watching = true ↔ s.device.state = .configure ∨ s.device.state = .run := by
  simp [State.watching]

/-! ### The bus comparator -/

/-- A condition set with a change of the Self Monitor: nothing else changes (R51, R52). -/
theorem State.setCond_monitored (m : Monitor) (k : Fin 24) (a : Bool) (d : Option Detail) (s : State) :
    let t := State.setCond k a d { s with monitor := m }
    t.monitor = m ∧ (∀ j, j ≠ k → t.cond j = s.cond j) ∧
      t = { s with monitor := t.monitor, intake := { s.intake with conds := t.intake.conds } } := by
  refine ⟨by simp, fun j hj => State.cond_setCond_ne _ _ _ hj, ?_⟩
  unfold State.setCond
  split <;> rfl

/-- FALLING acts where the comparator is deasserted and the voltage below the threshold (R159, R160). -/
theorem exec_falling {s : State} (on : s.watching = true) (mV : Nat) : exec (.falling mV) s =
    .next (if s.monitor.comparator = false ∧ mV < thresholdMv s.config.threshold then s.fall else s) := by
  cases under : s.monitor.comparator <;> simp [exec, execFalling, on, under, State.compareLink]

/-- RISING acts where the comparator is asserted and the voltage more than 1 V above the threshold (R159, R160). -/
theorem exec_rising {s : State} (on : s.watching = true) (mV : Nat) : exec (.rising mV) s =
    .next (if s.monitor.comparator = true ∧ thresholdMv s.config.threshold + 1000 < mV then s.rise else s) := by
  cases under : s.monitor.comparator <;> simp [exec, execRising, on, under, State.compareLink]

theorem exec_scanDue {s : State} (on : s.watching = true) : exec .scanDue s = .next s.beginScan := by
  simp [exec, execScanDue, on]

/-- Settles O41: the scan in its order (`scanItems_order`), and each crossing against the threshold (`exec_falling`,
`exec_rising`), with record 8 set as the comparator moves (`State.setCond_monitored`). -/
theorem scansAndTheComparator : Obligations.ScansAndTheComparator := by
  intro s mV on volts
  have on := s.watching_iff.2 on
  have threshold : thresholdMv s.config.threshold = 1000 * volts := Nat.mul_comm ..
  have detail : thresholdDetail s.config.threshold = BitVec.ofNat 16 (10 * volts) :=
    congrArg (BitVec.ofNat 16) (Nat.mul_comm ..)
  rw [exec_scanDue on, exec_falling on, exec_rising on, threshold]
  refine ⟨?_, fun clear below => ?_, fun stays => ?_, fun under above => ?_, fun stays => ?_⟩
  · obtain ⟨slots, channels, slotOrder, channelOrder, inSlots, inChannels, items⟩ := scanItems_order s.config
    refine ⟨slots, channels, slotOrder, channelOrder, inSlots, inChannels, ?_⟩
    rw [State.beginScan, items]
  · rw [if_pos ⟨clear, below⟩]
    obtain ⟨monitor, others, rest⟩ := State.setCond_monitored { s.monitor with comparator := true } 8 true
      (some (thresholdDetail s.config.threshold)) s
    refine ⟨s.fall, rfl, monitor, State.asserted_setCond .., fun off => ?_, others, rest⟩
    have record : s.fall.cond 8 = ⟨true, some (thresholdDetail s.config.threshold), !(s.cond 8).unsent⟩ :=
      (State.cond_setCond ..).trans (if_neg (Bool.eq_false_iff.1 off))
    rw [record, detail]
    exact ⟨rfl, rfl⟩
  · rw [if_neg]
    rintro ⟨clear, below⟩
    rcases stays with under | above
    · exact Bool.eq_false_iff.1 clear under
    · exact Nat.not_lt.2 above below
  · rw [if_pos ⟨under, by omega⟩]
    obtain ⟨monitor, others, rest⟩ := State.setCond_monitored { s.monitor with comparator := false } 8 false none s
    have record : s.rise.cond 8 = if (s.cond 8).asserted = false then s.cond 8 else
        ⟨false, (s.cond 8).detail, !(s.cond 8).unsent⟩ := State.cond_setCond ..
    refine ⟨s.rise, rfl, monitor, State.asserted_setCond .., ?_, fun set => ?_, others, rest⟩
    · rw [record]
      split <;> rfl
    · rw [record, if_neg (by simp [set])]
  · rw [if_neg]
    rintro ⟨under, above⟩
    rcases stays with clear | below
    · exact Bool.eq_false_iff.1 clear under
    · omega

/-! ### A slot's filter -/

/-- A sample inside slot `k`'s window (R150). -/
def State.inWindow (s : State) (k : Fin 8) (v : Counts) : Prop :=
  s.config.scan[k].low ≤ v.toNat ∧ v.toNat ≤ s.config.scan[k].high

theorem State.insideWindow_iff (s : State) (k : Fin 8) (v : Counts) :
    insideWindow s.config.scan[k] v = true ↔ s.inWindow k v := by
  simp [insideWindow, State.inWindow]

theorem State.insideWindow_eq_false {s : State} {k : Fin 8} {v : Counts} (out : ¬s.inWindow k v) :
    insideWindow s.config.scan[k] v = false :=
  Bool.eq_false_iff.2 (mt (s.insideWindow_iff k v).1 out)

/-- Slot `k`'s filter once it has judged a sample. -/
def State.judged (s : State) (k : Fin 8) (v : Counts) : Filter :=
  (s.filter k).judge s.config.scan[k] (insideWindow s.config.scan[k] v)

/-- A CLEAR slot: an inside sample begins the count again, an outside sample counts, and the last of them asserts (R154). -/
theorem State.judged_clear {s : State} {k : Fin 8} (clear : (s.filter k).state = .clear) (v : Counts) :
    (s.inWindow k v → s.judged k v = { s.filter k with outCount := 0 }) ∧
    (¬s.inWindow k v → (s.filter k).outCount + 1 ≠ s.config.scan[k].assertCount →
      s.judged k v = { s.filter k with outCount := (s.filter k).outCount + 1 }) ∧
    (¬s.inWindow k v → (s.filter k).outCount + 1 = s.config.scan[k].assertCount → s.judged k v = ⟨.asserted, 0, 0⟩) := by
  refine ⟨fun within => ?_, fun out more => ?_, fun out last => ?_⟩
  · simp only [State.judged, Filter.judge, clear, (State.insideWindow_iff ..).2 within]
  · simp only [State.judged, Filter.judge, clear, State.insideWindow_eq_false out, if_neg more]
  · simp only [State.judged, Filter.judge, clear, State.insideWindow_eq_false out, if_pos last]

/-- An ASSERTED slot: an outside sample begins the count again, an inside sample counts, and the last of them releases (R155). -/
theorem State.judged_asserted {s : State} {k : Fin 8} (asserted : (s.filter k).state = .asserted) (v : Counts) :
    (¬s.inWindow k v → s.judged k v = { s.filter k with inCount := 0 }) ∧
    (s.inWindow k v → (s.filter k).inCount + 1 ≠ s.config.scan[k].releaseCount →
      s.judged k v = { s.filter k with inCount := (s.filter k).inCount + 1 }) ∧
    (s.inWindow k v → (s.filter k).inCount + 1 = s.config.scan[k].releaseCount → s.judged k v = ⟨.clear, 0, 0⟩) := by
  refine ⟨fun out => ?_, fun within more => ?_, fun within last => ?_⟩
  · simp only [State.judged, Filter.judge, asserted, State.insideWindow_eq_false out]
  · simp only [State.judged, Filter.judge, asserted, (State.insideWindow_iff ..).2 within, if_neg more]
  · simp only [State.judged, Filter.judge, asserted, (State.insideWindow_iff ..).2 within, if_pos last]

theorem State.judgeSample_eq (k : Fin 8) (v : Counts) (s : State) :
    s.judgeSample k v = (s.setFilter k (s.judged k v)).setCond (slotCond k) ((s.judged k v).state == .asserted)
      (if (s.judged k v).state == .asserted then some (v.setWidth 16) else none) := rfl

theorem State.judgeSample_monitor (k : Fin 8) (v : Counts) (s : State) :
    (s.judgeSample k v).monitor = { s.monitor with filters := putAt s.monitor.filters k (s.judged k v) } := by
  simp [State.judgeSample_eq, State.setFilter]

theorem State.cond_judgeSample_ne (v : Counts) (s : State) {j : Fin 24} {k : Fin 8} (h : j ≠ slotCond k) :
    (s.judgeSample k v).cond j = s.cond j :=
  State.cond_setCond_ne _ _ _ h

/-- The record of a slot follows the slot's state, with the sample as detail of an assertion (R154, R155). -/
theorem State.cond_judgeSample (k : Fin 8) (v : Counts) (s : State) :
    let on := (s.judged k v).state == .asserted
    (s.judgeSample k v).cond (slotCond k) = if (s.cond (slotCond k)).asserted = on then s.cond (slotCond k)
      else ⟨on, if on then some (v.setWidth 16) else (s.cond (slotCond k)).detail, !(s.cond (slotCond k)).unsent⟩ := by
  rw [State.judgeSample_eq, State.cond_setCond]
  cases (s.judged k v).state == .asserted <;> rfl

/-! ### A completed sample -/

theorem State.keepSample_eq (ch : Fin 7) (v : Counts) (s : State) : s.keepSample ch v = { s with monitor := { s.monitor with
    latest := if s.config.enable[ch] then putAt s.monitor.latest ch (some v) else s.monitor.latest } } := by
  unfold State.keepSample
  split <;> rfl

/-- A sample that is not lost is kept where its channel is enabled (R148, R149). -/
theorem State.useSample_latest (i : ScanItem) (v : Counts) (s : State) : (s.useSample i v).monitor.latest =
    if i ≠ .lost i.channel ∧ s.config.enable[i.channel] = true then putAt s.monitor.latest i.channel (some v)
    else s.monitor.latest := by
  cases i with
  | slot k ch =>
    simp only [State.useSample]
    split <;> simp [State.judgeSample_monitor, State.keepSample_eq, ScanItem.channel]
  | alone ch => simp [State.useSample, State.keepSample_eq, ScanItem.channel]
  | lost ch => simp [State.useSample, ScanItem.channel]

/-- A sample that no slot judges leaves all but the latest samples. -/
theorem State.useSample_unjudged {i : ScanItem} (unjudged : i = .alone i.channel ∨ i = .lost i.channel) (v : Counts) (s : State) :
    s.useSample i v = { s with monitor := { s.monitor with latest := (s.useSample i v).monitor.latest } } := by
  cases i with
  | slot k ch => simp at unjudged
  | alone ch => simp only [State.useSample, State.keepSample_eq]
  | lost ch => rfl

theorem State.completeSample_eq {i : ScanItem} {rest : List ScanItem} {s : State} (scan : s.monitor.scan = i :: rest)
    (v : Counts) : s.completeSample v = { s.useSample i v with monitor := { (s.useSample i v).monitor with
      scan := restOf s.config i.channel rest } } := by
  rw [State.completeSample, scan]

theorem exec_sampleComplete {s : State} (on : s.watching = true) (v : Counts) :
    exec (.sampleComplete v) s = .next (s.completeSample v) := by
  simp [exec, execSampleComplete, on]

/-- What a completed sample makes of the latest samples (R148, R149). -/
theorem State.completeSample_latest {i : ScanItem} {rest : List ScanItem} {s : State} (scan : s.monitor.scan = i :: rest)
    (v : Counts) : (s.completeSample v).monitor.latest =
      if i ≠ .lost i.channel ∧ s.config.enable[i.channel] = true then putAt s.monitor.latest i.channel (some v)
      else s.monitor.latest := by
  rw [State.completeSample_eq scan]
  exact State.useSample_latest i v s

theorem State.completeSample_scan {i : ScanItem} {rest : List ScanItem} {s : State} (scan : s.monitor.scan = i :: rest)
    (v : Counts) : (s.completeSample v).monitor.scan = restOf s.config i.channel rest := by
  rw [State.completeSample_eq scan]

theorem State.completeSample_latest_ne {i : ScanItem} {rest : List ScanItem} {s : State} (scan : s.monitor.scan = i :: rest)
    (v : Counts) {c : Fin 7} (other : c ≠ i.channel) : (s.completeSample v).monitor.latest[c] = s.monitor.latest[c] := by
  rw [State.completeSample_latest scan]
  split
  · exact getElem_putAt_ne _ _ other
  · rfl

/-- A sample for a slot that stands on its enabled channel moves the Self Monitor: it is kept and judged. -/
theorem State.completeSample_slot_monitor {k : Fin 8} {ch : Fin 7} {rest : List ScanItem} {s : State}
    (scan : s.monitor.scan = .slot k ch :: rest) (asks : asked s.config (.slot k ch)) (enabled : s.config.enable[ch] = true)
    (v : Counts) : (s.completeSample v).monitor = { s.monitor with
      latest := putAt s.monitor.latest ch (some v)
      filters := putAt s.monitor.filters k (s.judged k v)
      scan := restOf s.config ch rest } := by
  rw [State.completeSample_eq scan, State.useSample, if_pos ((ScanItem.valid_iff _ _).2 asks), State.judgeSample_monitor,
    State.keepSample_eq, if_pos enabled]
  rfl

theorem State.completeSample_slot_filter {k : Fin 8} {ch : Fin 7} {rest : List ScanItem} {s : State}
    (scan : s.monitor.scan = .slot k ch :: rest) (asks : asked s.config (.slot k ch)) (enabled : s.config.enable[ch] = true)
    (v : Counts) (j : Fin 8) : (s.completeSample v).filter j = if j = k then s.judged k v else s.filter j := by
  rw [State.filter, State.completeSample_slot_monitor scan asks enabled]
  exact getElem_putAt ..

/-- Of the records, the sample of a slot that stands on its channel moves the slot's, with the slot's state (R154, R155). -/
theorem State.completeSample_slot_cond {k : Fin 8} {ch : Fin 7} {rest : List ScanItem} {s : State}
    (scan : s.monitor.scan = .slot k ch :: rest) (asks : asked s.config (.slot k ch)) (v : Counts) :
    let on := (s.judged k v).state == .asserted
    (s.completeSample v).cond (slotCond k) = (if (s.cond (slotCond k)).asserted = on then s.cond (slotCond k)
      else ⟨on, if on then some (v.setWidth 16) else (s.cond (slotCond k)).detail, !(s.cond (slotCond k)).unsent⟩) ∧
    ∀ j, j ≠ slotCond k → (s.completeSample v).cond j = s.cond j := by
  have cond (j : Fin 24) : (s.completeSample v).cond j = ((s.keepSample ch v).judgeSample k v).cond j := by
    rw [State.completeSample_eq scan, State.useSample, if_pos ((ScanItem.valid_iff _ _).2 asks)]
    rfl
  have unread (j : Fin 24) : (s.keepSample ch v).cond j = s.cond j := State.cond_congr (by simp) j
  have judged : (s.keepSample ch v).judged k v = s.judged k v := by simp [State.judged, State.filter]
  refine ⟨?_, fun j other => ?_⟩
  · rw [cond, State.cond_judgeSample, judged, unread]
  · rw [cond, State.cond_judgeSample_ne v _ other, unread]

/-- Settles O42: the value goes to its channel (`State.completeSample_latest`), the rest of the scan follows the records
(`restOf`), and a slot's filter counts by `Filter.judge` with its record behind it (`State.cond_judgeSample`). -/
theorem samplesAreFiltered : Obligations.SamplesAreFiltered := by
  constructor
  · intro v i rest s on scan ch
    have channel : ch = i.channel := by cases i <;> rfl
    simp only [channel]
    refine ⟨_, exec_sampleComplete (s.watching_iff.2 on) v, fun kept enabled => ?_, fun dropped => ?_,
      fun c other => State.completeSample_latest_ne scan v other, ?_⟩
    · rw [State.completeSample_latest scan, if_pos ⟨kept, enabled⟩, getElem_putAt_same]
    · rw [State.completeSample_latest scan, if_neg]
      rintro ⟨kept, enabled⟩
      exact dropped.elim kept (Bool.eq_false_iff.1 · enabled)
    · rw [State.completeSample_scan scan]
      refine ⟨restOf_alone _ _ _, fun c other enabled waits => ?_, fun k c used names enabled waits => ?_, restOf_sub _ _ _,
        restOf_head _ _ _, fun unjudged => ?_⟩
      · exact restOf_keeps _ _ _ _ waits enabled fun same => other (ScanItem.alone.inj same)
      · exact restOf_keeps _ _ _ _ waits ((ScanItem.valid_iff _ _).2 (.inr ⟨k, c, rfl, used, names, enabled⟩)) nofun
      · rw [State.completeSample_eq scan, State.useSample_unjudged unjudged]
  · intro v k ch rest s on scan used names enabled r f inside
    have asks : asked s.config (.slot k ch) := .inr ⟨k, ch, rfl, used, names, enabled⟩
    have monitor := State.completeSample_slot_monitor scan asks enabled v
    have filters := State.completeSample_slot_filter scan asks enabled v
    have filter : (s.completeSample v).filter k = s.judged k v := (filters k).trans (if_pos rfl)
    obtain ⟨record, records⟩ := State.completeSample_slot_cond scan asks v
    refine ⟨_, exec_sampleComplete (s.watching_iff.2 on) v, ?_, fun c other => State.completeSample_latest_ne scan v other,
      fun j other => (filters j).trans (if_neg other), records, by simp, by simp, by simp, by simp, by simp, ?_,
      fun clear off => ?_, fun asserted set => ?_⟩
    · rw [monitor, getElem_putAt_same]
    · rw [monitor]
    · obtain ⟨again, counts, asserts⟩ := State.judged_clear clear v
      refine ⟨fun within => ?_, fun out more => ?_, fun out last => ?_⟩
      · rw [filter, record, again within]
        simp [off, f, clear]
      · rw [filter, record, counts out more]
        simp [off, f, clear]
      · rw [filter, record, asserts out last]
        simp [off]
    · obtain ⟨again, counts, releases⟩ := State.judged_asserted asserted v
      refine ⟨fun out => ?_, fun within more => ?_, fun within last => ?_⟩
      · rw [filter, record, again out]
        simp [set, f, asserted]
      · rw [filter, record, counts within more]
        simp [set, f, asserted]
      · rw [filter, record, releases within last]
        simp [set]

end Sys2Proof.Machine
end

section
/-!
PROOFS. The queue and the clock: every command answers a next state and leaves the queue of waiting commands alone
(`exec_pending`), a step on an empty queue is one millisecond, and the commands of the reset and of the KEY pin.
-/
namespace Sys2Proof.Machine

open Sys2Proof

/-! ### The queue of waiting commands -/

theorem State.takeFrame_pending {hand : State → State} (h : ∀ t, (hand t).pending = t.pending) (p : Station) (turn : Bool)
    (s : State) : (s.takeFrame p turn hand).pending = s.pending :=
  State.takeFrame_holds (·.pending = s.pending) (fun _ _ ht => ht) (fun _ ht => by simpa using ht)
    (fun t ht => (h t).trans ht) rfl

theorem State.receipted_pending {judge : State → State × Verdict} (h : ∀ t, (judge t).1.pending = t.pending) (p : Station)
    (s : State) : (State.receipted p judge s).pending = s.pending :=
  State.receipted_holds (·.pending = s.pending) (fun _ _ ht => ht) (fun ht => (h s).trans ht) rfl

theorem State.takeRead_pending (p : Station) (turn : Bool) (target : Option ReadTarget) (s : State) :
    (s.takeRead p turn target).pending = s.pending :=
  State.takeFrame_pending (State.receipted_pending (fun _ => by simp) p) p turn s

theorem State.takeConfig_pending {judge : State → State × Verdict} (h : ∀ t, (judge t).1.pending = t.pending) (p : Station)
    (turn : Bool) (s : State) : (s.takeConfig p turn judge).pending = s.pending :=
  State.takeFrame_pending (State.receipted_pending
    (fun t => State.judgeConfig_holds (·.pending = t.pending) (fun _ _ => h t) rfl) p) p turn s

theorem State.completeIf_pending (p : Station) (is : Sending → Bool) (s : State) : (s.completeIf p is).pending = s.pending :=
  State.completeIf_holds (·.pending = s.pending) (fun _ _ ht => ht) (fun _ => by simp) rfl

theorem State.leaveReset_pending (topo : Topology) (key : Bool) (mV : Nat) (s : State) :
    (s.leaveReset topo key mV).pending = s.pending := by
  cases key <;> simp [State.leaveReset]

/-- A state taken where a condition holds, and the state as it is otherwise. -/
theorem State.ite_pending {c : Prop} [Decidable c] {s t u : State} (ht : t.pending = s.pending) (hu : u.pending = s.pending) :
    (if c then t else u).pending = s.pending := by
  split
  · exact ht
  · exact hu

/-- No command changes the queue of waiting commands. -/
theorem exec_pending {c : Instr} {s t : State} (h : exec c s = .next t) : t.pending = s.pending := by
  cases c with
  | powerOn | resetNLow | keyPinChange level =>
    cases h
    rfl
  | resetEnd topo1 topo0 key mV =>
    cases h
    exact State.ite_pending (State.leaveReset_pending ..) rfl
  | hello p turn payload =>
    cases h
    exact State.ite_pending (by simp) (State.takeFrame_pending (fun _ => by simp) p turn s)
  | status p turn payload | adopt p turn payload =>
    cases h
    exact State.takeFrame_pending (fun _ => by simp) p turn s
  | report p turn payload | snapshot p turn payload | clear p turn payload | discardEntry p turn payload
  | discardAllRetired p turn payload | clearOverflow p turn payload | commit p turn payload =>
    cases h
    exact State.takeFrame_pending (State.receipted_pending (fun _ => by simp) p) p turn s
  | readTable p turn payload | readEntry p turn payload | readSnapshot p turn payload | readEnvelope p turn payload
  | readMonitor p turn payload | readOverflow p turn payload | readIdent p turn payload =>
    cases h
    exact State.takeRead_pending p turn _ s
  | zoneRecord p turn payload | classRecord p turn payload | levelRecord p turn payload | responseRecord p turn payload
  | scanRecord p turn payload | channelsRecord p turn payload | comparatorRecord p turn payload mV
  | timingRecord p turn payload | weightRecord p turn payload =>
    cases h
    exact State.takeConfig_pending (fun _ => by simp) p turn s
  | discardedFrame p cause =>
    cases h
    exact State.ite_pending (State.ite_pending rfl rfl) (State.takeFrame_pending (fun _ => by simp) p _ s)
  | grantSent p | envelopeSent p | receiptSent p | readReplySent p =>
    cases h
    exact State.completeIf_pending p _ s
  | noticeSent =>
    cases h
    exact State.completeIf_pending .ride _ s
  | reqChange p level | outOfTurnFrame p | snapshotWindowExpiry p =>
    cases h
    simp
  | brokenFrame p | outboundArbiterChoice p | syncDue p | syncSent p | expiredTurnLineIdle p | syncTurnExpiry p
  | recoverQuietExpiry p | arbiterHandOff | scanDue | sampleComplete v | falling mV | rising mV =>
    cases h
    exact State.ite_pending (by simp) (by simp)
  | selfReportFormed =>
    cases h
    refine State.ite_pending ?_ rfl
    split <;> simp
  | turnWindowExpiry p receiving =>
    simp only [exec, execTurnWindowExpiry] at h
    (repeat' split at h) <;> cases h <;> simp
  | keyDebounceExpiry mV =>
    simp only [exec, execKeyDebounceExpiry] at h
    split at h <;> cases h
    · rfl
    · exact State.ite_pending (by simp) (by simp)
  | configureWindowExpiry mV | contention p | heartbeatExpiry p | reportApplied | confirmWindowExpiry e | healHoldExpiry e
  | noticeDelayExpiry | absoluteDelayExpiry | relaxHoldExpiry | adoptionWindowExpiry p | parkedHoldExpiry
  | mismatchTimerExpiry | stationDrivesLine p =>
    simp only [exec, execConfigureWindowExpiry, execContention, execHeartbeatExpiry, execReportApplied,
      execConfirmWindowExpiry, execHealHoldExpiry, execNoticeDelayExpiry, execAbsoluteDelayExpiry, execRelaxHoldExpiry,
      execAdoptionWindowExpiry, execParkedHoldExpiry, execMismatchTimerExpiry, execStationDrivesLine] at h
    split at h <;> cases h <;> simp

/-- Settles O3: every command answers a next state (`exec_links`), and none moves the queue (`exec_pending`). -/
theorem everyCommandCompletes : Obligations.EveryCommandCompletes := by
  intro c s
  obtain ⟨t, answers, -⟩ := exec_links c s
  exact ⟨t, answers, exec_pending answers⟩

/-! ### One millisecond -/

/-- Settles O2: the tick leaves RESET as it is, and elsewhere takes one from each running timer, block by block. -/
theorem idleStepIsOneMillisecond : Obligations.IdleStepIsOneMillisecond := by
  intro s idle
  have tick : step s = .next s.tick := by rw [step, idle]
  refine ⟨fun reset => ?_, fun moves => ?_⟩
  · rw [tick, State.tick, if_pos reset]
  · have pass : s.tick = s.pass := if_neg moves
    refine ⟨s.pass, by rw [tick, pass], rfl, fun p => ?_, fun p => ?_, fun e => ?_, fun p => ?_, rfl, rfl, rfl, rfl, rfl, rfl,
      rfl, rfl, rfl, idle⟩
    · exact PerStation.get_map Port.pass s.ports p
    · exact PerStation.get_map LongSlot.pass s.intake.slots p
    · have entry : s.pass.entry e = (s.entry e).pass := getElem_mapTable Entry.pass s.faults.entries e
      cases timer : (s.entry e).timer <;> simp [entry, Entry.pass, EntryTimer.pass, timer]
    · exact PerStation.get_map Adoption.pass s.publication.records p

/-! ### The KEY pin -/

theorem debounceAfter_eq (level keyLevel : Bool) (t : Timer) :
    debounceAfter level keyLevel t = if level = keyLevel then none else some (t.getD 50) := by
  cases t <;> rfl

/-- Settles O7: the debounce timer by `debounceAfter_eq`, outside RESET. -/
theorem keyPinDrivesTheDebounceTimer : Obligations.KeyPinDrivesTheDebounceTimer := by
  intro level s
  simp only [exec, execKeyPinChange, debounceAfter_eq]

/-! ### Reset -/

theorem State.enterReset_eq (resetN settled : Bool) (s : State) : s.enterReset resetN settled = { State.reset with
    device := { Device.reset with resetN := resetN, settled := settled, keyPin := s.device.keyPin }
    ports := PerStation.tabulate fun p => { Port.reset with reqPin := (s.port p).reqPin }
    pending := s.pending } := rfl

/-- Settles O4: both commands enter RESET (`State.enterReset_eq`), and each block's part of State.reset is its reset value. -/
theorem resetAbandonsEverything : Obligations.ResetAbandonsEverything := by
  refine ⟨fun s => ⟨rfl, rfl⟩, rfl, rfl, fun p => ?_, fun q => ?_, State.reset_slot, fun k => ?_, rfl, rfl, rfl, fun b => ?_,
    State.reset_entry, ?_, rfl, rfl, rfl, rfl, rfl, rfl, rfl, rfl, rfl, rfl, rfl, rfl, rfl, rfl, rfl, rfl, rfl, rfl, fun p => ?_,
    fun c => ?_, rfl, rfl⟩
  · rw [State.reset_port]
    exact ⟨rfl, rfl, rfl, rfl, rfl, rfl, rfl, rfl, rfl, rfl, rfl, rfl, rfl, rfl, rfl⟩
  · cases q <;> rfl
  · simp [State.cond, State.reset, Intake.reset, Cond.reset]
  · rw [State.reset_buffer]
    exact ⟨rfl, rfl, rfl⟩
  · decide
  · rw [State.reset_adoption]
    exact ⟨rfl, rfl, rfl, rfl, rfl⟩
  · simp [State.reset, Monitor.reset]

end Sys2Proof.Machine
end

section
/-!
PROOFS. The fields of CONFIG records (R179): each record is read where its fields are in range and is none otherwise, and holds
the values of its bytes (`Reads`).
-/
namespace Sys2Proof.Machine

open Sys2Proof

/-! ### Reading a field -/

/-- A parser's answer: a value of which `is` holds where the bytes are `ok`, and none where they are not. -/
structure Reads {α : Type} (answer : Option α) (ok : Prop) (is : α → Prop) : Prop where
  some : ok → ∃ x, answer = some x ∧ is x
  none : ¬ok → answer = none

namespace Reads

theorem of_some {α : Type} {x : α} {ok : Prop} {is : α → Prop} (good : ok) (h : is x) : Reads (Option.some x) ok is :=
  ⟨fun _ => ⟨x, rfl, h⟩, fun bad => absurd good bad⟩

theorem of_none {α : Type} {ok : Prop} {is : α → Prop} (bad : ¬ok) : Reads Option.none ok is :=
  ⟨fun good => absurd good bad, fun _ => rfl⟩

/-- One field after another: the record is read where both are in range. -/
theorem bind {α β : Type} {a : Option α} {f : α → Option β} {ok ok' : Prop} {is : α → Prop} {is' : β → Prop}
    (h : Reads a ok is) (g : ∀ x, is x → Reads (f x) ok' is') : Reads (a >>= f) (ok ∧ ok') is' := by
  by_cases hok : ok
  · obtain ⟨x, rfl, hx⟩ := h.some hok
    exact ⟨fun both => (g x hx).some both.2, fun not => (g x hx).none fun h => not ⟨hok, h⟩⟩
  · exact ⟨fun both => absurd both.1 hok, fun _ => by rw [h.none hok]; rfl⟩

theorem map {α β : Type} {a : Option α} {f : α → β} {ok : Prop} {is : α → Prop} {is' : β → Prop} (h : Reads a ok is)
    (g : ∀ x, is x → is' (f x)) : Reads (a.map f) ok is' := by
  refine ⟨fun hok => ?_, fun hok => by rw [h.none hok]; rfl⟩
  obtain ⟨x, rfl, hx⟩ := h.some hok
  exact ⟨f x, rfl, g x hx⟩

/-- The last field, with the record made of what has been read. -/
theorem last {α β : Type} {a : Option α} {f : α → β} {ok : Prop} {is : α → Prop} {is' : β → Prop} (h : Reads a ok is)
    (g : ∀ x, is x → is' (f x)) : Reads (a >>= fun x => Option.some (f x)) ok is' := by
  cases a <;> exact h.map g

theorem congr {α : Type} {a : Option α} {ok ok' : Prop} {is : α → Prop} (h : Reads a ok is) (iff : ok ↔ ok') :
    Reads a ok' is :=
  propext iff ▸ h

end Reads

theorem reads_yesNo (b : Byte) : Reads (yesNo b) (b.toNat ≤ 1) (· = decide (b.toNat = 1)) :=
  ⟨fun ok => ⟨_, yesNo_eq_some.2 ⟨ok, rfl⟩, rfl⟩,
    fun bad => Option.eq_none_iff_forall_ne_some.2 fun _ h => bad (yesNo_eq_some.1 h).1⟩

theorem reads_within (lo hi n : Nat) : Reads (within lo hi n) (lo ≤ n ∧ n ≤ hi) (· = n) :=
  ⟨fun ok => ⟨n, within_eq_some.2 ⟨ok.1, ok.2, rfl⟩, rfl⟩,
    fun bad => Option.eq_none_iff_forall_ne_some.2 fun _ h => bad ⟨(within_eq_some.1 h).1, (within_eq_some.1 h).2.1⟩⟩

theorem reads_upTo (hi n : Nat) : Reads (within 0 hi n) (n ≤ hi) (· = n) :=
  (reads_within 0 hi n).congr (and_iff_right (Nat.zero_le n))

/-- An index up to `n`. -/
theorem reads_index (n k : Nat) : Reads (fin? (n + 1) k) (k ≤ n) (fun i => i.val = k) :=
  ⟨fun ok => ⟨⟨k, Nat.lt_succ_of_le ok⟩, fin?_eq_some.2 rfl, rfl⟩,
    fun bad => Option.eq_none_iff_forall_ne_some.2 fun i h => bad (fin?_eq_some.1 h ▸ Nat.le_of_lt_succ i.isLt)⟩

theorem reads_sources (b : Byte) : Reads (parseSources b) (b.toNat < 32)
    (· = ⟨b.getLsbD 0, b.getLsbD 1, b.getLsbD 2, b.getLsbD 3, b.getLsbD 4⟩) :=
  ⟨fun ok => ⟨_, if_pos ok, rfl⟩, fun bad => if_neg bad⟩

/-- A zone's parent (R5): FF hex for none, or another zone. -/
theorem reads_parent (i : Fin 16) (b : Byte) : Reads (parseParent i b)
    (b.toNat = 255 ∨ (b.toNat < 16 ∧ b.toNat ≠ i.val))
    (fun x => (b.toNat = 255 → x = none) ∧ ∀ q : Fin 16, b.toNat = q.val → x = some q) := by
  unfold parseParent
  by_cases absent : b.toNat = 255
  · rw [if_pos absent]
    exact .of_some (.inl absent) ⟨fun _ => rfl, fun q hq => by omega⟩
  · rw [if_neg absent]
    by_cases own : b.toNat = i.val
    · rw [if_pos own]
      exact .of_none (by omega)
    · rw [if_neg own]
      refine ((reads_index 15 b.toNat).map fun z hz => ?_).congr (by omega)
      exact ⟨fun h => absurd h absent, fun q hq => congrArg some (Fin.ext (hz.trans hq))⟩

/-- A coded field is out of range once every code has been looked at. -/
theorem not_le_two {n : Nat} (h0 : n ≠ 0) (h1 : n ≠ 1) (h2 : n ≠ 2) : ¬n ≤ 2 := by omega

theorem not_le_three {n : Nat} (h0 : n ≠ 0) (h1 : n ≠ 1) (h2 : n ≠ 2) (h3 : n ≠ 3) : ¬n ≤ 3 := by omega

theorem reads_station (n : Nat) : Reads (Station.ofIndex n) (n ≤ 3) (fun p => p.index.val = n) := by
  unfold Station.ofIndex
  split
  case h_5 h0 h1 h2 h3 => exact .of_none (not_le_three h0 h1 h2 h3)
  all_goals exact .of_some (by decide) rfl

theorem reads_axleField (b : Byte) : Reads (parseAxleField b) (b.toNat ≤ 3) (fun x => axleFieldCode x = b.toNat) := by
  unfold parseAxleField
  split
  case h_5 h0 h1 h2 h3 => exact .of_none (not_le_three h0 h1 h2 h3)
  all_goals
    next code =>
    rw [code]
    exact .of_some (by decide) rfl

theorem reads_axleAction (b : Byte) : Reads (parseAxleAction b) (b.toNat ≤ 2) (fun x => axleActionCode x = b.toNat) := by
  unfold parseAxleAction
  split
  case h_4 h0 h1 h2 => exact .of_none (not_le_two h0 h1 h2)
  all_goals
    next code =>
    rw [code]
    exact .of_some (by decide) rfl

theorem reads_packAction (b : Byte) : Reads (parsePackAction b) (b.toNat ≤ 2) (fun x => packActionCode x = b.toNat) := by
  unfold parsePackAction
  split
  case h_4 h0 h1 h2 => exact .of_none (not_le_two h0 h1 h2)
  all_goals
    next code =>
    rw [code]
    exact .of_some (by decide) rfl

/-! ### ZONE, RESPONSE and CLASS -/

/-- What the seven bytes of a ZONE record stand for (R5). -/
structure StoresZone (v pa rs ow ax ll la : Byte) (z : Zone) : Prop where
  valid : z.valid = decide (v.toNat = 1)
  orphan : pa.toNat = 255 → z.parent = none
  parent : ∀ q : Fin 16, pa.toNat = q.val → z.parent = some q
  reporters : z.reporters = ⟨rs.getLsbD 0, rs.getLsbD 1, rs.getLsbD 2, rs.getLsbD 3, rs.getLsbD 4⟩
  owner : z.owner.index.val = ow.toNat
  axle : axleFieldCode z.axle = ax.toNat
  level : z.lossLevel.val = ll.toNat
  action : axleActionCode z.lossAction = la.toNat

theorem reads_zone (i : Fin 16) (v pa rs ow ax ll la : Byte) : Reads (parseZone i [v, pa, rs, ow, ax, ll, la])
    (zoneInRange i.val [v, pa, rs, ow, ax, ll, la]) (StoresZone v pa rs ow ax ll la) :=
  (reads_yesNo v).bind fun _ valid => (reads_parent i pa).bind fun _ parent => (reads_sources rs).bind fun _ reporters =>
    (reads_station ow.toNat).bind fun _ owner => (reads_axleField ax).bind fun _ axle =>
    (reads_index 5 ll.toNat).bind fun _ level => (reads_axleAction la).last fun _ action =>
    ⟨valid, parent.1, parent.2, reporters, owner, axle, level, action⟩

theorem parseZone_bad {i : Fin 16} {record : List Byte} (bad : ¬zoneInRange i.val record) : parseZone i record = none := by
  unfold parseZone
  split
  · exact (reads_zone i ..).none bad
  · rfl

theorem reads_response (k l a r c pk : Byte) : Reads (parseResponse [k, l, a, r, c, pk]) (responseInRange [k, l, a, r, c, pk])
    (storesResponse k l a r c pk) := by
  refine (reads_yesNo k).bind fun _ kind => (reads_index 5 l.toNat).bind fun _ level =>
    (reads_axleAction a).bind fun _ action => (reads_yesNo r).bind fun _ inhibit =>
    (reads_upTo 100 c.toNat).bind fun _ ceiling => (reads_packAction pk).last fun _ pack =>
    ⟨fun zero => ?_, fun one => ⟨⟨_, _, _, _, _⟩, ?_, level, action, inhibit, ceiling, pack⟩⟩
  · simp [kind, zero]
  · simp [kind, one]

theorem parseResponse_bad {record : List Byte} (bad : ¬responseInRange record) : parseResponse record = none := by
  unfold parseResponse
  split
  · exact (reads_response ..).none bad
  · rfl

/-- What the fourteen bytes of a CLASS record stand for: one of assigned 0 is held as unassigned (R10). -/
structure StoresClass (as n w1 w0 la pr h1 h0 k l a r c pk : Byte) (x : FaultClass) : Prop where
  unassigned : as.toNat = 0 → x = unassignedClass
  assigned : as.toNat = 1 → x.assigned = true ∧ x.confirmCount = n.toNat ∧
    x.confirmWindow = 256 * w1.toNat + w0.toNat ∧ x.latching = decide (la.toNat = 1) ∧
    x.propagating = decide (pr.toNat = 1) ∧ x.healHold = 256 * h1.toNat + h0.toNat ∧ storesResponse k l a r c pk x.response

theorem reads_class (as n w1 w0 la pr h1 h0 k l a r c pk : Byte) :
    Reads (parseClass [as, n, w1, w0, la, pr, h1, h0, k, l, a, r, c, pk])
      (classInRange [as, n, w1, w0, la, pr, h1, h0, k, l, a, r, c, pk])
      (StoresClass as n w1 w0 la pr h1 h0 k l a r c pk) := by
  have fields : Reads (parseClass [as, n, w1, w0, la, pr, h1, h0, k, l, a, r, c, pk])
      (as.toNat ≤ 1 ∧ (1 ≤ n.toNat ∧ n.toNat ≤ 15) ∧ u16 w1 w0 ≤ 60000 ∧ la.toNat ≤ 1 ∧ pr.toNat ≤ 1 ∧
        u16 h1 h0 ≤ 60000 ∧ responseInRange [k, l, a, r, c, pk] ∧ ¬(u16 w1 w0 = 0 ∧ 1 < n.toNat))
      (StoresClass as n w1 w0 la pr h1 h0 k l a r c pk) := by
    refine (reads_yesNo as).bind fun _ assigned => (reads_within 1 15 n.toNat).bind fun _ count =>
      (reads_upTo 60000 (u16 w1 w0)).bind fun _ window => (reads_yesNo la).bind fun _ latching =>
      (reads_yesNo pr).bind fun _ propagating => (reads_upTo 60000 (u16 h1 h0)).bind fun _ heal =>
      (reads_response k l a r c pk).bind fun x response => ?_
    subst assigned count window latching propagating heal
    split
    · next both => exact .of_none (by simpa using both)
    · next one =>
      refine .of_some (by simpa using one) ⟨fun zero => if_neg (by simp [zero]), fun one => ?_⟩
      rw [if_pos (decide_eq_true one)]
      exact ⟨rfl, rfl, u16_eq .., rfl, rfl, u16_eq .., response⟩
  refine fields.congr ?_
  simp only [classInRange, u16_eq, and_assoc]
  refine and_congr_right fun _ => and_congr_right fun _ => and_congr_right fun _ => and_congr_right fun _ =>
    and_congr_right fun _ => and_congr_right fun _ => and_congr_right fun _ => and_congr_right fun _ => ?_
  omega

theorem parseClass_bad {record : List Byte} (bad : ¬classInRange record) : parseClass record = none := by
  unfold parseClass
  split
  · exact (reads_class ..).none bad
  · rfl

/-! ### LEVEL -/

theorem reads_level (t s : Byte) : Reads (parseLevel [t, s]) (t.toNat ≤ 100) (· = ⟨t.toNat, s.toNat⟩) :=
  (reads_upTo 100 t.toNat).map fun _ torque => by rw [torque]

theorem reads_overflowLevel (l : Byte) : Reads (parseOverflowLevel [l]) (l.toNat ≤ 5) (fun x => x.val = l.toNat) :=
  reads_index 5 l.toNat

theorem parseLevelAt_bad {i : Nat} {record : List Byte} (known : State.levelLength i = some record.length)
    (bad : ¬levelInRange i record) : State.parseLevelAt i record = none := by
  unfold State.parseLevelAt
  unfold State.levelLength at known
  split
  · next overflow =>
    rw [if_pos overflow] at known
    obtain ⟨l, rfl⟩ := List.length_eq_one_iff.1 (Option.some.inj known).symm
    rw [(reads_overflowLevel l).none fun ok => bad ⟨overflow, ok⟩]
    rfl
  · next level =>
    rw [if_neg level, State.lengthBelow, Option.ite_none_right_eq_some] at known
    obtain ⟨t, s, rfl⟩ := List.length_eq_two.1 (Option.some.inj known.2).symm
    rw [(reads_level t s).none fun ok => bad ⟨known.1, ok⟩]
    rfl

/-! ### SCAN -/

/-- What the ten bytes of a SCAN record stand for: an unused slot has its held values (R150, R151). -/
structure StoresScan (u ch l1 l0 h1 h0 z c ac rc : Byte) (x : ScanRec) : Prop where
  unused : u.toNat = 0 → x = unusedScan
  used : u.toNat = 1 → x.used = true ∧ x.channel.val = ch.toNat ∧ x.low = 256 * l1.toNat + l0.toNat ∧
    x.high = 256 * h1.toNat + h0.toNat ∧ x.zone.val = z.toNat ∧ x.cls.val = c.toNat ∧ x.assertCount = ac.toNat ∧
    x.releaseCount = rc.toNat

theorem reads_scan (u ch l1 l0 h1 h0 z c ac rc : Byte) : Reads (parseScan [u, ch, l1, l0, h1, h0, z, c, ac, rc])
    (scanInRange [u, ch, l1, l0, h1, h0, z, c, ac, rc]) (StoresScan u ch l1 l0 h1 h0 z c ac rc) := by
  have fields : Reads (parseScan [u, ch, l1, l0, h1, h0, z, c, ac, rc])
      (u.toNat ≤ 1 ∧ ch.toNat ≤ 6 ∧ u16 l1 l0 ≤ 4095 ∧ u16 h1 h0 ≤ 4095 ∧ z.toNat ≤ 15 ∧ c.toNat ≤ 31 ∧
        (1 ≤ ac.toNat ∧ ac.toNat ≤ 8) ∧ (1 ≤ rc.toNat ∧ rc.toNat ≤ 8) ∧ ¬u16 h1 h0 < u16 l1 l0)
      (StoresScan u ch l1 l0 h1 h0 z c ac rc) := by
    refine (reads_yesNo u).bind fun _ used => (reads_index 6 ch.toNat).bind fun _ channel =>
      (reads_upTo 4095 (u16 l1 l0)).bind fun _ low => (reads_upTo 4095 (u16 h1 h0)).bind fun _ high =>
      (reads_index 15 z.toNat).bind fun _ zone => (reads_index 31 c.toNat).bind fun _ cls =>
      (reads_within 1 8 ac.toNat).bind fun _ asserts => (reads_within 1 8 rc.toNat).bind fun _ releases => ?_
    subst used low high asserts releases
    split
    · next crossed => exact .of_none (not_not_intro crossed)
    · next ordered =>
      refine .of_some ordered ⟨fun zero => if_neg (by simp [zero]), fun one => ?_⟩
      rw [if_pos (decide_eq_true one)]
      exact ⟨rfl, channel, u16_eq .., u16_eq .., zone, cls, rfl, rfl⟩
  refine fields.congr ?_
  simp only [scanInRange, u16_eq]
  omega

theorem parseScan_bad {record : List Byte} (bad : ¬scanInRange record) : parseScan record = none := by
  unfold parseScan
  split
  · exact (reads_scan ..).none bad
  · rfl

/-! ### CHANNELS, COMPARATOR, TIMING and WEIGHT -/

theorem reads_channels (e : Byte) : Reads (parseChannels [e]) (e.toNat < 128)
    (fun x => ∀ c : Fin 7, x[c] = (c.val == 6 || e.getLsbD c.val)) :=
  ⟨fun ok => ⟨_, if_pos ok, fun c => by simp [Bool.beq_eq_decide_eq]⟩, fun bad => if_neg bad⟩

theorem parseChannels_bad {record : List Byte} (bad : ¬∀ b ∈ record, b.toNat < 128) : parseChannels record = none := by
  unfold parseChannels
  split
  · next e => exact (reads_channels e).none fun ok => bad (by simpa using ok)
  · rfl

theorem parseThreshold_bad {record : List Byte} (bad : ¬∀ b ∈ record, b.toNat ≤ 7) : parseThreshold record = none := by
  unfold parseThreshold
  split
  · next t => exact (reads_index 7 t.toNat).none fun ok => bad (by simpa using ok)
  · rfl

theorem reads_timing (hb tw r1 r0 aw sp p1 p0 sl ml : Byte) : Reads (parseTiming [hb, tw, r1, r0, aw, sp, p1, p0, sl, ml])
    (timingInRange [hb, tw, r1, r0, aw, sp, p1, p0, sl, ml])
    (· = ⟨hb.toNat, tw.toNat, 256 * r1.toNat + r0.toNat, aw.toNat, sp.toNat, 256 * p1.toNat + p0.toNat, sl.toNat,
      ml.toNat⟩) := by
  have fields : Reads (parseTiming [hb, tw, r1, r0, aw, sp, p1, p0, sl, ml]) _
      (· = ⟨hb.toNat, tw.toNat, u16 r1 r0, aw.toNat, sp.toNat, u16 p1 p0, sl.toNat, ml.toNat⟩) :=
    (reads_within 5 50 hb.toNat).bind fun _ heartbeat => (reads_within 1 8 tw.toNat).bind fun _ window =>
    (reads_within 500 30000 (u16 r1 r0)).bind fun _ relax => (reads_within 5 100 aw.toNat).bind fun _ adoption =>
    (reads_within 1 100 sp.toNat).bind fun _ scan => (reads_within 200 5000 (u16 p1 p0)).bind fun _ parked =>
    (reads_within 2 8 sl.toNat).bind fun _ silence => (reads_within 10 200 ml.toNat).last fun _ limit => by
      rw [heartbeat, window, relax, adoption, scan, parked, silence, limit]
  simp only [u16_eq] at fields
  exact fields.congr (by simp only [timingInRange, and_assoc])

theorem parseTiming_bad {record : List Byte} (bad : ¬timingInRange record) : parseTiming record = none := by
  unfold parseTiming
  split
  · exact (reads_timing ..).none bad
  · rfl

theorem reads_weights (a b c d e : Byte) : Reads (parseWeights [a, b, c, d, e]) (weightInRange [a, b, c, d, e])
    (· = ⟨a.toNat, b.toNat, c.toNat, d.toNat, e.toNat⟩) := by
  have fields : Reads (parseWeights [a, b, c, d, e]) _ (· = ⟨a.toNat, b.toNat, c.toNat, d.toNat, e.toNat⟩) :=
    (reads_within 1 8 a.toNat).bind fun _ ride => (reads_within 1 8 b.toNat).bind fun _ front =>
    (reads_within 1 8 c.toNat).bind fun _ rear => (reads_within 1 8 d.toNat).bind fun _ pack =>
    (reads_within 1 8 e.toNat).last fun _ self => by rw [ride, front, rear, pack, self]
  exact fields.congr (by simp [weightInRange])

theorem parseWeights_bad {record : List Byte} (bad : ¬weightInRange record) : parseWeights record = none := by
  unfold parseWeights
  split
  · exact (reads_weights ..).none bad
  · rfl

end Sys2Proof.Machine
end

section
/-!
PROOFS. CONFIG in a turn (R178): the checks in order, for each of the nine targets.
-/
namespace Sys2Proof.Machine

open Sys2Proof

/-! ### Checks 1 and 2 -/

/-- A CONFIG that the port takes is judged by the state and the port first (R178). -/
theorem State.takeConfig_takes {p : Station} {judge : State → State × Verdict} {s : State} (takes : s.takes p) :
    (s.device.state ≠ .configure → s.takeConfig p false judge = s.answered p .wrongState) ∧
    (s.device.state = .configure → p ≠ .ride → s.takeConfig p false judge = s.answered p .notPermitted) ∧
    (s.device.state = .configure → p = .ride →
      s.takeConfig p false judge = (judge (s.counted p)).1.addVerdict p (judge (s.counted p)).2) := by
  have receipted : s.takeConfig p false judge = (State.judgeConfig p judge (s.counted p)).1.addVerdict p
    (State.judgeConfig p judge (s.counted p)).2 := State.receipted_takes takes
  have state : (s.counted p).device.state = s.device.state := rfl
  refine ⟨fun away => ?_, fun here other => ?_, fun here ride => ?_⟩
  · rw [receipted, State.judgeConfig, state, if_pos away]
    exact s.counted_addVerdict p _
  · rw [receipted, State.judgeConfig, state, if_neg (not_not_intro here), if_pos other]
    exact s.counted_addVerdict p _
  · rw [receipted, State.judgeConfig, state, if_neg (not_not_intro here), if_neg (not_not_intro ride)]

/-- A CONFIG from RIDE in CONFIGURE that its record's own checks refuse. -/
theorem State.takeConfig_refused {judge : State → State × Verdict} {v : Verdict} {s : State} (takes : s.takes .ride)
    (here : s.device.state = .configure) (refused : judge (s.counted .ride) = (s.counted .ride, v)) :
    s.takeConfig .ride false judge = s.answered .ride v := by
  rw [(State.takeConfig_takes takes).2.2 here rfl, refused]
  exact s.counted_addVerdict .ride v

/-! ### Checks 3 to 5 -/

section
variable {α : Type} {body : Option (Nat × List Byte)} {lengthOf : Nat → Option Nat} {fixed : Nat → Bool}
  {parse : Nat → List Byte → Option α} {write : Nat → α → State} {s : State} {i : Nat} {record : List Byte}

/-- Check 3: no record of this target, or one of an index or a length that the target does not have. -/
theorem State.judgeRecord_unknown (unknown : ∀ i record, body = some (i, record) → lengthOf i ≠ some record.length) :
    State.judgeRecord body lengthOf fixed parse write s = (s, .malformed) := by
  unfold State.judgeRecord
  split
  · rfl
  · exact if_pos (unknown _ _ rfl)

/-- Check 4: a record that cannot be written. -/
theorem State.judgeRecord_fixed (known : lengthOf i = some record.length) (is : fixed i = true) :
    State.judgeRecord (some (i, record)) lengthOf fixed parse write s = (s, .notPermitted) := by
  simp only [State.judgeRecord, if_neg (not_not_intro known), if_pos is]

/-- Check 5: a field out of range. -/
theorem State.judgeRecord_unread (known : lengthOf i = some record.length) (is : fixed i = false)
    (unread : parse i record = none) : State.judgeRecord (some (i, record)) lengthOf fixed parse write s = (s, .malformed) := by
  simp [State.judgeRecord, known, is, unread]

/-- A record that passes is written. -/
theorem State.judgeRecord_written {x : α} (known : lengthOf i = some record.length) (is : fixed i = false)
    (read : parse i record = some x) : State.judgeRecord (some (i, record)) lengthOf fixed parse write s = (write i x, .taken) := by
  simp [State.judgeRecord, known, is, read]

end

/-! ### Payloads of no target -/

/-- A payload that is too short for any record, or headed by a code above 8. -/
def noTarget (payload : List Byte) : Prop :=
  payload.length < 3 ∨ ∃ (code : Byte) (rest : List Byte), payload = code :: rest ∧ 9 ≤ code.toNat

theorem configBody_noTarget {code i : Nat} {record payload : List Byte} (h : noTarget payload) (low : code < 9)
    (body : configBody code payload = some (i, record)) : record = [] := by
  unfold configBody at body
  split at body
  · next t j rest =>
    obtain ⟨rfl, same⟩ := Option.ite_none_right_eq_some.1 body
    obtain ⟨-, rfl⟩ := Prod.mk.inj (Option.some.inj same)
    rcases h with short | ⟨_, _, same, above⟩
    · exact List.eq_nil_of_length_eq_zero (by simp at short; omega)
    · obtain ⟨rfl, -⟩ := List.cons.inj same
      omega
  · contradiction

theorem State.lengthBelow_ne_zero {len : Nat} (pos : len ≠ 0) (n i : Nat) : State.lengthBelow n len i ≠ some 0 := by
  simp [State.lengthBelow, pos]

theorem State.levelLength_ne_zero (i : Nat) : State.levelLength i ≠ some 0 := by
  unfold State.levelLength
  split
  · decide
  · exact State.lengthBelow_ne_zero (by decide) 6 i

theorem State.judgeRecord_noTarget {α : Type} {code : Nat} {payload : List Byte} {lengthOf : Nat → Option Nat}
    {fixed : Nat → Bool} {parse : Nat → List Byte → Option α} {write : Nat → α → State} {s : State}
    (h : noTarget payload) (low : code < 9) (lengths : ∀ i, lengthOf i ≠ some 0) :
    State.judgeRecord (configBody code payload) lengthOf fixed parse write s = (s, .malformed) :=
  State.judgeRecord_unknown fun i _ body => configBody_noTarget h low body ▸ lengths i

/-- Each CONFIG row is judged by a target of its own, and refuses a payload of no target. -/
theorem exec_configCommands {p : Station} {turn : Bool} {payload : List Byte} {mV : Nat} {c : Instr}
    (hc : c ∈ configCommands p turn payload mV) : ∃ judge : State → State × Verdict,
      (∀ s, exec c s = .next (s.takeConfig p turn judge)) ∧ (noTarget payload → ∀ s, judge s = (s, .malformed)) := by
  simp only [configCommands, List.mem_cons, List.not_mem_nil, or_false] at hc
  rcases hc with rfl | rfl | rfl | rfl | rfl | rfl | rfl | rfl | rfl
  case inr.inr.inl =>
    exact ⟨_, fun _ => rfl, fun h _ => State.judgeRecord_noTarget h (by decide) State.levelLength_ne_zero⟩
  all_goals
    exact ⟨_, fun _ => rfl, fun h _ =>
      State.judgeRecord_noTarget h (by decide) (State.lengthBelow_ne_zero (by decide) _)⟩

/-! ### The nine targets -/

/-- How a record of one target is refused: of an index or a length unknown to it, fixed, or with a field out of range. -/
structure RefusesInOrder (known fixed inRange : Prop) (s : State) (answer : State × Verdict) : Prop where
  unknown : ¬known → answer = (s, .malformed)
  kept : known → fixed → answer = (s, .notPermitted)
  unread : known → ¬fixed → ¬inRange → answer = (s, .malformed)

theorem State.judgeRecord_refuses {α : Type} {body : Option (Nat × List Byte)} {lengthOf : Nat → Option Nat}
    {fixed : Nat → Bool} {parse : Nat → List Byte → Option α} {write : Nat → α → State} {s : State} {i : Nat}
    {record : List Byte} {isFixed inRange : Prop} (has : body = some (i, record)) (fixes : fixed i = true ↔ isFixed)
    (unread : lengthOf i = some record.length → ¬inRange → parse i record = none) :
    RefusesInOrder (lengthOf i = some record.length) isFixed inRange s
      (State.judgeRecord body lengthOf fixed parse write s) := by
  subst has
  refine ⟨fun unknown => State.judgeRecord_unknown ?_, fun known is => State.judgeRecord_fixed known (fixes.2 is),
    fun known not bad => State.judgeRecord_unread known (Bool.eq_false_iff.2 fun is => not (fixes.1 is)) (unread known bad)⟩
  rintro _ _ ⟨⟩
  exact unknown

theorem configBody_headed (code i : Byte) (record : List Byte) :
    configBody code.toNat (code :: i :: record) = some (i.toNat, record) := if_pos rfl

theorem State.responseFixed_iff (s : State) (i : Nat) : s.responseFixed i = true ↔
    i = 21 ∨ ∃ k : Fin 32, i = k.val ∧ (s.classOf k).assigned = false := by
  rw [State.responseFixed, Bool.or_eq_true, decide_eq_true_iff]
  refine or_congr_right ⟨fun h => ?_, fun ⟨k, same, off⟩ => ?_⟩
  · split at h
    · next k found => exact ⟨k, fin?_eq_some.1 found, by simpa using h⟩
    · contradiction
  · simp [fin?_eq_some.2 same, off]

theorem State.levelLength_eq (i : Nat) : State.levelLength i = if i < 6 then some 2 else if i = 6 then some 1 else none := by
  by_cases overflow : i = 6
  · simp [State.levelLength, overflow]
  · simp [State.levelLength, State.lengthBelow, overflow]

/-- Each of the nine targets refuses a record that it heads in the order of R178. -/
theorem exec_configTargets {code i : Byte} {record : List Byte} {mV : Nat}
    {x : Nat × Instr × (Nat → Option Nat) × (Nat → List Byte → Prop)}
    (hx : x ∈ configTargets .ride (code :: i :: record) mV) (hcode : x.1 = code.toNat) :
    ∃ judge : State → State × Verdict, (∀ s, exec x.2.1 s = .next (s.takeConfig .ride false judge)) ∧
      ∀ s, RefusesInOrder (x.2.2.1 i.toNat = some record.length) (s.fixedRecord code.toNat i.toNat)
        (x.2.2.2 i.toNat record) s (judge s) := by
  have body := configBody_headed code i record
  simp only [configTargets, List.mem_cons, List.not_mem_nil, or_false] at hx
  rw [← hcode] at body ⊢
  rcases hx with rfl | rfl | rfl | rfl | rfl | rfl | rfl | rfl | rfl
  · refine ⟨_, fun _ => rfl, fun s => State.judgeRecord_refuses body (by simp [State.fixedRecord]) fun known bad => ?_⟩
    obtain ⟨low, -⟩ := Option.ite_none_right_eq_some.1 known
    rw [State.parseZoneAt, (fin?_eq_some (i := ⟨i.toNat, low⟩)).2 rfl]
    exact parseZone_bad bad
  · exact ⟨_, fun _ => rfl, fun s => State.judgeRecord_refuses body (by simp [State.fixedRecord]) fun _ => parseClass_bad⟩
  · refine ⟨_, fun _ => rfl, fun s => ?_⟩
    dsimp only
    rw [← State.levelLength_eq]
    exact State.judgeRecord_refuses body (by simp [State.fixedRecord]) parseLevelAt_bad
  · exact ⟨_, fun _ => rfl, fun s => State.judgeRecord_refuses body (by simp [State.fixedRecord, State.responseFixed_iff])
      fun _ => parseResponse_bad⟩
  · exact ⟨_, fun _ => rfl, fun s => State.judgeRecord_refuses body (by simp [State.fixedRecord]) fun _ => parseScan_bad⟩
  · exact ⟨_, fun _ => rfl, fun s => State.judgeRecord_refuses body (by simp [State.fixedRecord]) fun _ => parseChannels_bad⟩
  · exact ⟨_, fun _ => rfl, fun s => State.judgeRecord_refuses body (by simp [State.fixedRecord]) fun _ => parseThreshold_bad⟩
  · exact ⟨_, fun _ => rfl, fun s => State.judgeRecord_refuses body (by simp [State.fixedRecord]) fun _ => parseTiming_bad⟩
  · exact ⟨_, fun _ => rfl, fun s => State.judgeRecord_refuses body (by simp [State.fixedRecord]) fun _ => parseWeights_bad⟩

/-- Settles O44: checks 1 and 2 by `State.takeConfig_takes`, a payload of no target by `exec_configCommands`, and the record's own
checks by `exec_configTargets`. -/
theorem configIsRefusedInOrder : Obligations.ConfigIsRefusedInOrder := by
  constructor
  · intro p payload mV s takes c hc
    obtain ⟨judge, runs, refuses⟩ := exec_configCommands hc
    obtain ⟨away, other, judged⟩ := State.takeConfig_takes (judge := judge) takes
    have malformed (here : s.device.state = .configure) (ride : p = .ride) (bad : noTarget payload) :
        exec c s = .next (s.answered p .malformed) := by
      rw [runs, judged here ride, refuses bad, State.counted_addVerdict]
    exact ⟨fun h => by rw [runs, away h], fun h g => by rw [runs, other h g],
      fun here ride short => malformed here ride (.inl short), fun here ride above => malformed here ride (.inr above)⟩
  · intro code i record mV s takes here x hx hcode known
    obtain ⟨judge, runs, refuses⟩ := exec_configTargets hx hcode
    obtain ⟨unknown, kept, unread⟩ := refuses (s.counted .ride)
    rw [runs]
    exact ⟨fun h => congrArg _ (State.takeConfig_refused takes here (unknown h)),
      fun h g => congrArg _ (State.takeConfig_refused takes here (kept h g)),
      fun h g k => congrArg _ (State.takeConfig_refused takes here (unread h g k))⟩

end Sys2Proof.Machine
end

section
/-!
PROOFS. The Self Monitor under its records (R149, R156, R160): slots reset, one or several at once, and the comparator that takes a
voltage.
-/
namespace Sys2Proof.Machine

open Sys2Proof

/-! ### Loops over the entries of a table -/

/-- A loop whose pass at `a` changes what stands at `a` alone, by `F`, and again changes nothing more: it has changed what stands
at the indexes that it has been to. `P` is what the passes keep. -/
theorem foldl_pointwise {σ α β : Type} [DecidableEq α] {P : σ → Prop} {read : σ → α → β} {F : α → β → β}
    {g : σ → α → σ}
    (kept : ∀ s a, P s → P (g s a)) (once : ∀ a x, F a (F a x) = F a x)
    (reads : ∀ s, P s → ∀ a i, read (g s a) i = if i = a then F i (read s i) else read s i) (l : List α) {s : σ} (hs : P s)
    (i : α) : read (l.foldl g s) i = if i ∈ l then F i (read s i) else read s i := by
  induction l generalizing s with
  | nil => simp
  | cons a l ih =>
    rw [List.foldl_cons, ih (kept s a hs), reads s hs]
    by_cases here : i = a <;> by_cases later : i ∈ l <;> simp [here, later, once]

/-! ### A slot reset -/

/-- A condition record set deasserted (R51, R52): its detail is kept, and a change inverts the unsent flag. -/
def Cond.withdrawn (c : Cond) : Cond :=
  if c.asserted then ⟨false, c.detail, !c.unsent⟩ else c

theorem Cond.withdrawn_asserted (c : Cond) : c.withdrawn.asserted = false := by
  unfold Cond.withdrawn
  split
  · rfl
  · next off => exact Bool.eq_false_iff.2 off

theorem Cond.withdrawn_detail (c : Cond) : c.withdrawn.detail = c.detail := by
  unfold Cond.withdrawn
  split <;> rfl

theorem Cond.withdrawn_of_false {c : Cond} (off : c.asserted = false) : c.withdrawn = c := if_neg (by simp [off])

theorem Cond.withdrawn_withdrawn (c : Cond) : c.withdrawn.withdrawn = c.withdrawn := withdrawn_of_false c.withdrawn_asserted

theorem State.cond_setCond_false (k j : Fin 24) (s : State) :
    (s.setCond k false none).cond j = if j = k then (s.cond j).withdrawn else s.cond j := by
  by_cases same : j = k
  · rw [if_pos same, same, State.cond_setCond, Cond.withdrawn]
    cases (s.cond k).asserted <;> rfl
  · rw [if_neg same, State.cond_setCond_ne _ _ _ same]

theorem State.resetSlot_filter (k j : Fin 8) (s : State) : (s.resetSlot k).filter j =
    if j = k then Filter.initial s.config.scan[k] s.config.enable else s.filter j := by
  have filters : (s.resetSlot k).filter j = (s.setFilter k (Filter.initial s.config.scan[k] s.config.enable)).filter j := by
    simp [State.resetSlot, State.filter]
  rw [filters]
  exact getElem_putAt ..

theorem State.resetSlot_cond (k : Fin 8) (j : Fin 24) (s : State) :
    (s.resetSlot k).cond j = if j = slotCond k then (s.cond j).withdrawn else s.cond j :=
  State.cond_setCond_false ..

theorem slotCond_inj {j k : Fin 8} : slotCond j = slotCond k ↔ j = k := by simp [slotCond, Fin.ext_iff]

/-! ### A SCAN record -/

theorem State.writeScan_config (k : Fin 8) (r : ScanRec) (s : State) :
    (s.writeScan k r).config = { s.config with scan := putAt s.config.scan k r } := by
  simp [State.writeScan]

/-- The slot of a SCAN record is reset by it, and no other (R156). -/
theorem State.writeScan_filter (k j : Fin 8) (r : ScanRec) (s : State) : (s.writeScan k r).filter j =
    if j = k then Filter.initial r s.config.enable else s.filter j := by
  rw [State.writeScan, State.resetSlot_filter]
  simp [State.filter]

theorem State.writeScan_cond (k : Fin 8) (j : Fin 24) (r : ScanRec) (s : State) :
    (s.writeScan k r).cond j = if j = slotCond k then (s.cond j).withdrawn else s.cond j := by
  rw [State.writeScan, State.resetSlot_cond]
  rfl

/-! ### A CHANNELS record -/

/-- The channel of a used slot joins or leaves the enable set (R149). -/
def slotMoves (c : Tables) (old : Vector Bool 7) (k : Fin 8) : Bool :=
  c.scan[k].used && old[c.scan[k].channel] ≠ c.enable[c.scan[k].channel]

theorem State.resetIfMoved_eq (old : Vector Bool 7) (s : State) (k : Fin 8) :
    s.resetIfMoved old k = if slotMoves s.config old k then s.resetSlot k else s := rfl

theorem State.writeEnable_config (e : Vector Bool 7) (s : State) :
    (s.writeEnable e).config = { s.config with enable := e } := by
  simp [State.writeEnable]

theorem State.resetIfMoved_filter (old : Vector Bool 7) (s : State) (j k : Fin 8) : (s.resetIfMoved old j).filter k =
    if k = j then (if slotMoves s.config old k then Filter.initial s.config.scan[k] s.config.enable else s.filter k)
    else s.filter k := by
  rw [State.resetIfMoved_eq]
  by_cases same : k = j
  · subst same
    split <;> simp [State.resetSlot_filter]
  · split <;> simp [State.resetSlot_filter, same]

theorem State.resetIfMoved_cond (old : Vector Bool 7) (s : State) (j k : Fin 8) :
    (s.resetIfMoved old j).cond (slotCond k) =
      if k = j then (if slotMoves s.config old k then (s.cond (slotCond k)).withdrawn else s.cond (slotCond k))
      else s.cond (slotCond k) := by
  rw [State.resetIfMoved_eq]
  by_cases same : k = j
  · subst same
    split <;> simp [State.resetSlot_cond]
  · split <;> simp [State.resetSlot_cond, slotCond_inj, same]

/-- A used slot whose channel joins or leaves the enable set is reset, with its record set deasserted (R149). -/
theorem State.writeEnable_moved {e : Vector Bool 7} {s : State} {k : Fin 8} (used : s.config.scan[k].used = true)
    (moved : s.config.enable[s.config.scan[k].channel] ≠ e[s.config.scan[k].channel]) :
    (s.writeEnable e).filter k = Filter.initial s.config.scan[k] e ∧
      ((s.writeEnable e).cond (slotCond k)).asserted = false := by
  have moves : slotMoves { s.config with enable := e } s.config.enable k = true :=
    Bool.and_eq_true_iff.2 ⟨used, decide_eq_true moved⟩
  have start : (State.dropDisabled { s with config := { s.config with enable := e } }).config =
    { s.config with enable := e } := by simp
  have kept (t : State) (j : Fin 8) (h : t.config = { s.config with enable := e }) :
      (t.resetIfMoved s.config.enable j).config = { s.config with enable := e } := by simp [h]
  have filter := foldl_pointwise (read := State.filter)
    (F := fun i x => if slotMoves { s.config with enable := e } s.config.enable i
      then Filter.initial s.config.scan[i] e else x)
    kept (fun i x => by split <;> rfl)
    (fun t h j i => by rw [State.resetIfMoved_filter, h]) (List.finRange 8) start k
  have cond := foldl_pointwise (read := fun t i => State.cond t (slotCond i))
    (F := fun i x => if slotMoves { s.config with enable := e } s.config.enable i then x.withdrawn else x)
    kept (fun i x => by
      split
      · exact x.withdrawn_withdrawn
      · rfl)
    (fun t h j i => by rw [State.resetIfMoved_cond, h]) (List.finRange 8) start k
  rw [if_pos (List.mem_finRange k), if_pos moves] at filter cond
  exact ⟨filter, (congrArg Cond.asserted cond).trans (Cond.withdrawn_asserted _)⟩

/-! ### The comparator -/

/-- The comparator once it has taken `mV` against a threshold of `limit` mV: 1 V of hysteresis above it (R159). -/
def under (comparator : Bool) (limit mV : Nat) : Bool :=
  if comparator then decide (mV ≤ limit + 1000) else decide (mV < limit)

/-- A voltage moves the comparator, and with it record 8, or leaves both (R159, R160). -/
theorem State.compareLink_eq (mV : Nat) (s : State) :
    let now := under s.monitor.comparator (thresholdMv s.config.threshold) mV
    s.compareLink mV = if now = s.monitor.comparator then s else State.setCond 8 now
      (if now then some (thresholdDetail s.config.threshold) else none)
      { s with monitor := { s.monitor with comparator := now } } := by
  unfold State.compareLink under
  cases h : s.monitor.comparator
  · by_cases below : mV < thresholdMv s.config.threshold
    · simp [below, State.fall]
    · simp [below]
  · by_cases above : thresholdMv s.config.threshold + 1000 < mV
    · simp [above, Nat.not_le.2 above, State.rise]
    · simp [above, Nat.not_lt.1 above]

theorem State.compareLink_spec {mV : Nat} {s : State} {now : Bool}
    (h : under s.monitor.comparator (thresholdMv s.config.threshold) mV = now) :
    let t := s.compareLink mV
    t.monitor = { s.monitor with comparator := now } ∧ (∀ k, k ≠ 8 → t.cond k = s.cond k) ∧
      (now = s.monitor.comparator → t.cond 8 = s.cond 8) ∧
      ((s.cond 8).asserted = s.monitor.comparator → now ≠ s.monitor.comparator → t.cond 8 =
        ⟨now, if now then some (thresholdDetail s.config.threshold) else (s.cond 8).detail, !(s.cond 8).unsent⟩) := by
  have eq := State.compareLink_eq mV s
  simp only [h] at eq
  intro t
  by_cases stays : now = s.monitor.comparator
  · rw [if_pos stays] at eq
    rw [show t = s from eq, stays]
    exact ⟨rfl, fun _ _ => rfl, fun _ => rfl, fun _ moves => absurd rfl moves⟩
  · rw [if_neg stays] at eq
    obtain ⟨monitor, others, -⟩ := State.setCond_monitored { s.monitor with comparator := now } 8 now
      (if now then some (thresholdDetail s.config.threshold) else none) s
    rw [show t = _ from eq]
    refine ⟨monitor, others, fun same => absurd same stays, fun agrees _ => ?_⟩
    rw [State.cond_setCond]
    refine (if_neg fun same => stays (same.symm.trans agrees)).trans ?_
    cases now <;> rfl

end Sys2Proof.Machine
end

section
/-!
PROOFS. What an accepted CONFIG writes (R179): its record by what its bytes are read to (`Reads`), and what the Self Monitor makes
of a SCAN, a CHANNELS, a COMPARATOR and a TIMING record.
-/
namespace Sys2Proof.Machine

open Sys2Proof

/-! ### A record that is taken -/

section
variable {judge : State → State × Verdict} {c : Instr} {s : State}

/-- A record that RIDE sends in CONFIGURE and that its target takes is answered TAKEN. -/
theorem exec_config_taken (judge : State → State × Verdict) (runs : ∀ s, exec c s = .next (s.takeConfig .ride false judge))
    (takes : s.takes .ride) (here : s.device.state = .configure) {u : State} (taken : judge (s.counted .ride) = (u, .taken)) :
    exec c s = .next (u.addVerdict .ride .taken) := by
  rw [runs, (State.takeConfig_takes takes).2.2 here rfl, taken]

/-- The state that answers TAKEN with what a record has made of `u`: the verdict stands last, and all but the ports is `u`'s. -/
structure AnswersWith (s u t : State) : Prop where
  verdict : (t.port .ride).verdicts = (s.port .ride).verdicts ++ [.taken]
  config : t.config = u.config
  monitor : t.monitor = u.monitor
  ladder : t.ladder = u.ladder
  motion : t.motion = u.motion
  publication : t.publication = u.publication
  faults : t.faults = u.faults
  intake : t.intake = u.intake
  device : t.device = u.device

theorem AnswersWith.filter {s u t : State} (h : AnswersWith s u t) (k : Fin 8) : t.filter k = u.filter k := by
  rw [State.filter, h.monitor, State.filter]

theorem AnswersWith.cond {s u t : State} (h : AnswersWith s u t) (k : Fin 24) : t.cond k = u.cond k := by
  rw [State.cond, h.intake, State.cond]

/-- A record that is taken, by what its target makes of the state that counts the frame. -/
theorem exec_config_answers (judge : State → State × Verdict) (runs : ∀ s, exec c s = .next (s.takeConfig .ride false judge))
    (takes : s.takes .ride) (here : s.device.state = .configure) {u : State} (taken : judge (s.counted .ride) = (u, .taken))
    (ports : u.ports = (s.counted .ride).ports) : ∃ t, exec c s = .next t ∧ AnswersWith s u t := by
  refine ⟨_, exec_config_taken judge runs takes here taken, State.addVerdict_verdicts .taken ports,
    ?_, ?_, ?_, ?_, ?_, ?_, ?_, ?_⟩
  all_goals simp

/-- One that writes a record and nothing else. -/
theorem exec_config_written (judge : State → State × Verdict) (runs : ∀ s, exec c s = .next (s.takeConfig .ride false judge))
    (takes : s.takes .ride) (here : s.device.state = .configure) {change : Tables → Tables}
    (taken : ∀ t : State, t.config = s.config → judge t = ({ t with config := change t.config }, .taken)) :
    exec c s = .next (State.answered { s with config := change s.config } .ride .taken) :=
  (exec_config_taken judge runs takes here (taken (s.counted .ride) rfl)).trans
    (congrArg Host.Outcome.next (State.counted_addVerdict { s with config := change s.config } .ride .taken))

end

section
variable {α : Type} {code : Byte} {c : Nat} {record : List Byte} {lengthOf : Nat → Option Nat} {fixed : Nat → Bool}
  {parse : Nat → List Byte → Option α} {write : Nat → α → State} {s : State} {x : α}

/-- A record of index `i` that its target takes is written. -/
theorem State.judgeRecord_index {n : Nat} {i : Fin n} (is : code.toNat = c) (le : n ≤ 256)
    (known : lengthOf i.val = some record.length) (free : fixed i.val = false) (read : parse i.val record = some x) :
    State.judgeRecord (configBody c (code :: BitVec.ofNat 8 i.val :: record)) lengthOf fixed parse write s =
      (write i.val x, .taken) := by
  subst is
  rw [configBody_headed, toNat_ofNat_fin le]
  exact State.judgeRecord_written known free read

/-- The same for a target of one record. -/
theorem State.judgeRecord_zero (is : code.toNat = c) (known : lengthOf 0 = some record.length) (free : fixed 0 = false)
    (read : parse 0 record = some x) :
    State.judgeRecord (configBody c (code :: 0 :: record)) lengthOf fixed parse write s = (write 0 x, .taken) :=
  State.judgeRecord_index (i := (0 : Fin 1)) is (by decide) known free read

end

theorem State.lengthBelow_fin {n : Nat} (len : Nat) (i : Fin n) : State.lengthBelow n len i.val = some len :=
  if_pos i.isLt

theorem State.putNat_fin {α : Type} {n : Nat} (v : Vector α n) (i : Fin n) (x : α) : State.putNat v i.val x = putAt v i x := by
  rw [State.putNat, fin?_eq_some.2 rfl]

theorem State.writeResponse_fin (i : Fin 32) (r : Response) (s : State) : s.writeResponse i.val r = { s with
    config := { s.config with classes := putAt s.config.classes i { s.classOf i with response := r } } } := by
  simp [State.writeResponse, fin?_eq_some.2 (rfl : i.val = i.val)]

theorem Filter.initial_used {r : ScanRec} (used : r.used = true) (enable : Vector Bool 7) :
    Filter.initial r enable = ⟨if enable[r.channel] then .clear else .idle, 0, 0⟩ :=
  congrArg (Filter.mk · 0 0) (if_pos used)

theorem Fin.decide_val_eq_false {n : Nat} {i j : Fin n} (h : i ≠ j) : decide (i.val = j.val) = false :=
  decide_eq_false fun same => h (Fin.ext same)

/-! ### The tables -/

section
variable {s : State}

theorem exec_zoneRecord_written (takes : s.takes .ride) (here : s.device.state = .configure) {i : Fin 16} (free : i ≠ 15)
    {v pa rs ow ax ll la : Byte} (ok : zoneInRange i.val [v, pa, rs, ow, ax, ll, la]) :
    ∃ z, exec (.zoneRecord .ride false [0, BitVec.ofNat 8 i.val, v, pa, rs, ow, ax, ll, la]) s =
        .next (State.answered { s with config := { s.config with zones := putAt s.config.zones i z } } .ride .taken) ∧
      StoresZone v pa rs ow ax ll la z := by
  obtain ⟨z, read, stores⟩ := (reads_zone i v pa rs ow ax ll la).some ok
  have readAt : State.parseZoneAt i.val [v, pa, rs, ow, ax, ll, la] = some z := by
    rw [State.parseZoneAt, fin?_eq_some.2 rfl]
    exact read
  refine ⟨z, exec_config_written (State.judgeZone _) (fun _ => rfl) takes here
    (change := fun c => { c with zones := putAt c.zones i z }) (fun t _ => ?_), stores⟩
  rw [State.judgeZone, State.judgeRecord_index (code := 0) (c := 0) rfl (by decide) (State.lengthBelow_fin 7 i)
    (Fin.decide_val_eq_false free) readAt, State.putNat_fin]

theorem exec_classRecord_written (takes : s.takes .ride) (here : s.device.state = .configure) {i : Fin 32} (free : i ≠ 21)
    {as n w1 w0 la pr h1 h0 k l a r c pk : Byte} (ok : classInRange [as, n, w1, w0, la, pr, h1, h0, k, l, a, r, c, pk]) :
    ∃ x, exec (.classRecord .ride false [1, BitVec.ofNat 8 i.val, as, n, w1, w0, la, pr, h1, h0, k, l, a, r, c, pk]) s =
        .next (State.answered { s with config := { s.config with classes := putAt s.config.classes i x } } .ride .taken) ∧
      StoresClass as n w1 w0 la pr h1 h0 k l a r c pk x := by
  obtain ⟨x, read, stores⟩ := (reads_class as n w1 w0 la pr h1 h0 k l a r c pk).some ok
  refine ⟨x, exec_config_written (State.judgeClass _) (fun _ => rfl) takes here
    (change := fun c => { c with classes := putAt c.classes i x }) (fun t _ => ?_), stores⟩
  rw [State.judgeClass, State.judgeRecord_index (code := 1) (c := 1) rfl (by decide) (State.lengthBelow_fin 14 i)
    (Fin.decide_val_eq_false free) read, State.putNat_fin]

theorem exec_levelRecord_written (takes : s.takes .ride) (here : s.device.state = .configure) (i : Fin 6)
    {torque : Byte} (speed : Byte) (ok : torque.toNat ≤ 100) :
    exec (.levelRecord .ride false [2, BitVec.ofNat 8 i.val, torque, speed]) s = .next (State.answered { s with
      config := { s.config with levels := putAt s.config.levels i ⟨torque.toNat, speed.toNat⟩ } } .ride .taken) := by
  obtain ⟨x, read, rfl⟩ := (reads_level torque speed).some ok
  have ne : i.val ≠ 6 := Nat.ne_of_lt i.isLt
  have known : State.levelLength i.val = some 2 := (if_neg ne).trans (State.lengthBelow_fin 2 i)
  have readAt : State.parseLevelAt i.val [torque, speed] = some (.inl ⟨torque.toNat, speed.toNat⟩) := by
    rw [State.parseLevelAt, if_neg ne, read, Option.map_some]
  refine exec_config_written (State.judgeLevel _) (fun _ => rfl) takes here
    (change := fun c => { c with levels := putAt c.levels i ⟨torque.toNat, speed.toNat⟩ }) fun t _ => ?_
  rw [State.judgeLevel, State.judgeRecord_index (code := 2) (c := 2) rfl (by decide) known rfl readAt,
    State.writeLevel, State.putNat_fin]

theorem exec_overflowLevel_written (takes : s.takes .ride) (here : s.device.state = .configure) (l : Fin 6) :
    exec (.levelRecord .ride false [2, 6, BitVec.ofNat 8 l.val]) s =
      .next (State.answered { s with config := { s.config with overflowLevel := l } } .ride .taken) := by
  have read : State.parseLevelAt 6 [BitVec.ofNat 8 l.val] = some (.inr l) := by
    rw [State.parseLevelAt, if_pos rfl, parseOverflowLevel, fin?_eq_some.2 (toNat_ofNat_fin (by decide) l), Option.map_some]
  refine exec_config_written (State.judgeLevel _) (fun _ => rfl) takes here
    (change := fun c => { c with overflowLevel := l }) fun t _ => ?_
  exact State.judgeRecord_index (i := (6 : Fin 7)) rfl (by decide) rfl rfl read

theorem exec_responseRecord_written (takes : s.takes .ride) (here : s.device.state = .configure) {i : Fin 32} (free : i ≠ 21)
    (assigned : (s.classOf i).assigned = true) {k l a r c pk : Byte} (ok : responseInRange [k, l, a, r, c, pk]) :
    ∃ x, exec (.responseRecord .ride false [3, BitVec.ofNat 8 i.val, k, l, a, r, c, pk]) s =
        .next (State.answered { s with config := { s.config with
          classes := putAt s.config.classes i { s.classOf i with response := x } } } .ride .taken) ∧
      storesResponse k l a r c pk x := by
  obtain ⟨x, read, stores⟩ := (reads_response k l a r c pk).some ok
  refine ⟨x, exec_config_written (State.judgeResponse _) (fun _ => rfl) takes here
    (change := fun c => { c with classes := putAt c.classes i { s.classOf i with response := x } }) (fun t same => ?_), stores⟩
  have slot : t.classOf i = s.classOf i := by rw [State.classOf, same, State.classOf]
  have unfixed : t.responseFixed i.val = false := by
    rw [Bool.eq_false_iff, ne_eq, State.responseFixed_iff]
    rintro (own | ⟨j, at_j, off⟩)
    · exact free (Fin.ext own)
    · rw [← Fin.ext at_j, slot, assigned] at off
      contradiction
  rw [State.judgeResponse, State.judgeRecord_index (code := 3) (c := 3) rfl (by decide) (State.lengthBelow_fin 6 i) unfixed read,
    State.writeResponse_fin, slot]

theorem exec_weightRecord_written (takes : s.takes .ride) (here : s.device.state = .configure) {a b c d e : Byte}
    (ok : weightInRange [a, b, c, d, e]) : exec (.weightRecord .ride false [8, 0, a, b, c, d, e]) s =
      .next (State.answered { s with config := { s.config with
        weights := ⟨a.toNat, b.toNat, c.toNat, d.toNat, e.toNat⟩ } } .ride .taken) := by
  obtain ⟨w, read, rfl⟩ := (reads_weights a b c d e).some ok
  refine exec_config_written (State.judgeWeight _) (fun _ => rfl) takes here
    (change := fun t => { t with weights := ⟨a.toNat, b.toNat, c.toNat, d.toNat, e.toNat⟩ }) fun t _ => ?_
  rw [State.judgeWeight, State.judgeRecord_zero (code := 8) (c := 8) rfl (State.lengthBelow_fin 5 (0 : Fin 1)) rfl read]

/-! ### The Self Monitor's records -/

theorem exec_scanRecord_written (takes : s.takes .ride) (here : s.device.state = .configure) (i : Fin 8)
    {u ch l1 l0 h1 h0 z c ac rc : Byte} (ok : scanInRange [u, ch, l1, l0, h1, h0, z, c, ac, rc]) :
    ∃ t r, exec (.scanRecord .ride false [4, BitVec.ofNat 8 i.val, u, ch, l1, l0, h1, h0, z, c, ac, rc]) s = .next t ∧
      AnswersWith s ((s.counted .ride).writeScan i r) t ∧ StoresScan u ch l1 l0 h1 h0 z c ac rc r := by
  obtain ⟨r, read, stores⟩ := (reads_scan u ch l1 l0 h1 h0 z c ac rc).some ok
  obtain ⟨t, runs, answers⟩ := exec_config_answers (c := .scanRecord ..) (State.judgeScan _) (fun _ => rfl) takes here
    (u := (s.counted .ride).writeScan i r)
    (by rw [State.judgeScan, State.judgeRecord_index (code := 4) (c := 4) rfl (by decide) (State.lengthBelow_fin 10 i) rfl read,
      State.writeScanAt, fin?_eq_some.2 rfl]) (by simp)
  exact ⟨t, r, runs, answers, stores⟩

theorem exec_channelsRecord_written (takes : s.takes .ride) (here : s.device.state = .configure) {e : Byte}
    (ok : e.toNat < 128) : ∃ t enable, exec (.channelsRecord .ride false [5, 0, e]) s = .next t ∧
      AnswersWith s ((s.counted .ride).writeEnable enable) t ∧ ∀ c : Fin 7, enable[c] = (c.val == 6 || e.getLsbD c.val) := by
  obtain ⟨enable, read, stores⟩ := (reads_channels e).some ok
  obtain ⟨t, runs, answers⟩ := exec_config_answers (c := .channelsRecord ..) (State.judgeChannels _) (fun _ => rfl) takes here
    (u := (s.counted .ride).writeEnable enable)
    (by rw [State.judgeChannels, State.judgeRecord_zero (code := 5) (c := 5) rfl (State.lengthBelow_fin 1 (0 : Fin 1)) rfl read])
    (by simp)
  exact ⟨t, enable, runs, answers, stores⟩

theorem exec_comparatorRecord_written (takes : s.takes .ride) (here : s.device.state = .configure) (i : Fin 8) (mV : Nat) :
    ∃ t, exec (.comparatorRecord .ride false [6, 0, BitVec.ofNat 8 i.val] mV) s = .next t ∧
      AnswersWith s ((s.counted .ride).writeThreshold i mV) t := by
  have read : parseThreshold [BitVec.ofNat 8 i.val] = some i := fin?_eq_some.2 (toNat_ofNat_fin (by decide) i)
  refine exec_config_answers (State.judgeComparator _ mV) (fun _ => rfl) takes here ?_ (by simp)
  rw [State.judgeComparator, State.judgeRecord_zero (code := 6) (c := 6) rfl (State.lengthBelow_fin 1 (0 : Fin 1)) rfl read]

theorem exec_timingRecord_written (takes : s.takes .ride) (here : s.device.state = .configure)
    {hb tw r1 r0 aw sp p1 p0 sl ml : Byte} (ok : timingInRange [hb, tw, r1, r0, aw, sp, p1, p0, sl, ml]) :
    ∃ t, exec (.timingRecord .ride false [7, 0, hb, tw, r1, r0, aw, sp, p1, p0, sl, ml]) s = .next t ∧
      AnswersWith s ((s.counted .ride).writeTiming ⟨hb.toNat, tw.toNat, 256 * r1.toNat + r0.toNat, aw.toNat, sp.toNat,
        256 * p1.toNat + p0.toNat, sl.toNat, ml.toNat⟩) t := by
  obtain ⟨k, read, rfl⟩ := (reads_timing hb tw r1 r0 aw sp p1 p0 sl ml).some ok
  refine exec_config_answers (State.judgeTiming _) (fun _ => rfl) takes here ?_ (by simp)
  rw [State.judgeTiming, State.judgeRecord_zero (code := 7) (c := 7) rfl (State.lengthBelow_fin 10 (0 : Fin 1)) rfl read]

/-! ### What they make of the Self Monitor -/

section
variable {t : State}

/-- A scan slot is set up anew and no other (R156). -/
theorem AnswersWith.scan {i : Fin 8} {r : ScanRec} (h : AnswersWith s ((s.counted .ride).writeScan i r) t) :
    t.filter i = Filter.initial r s.config.enable ∧ t.cond (slotCond i) = (s.cond (slotCond i)).withdrawn ∧
      (∀ j, j ≠ i → t.filter j = s.filter j) ∧ (∀ j, j ≠ slotCond i → t.cond j = s.cond j) ∧
      ScanGoesOn t.config s.monitor.scan t.monitor.scan ∧ t.monitor.latest = s.monitor.latest := by
  obtain ⟨scan, latest⟩ := State.writeScan_scan i r (s.counted .ride)
  refine ⟨?_, ?_, fun j other => ?_, fun j other => ?_, ?_, ?_⟩
  · exact (h.filter i).trans ((State.writeScan_filter ..).trans (if_pos rfl))
  · exact (h.cond _).trans ((State.writeScan_cond ..).trans (if_pos rfl))
  · exact (h.filter j).trans ((State.writeScan_filter ..).trans (if_neg other))
  · exact (h.cond j).trans ((State.writeScan_cond ..).trans (if_neg other))
  · rw [h.config, h.monitor]
    exact scan
  · rw [h.monitor]
    exact latest

/-- The enable set is written, and the used slots whose channel moves start over (R149). -/
theorem AnswersWith.channels {enable : Vector Bool 7} (h : AnswersWith s ((s.counted .ride).writeEnable enable) t) :
    t.config = { s.config with enable := enable } ∧
      (∀ c : Fin 7, t.monitor.latest[c] = (if enable[c] then s.monitor.latest[c] else none)) ∧
      ScanGoesOn t.config s.monitor.scan t.monitor.scan ∧
      ∀ k : Fin 8, s.config.scan[k].used = true →
        s.config.enable[s.config.scan[k].channel] ≠ enable[s.config.scan[k].channel] →
        t.filter k = ⟨if enable[s.config.scan[k].channel] then .clear else .idle, 0, 0⟩ ∧
          (t.cond (slotCond k)).asserted = false := by
  obtain ⟨scan, latest⟩ := State.writeEnable_scan enable (s.counted .ride)
  have config : t.config = { s.config with enable := enable } := h.config.trans (State.writeEnable_config ..)
  refine ⟨config, fun c => ?_, ?_, fun k used moved => ?_⟩
  · rw [h.monitor]
    exact latest c
  · rw [config, h.monitor]
    exact scan
  · obtain ⟨filter, cond⟩ := State.writeEnable_moved (s := s.counted .ride) used moved
    exact ⟨(h.filter k).trans (filter.trans (Filter.initial_used used enable)), by rw [h.cond, cond]⟩

/-- The comparator takes up the link's voltage against its new threshold (R160). -/
theorem AnswersWith.comparator {i : Fin 8} {mV : Nat} {now : Bool}
    (h : AnswersWith s ((s.counted .ride).writeThreshold i mV) t)
    (takesUp : under s.monitor.comparator (thresholdMv i) mV = now) :
    t.config = { s.config with threshold := i } ∧ t.monitor = { s.monitor with comparator := now } ∧
      (∀ k, k ≠ 8 → t.cond k = s.cond k) ∧ (now = s.monitor.comparator → t.cond 8 = s.cond 8) ∧
      ((s.cond 8).asserted = s.monitor.comparator → now ≠ s.monitor.comparator → t.cond 8 =
        ⟨now, if now then some (thresholdDetail i) else (s.cond 8).detail, !(s.cond 8).unsent⟩) := by
  obtain ⟨monitor, others, stays, moves⟩ := State.compareLink_spec (mV := mV)
    (s := { s.counted .ride with config := { s.config with threshold := i } }) takesUp
  exact ⟨h.config.trans (by simp [State.writeThreshold]), h.monitor.trans monitor,
    fun k other => (h.cond k).trans (others k other), fun same => (h.cond 8).trans (stays same),
    fun agrees moved => (h.cond 8).trans (moves agrees moved)⟩

end

end

/-- Settles O45: each target writes what its bytes are read to, and of the Self Monitor's records what `State.writeScan`,
`State.writeEnable`, `State.compareLink` and `State.writeTiming` make of them. -/
theorem configWritesItsRecord : Obligations.ConfigWritesItsRecord := by
  intro mV s takes here written
  refine ⟨fun i v pa rs ow ax ll la free ok => ?_, fun i as n w1 w0 la pr h1 h0 k l a r c pk free ok => ?_,
    fun i torque speed ok => exec_levelRecord_written takes here i speed ok, exec_overflowLevel_written takes here,
    fun i k l a r c pk free assigned ok => exec_responseRecord_written takes here free assigned ok,
    fun i u ch l1 l0 h1 h0 z c ac rc ok => ?_, fun e ok => ?_, fun i => ?_,
    fun hb tw r1 r0 aw sp p1 p0 sl ml ok => ?_, fun a b c d e ok => exec_weightRecord_written takes here ok⟩
  · obtain ⟨z, taken, h⟩ := exec_zoneRecord_written takes here free ok
    exact ⟨z, taken, h.valid, h.orphan, h.parent, h.reporters, h.owner, h.axle, h.level, h.action⟩
  · obtain ⟨x, taken, h⟩ := exec_classRecord_written takes here free ok
    exact ⟨x, taken, h.unassigned, h.assigned⟩
  · obtain ⟨t, r, runs, answers, stores⟩ := exec_scanRecord_written takes here i ok
    obtain ⟨filter, cond, filters, conds, scan, latest⟩ := answers.scan
    exact ⟨t, r, runs, answers.verdict, answers.config.trans (State.writeScan_config i r (s.counted .ride)), stores.unused,
      stores.used, filter, by rw [cond, Cond.withdrawn_asserted], by rw [cond, Cond.withdrawn_detail], filters, conds, scan,
      latest⟩
  · obtain ⟨t, enable, runs, answers, members⟩ := exec_channelsRecord_written takes here ok
    obtain ⟨config, latest, scan, moves⟩ := answers.channels
    obtain rfl : t.config.enable = enable := congrArg Tables.enable config
    exact ⟨t, runs, answers.verdict, config, members, latest, scan, moves⟩
  · intro volts now
    obtain ⟨t, runs, answers⟩ := exec_comparatorRecord_written takes here i mV
    have threshold : thresholdMv i = 1000 * volts := Nat.mul_comm ..
    have detail : thresholdDetail i = BitVec.ofNat 16 (10 * volts) := congrArg (BitVec.ofNat 16) (Nat.mul_comm ..)
    rw [← detail]
    exact ⟨t, runs, answers.verdict, answers.comparator (by rw [threshold, under, ← Nat.mul_add_one])⟩
  · obtain ⟨t, runs, answers⟩ := exec_timingRecord_written takes here ok
    exact ⟨t, runs, answers.verdict, answers.config, answers.monitor, answers.ladder, answers.motion, answers.publication,
      answers.faults, answers.intake, answers.device⟩

end Sys2Proof.Machine
end

section
/-!
PROOFS. Entry to RUN (R181), by a COMMIT in its turn (R180) and by the end of the configure window (R182).
-/
namespace Sys2Proof.Machine

open Sys2Proof

/-! ### A publication that is its own target -/

theorem Port.Reached.verdicts {o o' : Port} (h : o.Reached o') : o'.verdicts = o.verdicts := by
  rw [h.1]

/-- The ports of `t` are in the states of `s`. -/
theorem State.PortsReached.state {s t : State} (h : s.PortsReached t) (p : Station) : (t.port p).state = (s.port p).state :=
  (h p).fields.1

theorem State.publishWhole_published (l : Limits) (cause : Option (Fin 48)) (s : State) :
    (s.publishWhole l cause).ladder.published = s.formEnvelope (State.nextGeneration s.publication.counter) l cause ∧
      (s.publishWhole l cause).publication.counter = State.nextGeneration s.publication.counter ∧
      (s.publishWhole l cause).ladder.target = (s.publishWhole l cause).ladder.published ∧
      (s.publishWhole l cause).ladder.relax = .idle ∧ (s.publishWhole l cause).ladder.hold = none := by
  obtain ⟨published, counter, -⟩ := State.publish_spec l cause s
  exact ⟨published, counter, rfl, rfl, rfl⟩

theorem State.publishWhole_reaches (l : Limits) (cause : Option (Fin 48)) (s : State) :
    s.PortsReached (s.publishWhole l cause) :=
  State.publish_reaches l cause s

/-! ### Entry to RUN -/

theorem mem_stations (p : Station) : p ∈ stations := by
  cases p <;> decide

theorem linkLostCond_inj {p q : Station} : linkLostCond p = linkLostCond q ↔ p = q := by
  cases p <;> cases q <;> decide

theorem State.loseIfSync_lost (s : State) (p : Station) (h : (s.port p).state = .sync) :
    ((s.loseIfSync p).cond (linkLostCond p)).asserted = true := by
  rw [State.loseIfSync, if_pos h, State.asserted_setCond]

theorem State.cond_loseIfSync_ne (s : State) {p q : Station} (h : p ≠ q) :
    (s.loseIfSync q).cond (linkLostCond p) = s.cond (linkLostCond p) := by
  unfold State.loseIfSync
  split
  · exact State.cond_setCond_ne _ _ _ (linkLostCond_inj.not.2 h)
  · rfl

/-- Every port still in SYNC has its LINK_LOST record asserted (R32). -/
theorem State.foldl_loseIfSync_lost (s : State) {p : Station} (h : (s.port p).state = .sync) :
    ((stations.foldl State.loseIfSync s).cond (linkLostCond p)).asserted = true := by
  have port (t : State) (q : Station) : (t.loseIfSync q).port p = t.port p := State.port_congr (by simp) p
  refine foldl_each (σ := State)
    (P := fun p t => (t.port p).state = .sync → (t.cond (linkLostCond p)).asserted = true)
    (fun t q sync => ?_) (fun t q r lost sync => ?_) stations s p (mem_stations p) ?_
  · exact State.loseIfSync_lost t q (by rwa [State.port_congr (s := t) (by simp)] at sync)
  · rw [State.port_congr (s := t) (by simp)] at sync
    by_cases same : r = q
    · exact same ▸ State.loseIfSync_lost t r sync
    · rw [State.cond_loseIfSync_ne t same, lost sync]
  · rwa [State.port_congr (s := s) (by simp)]

theorem State.cond_markConds (s : State) (k : Fin 24) : s.markConds.cond k = (s.cond k).marked :=
  getElem_mapTable ..

/-- What RUN makes of a state with its roots settled: the envelope that the demands ask for, LINK_LOST for the ports in SYNC, and
the unsent flags (R126, R32, R54). -/
theorem EntersRun.of_settled {r : State} (run : r.device.state = .run) (window : r.device.configureWindow = none)
    (roots : RootsHold r) :
    EntersRun r (stations.foldl State.loseIfSync (r.publishWhole r.formedTarget (causeOf r.faults))).markConds := by
  obtain ⟨envelope, counter, target, relax, -⟩ := State.publishWhole_published r.formedTarget (causeOf r.faults) r
  have reaches := State.publishWhole_reaches r.formedTarget (causeOf r.faults) r
  have frame := State.publishWhole_frame r.formedTarget (causeOf r.faults) r
  generalize r.publishWhole r.formedTarget (causeOf r.faults) = u at *
  obtain ⟨device, config, -, -, faults, -, -, -, parked⟩ := frame
  have lost (p : Station) := State.foldl_loseIfSync_lost u (p := p)
  have rest : (stations.foldl State.loseIfSync u).device = u.device ∧
      (stations.foldl State.loseIfSync u).config = u.config ∧
      (stations.foldl State.loseIfSync u).ports = u.ports ∧
      (stations.foldl State.loseIfSync u).faults = u.faults ∧
      (stations.foldl State.loseIfSync u).ladder = u.ladder ∧
      (stations.foldl State.loseIfSync u).publication = u.publication := by simp
  generalize stations.foldl State.loseIfSync u = v at *
  obtain ⟨device', config', ports', faults', ladder', publication'⟩ := rest
  have entry (e : Fin 48) : v.entry e = r.entry e := State.entry_congr (by rw [faults', faults]) e
  refine ⟨?_, ?_, ?_, ⟨?_, ?_, ?_⟩, fun p => ?_, fun p sync => ?_, fun k => ?_, fun e active => ?_, fun e => ?_⟩
  · simp [device', device, run]
  · simp [device', device, window]
  · simp [publication', counter]
  · have formed : v.markConds.formedTarget = r.formedTarget :=
      State.formedTarget_congr (by simp [device', device]) (by simp [config', config]) (by simp [ladder', parked])
        (fun e => congrArg Entry.inForce (entry e)) (by simp [faults', faults])
    simp [formed, ladder', envelope, State.formEnvelope]
  · simp [ladder', target]
  · simp [ladder', relax]
  · exact (congrArg Port.state (State.port_congr ports' p)).trans (reaches.state p)
  · rw [State.cond_markConds]
    exact lost p ((reaches.state p).trans sync)
  · rw [State.cond_markConds]
    rfl
  · have root := roots run e
    have same : v.markConds.entry e = v.entry e := State.entry_congr (by simp) e
    rw [same] at active ⊢
    rw [← entry, if_pos active] at root
    simpa [config', config, faults', faults] using root
  · exact congrArg Entry.unrooted (entry e)

/-- Where the passage starts rests on the generation, the states of the ports, and the entries besides their roots. -/
theorem EntersRun.of_start {s r t : State} (h : EntersRun r t) (counter : r.publication.counter = s.publication.counter)
    (ports : ∀ p, (r.port p).state = (s.port p).state) (entries : ∀ e, (r.entry e).unrooted = (s.entry e).unrooted) :
    EntersRun s t :=
  ⟨h.state, h.window, h.generation.trans (by rw [counter]), h.whole, fun p => (h.ports p).trans (ports p),
    fun p sync => h.lost p ((ports p).trans sync), h.unsent, h.roots, fun e => (h.lifecycle e).trans (entries e)⟩

/-- R181. -/
theorem State.enterRun_enters (way : RunEntry) (s : State) : EntersRun s (s.enterRun way) := by
  let entered : State := { s with device := { s.device with state := .run, configureWindow := none, way := way } }
  have settled : EntersRun entered.settleRoots (s.enterRun way) :=
    .of_settled (by simp [entered]) (by simp [entered]) entered.settleRoots_roots
  refine settled.of_start (by simp [entered]) (fun p => ?_) (fun e => ?_)
  · rw [State.port_congr (s := s) (by simp [entered])]
  · rw [State.settleRoots_entry]
    rfl

theorem State.enterRun_reaches (way : RunEntry) (s : State) : s.PortsReached (s.enterRun way) := by
  let entered : State := { s with device := { s.device with state := .run, configureWindow := none, way := way } }
  have whole := State.publishWhole_reaches entered.settleRoots.formedTarget (causeOf entered.settleRoots.faults)
    entered.settleRoots
  exact (State.PortsReached.of_ports (by simp [entered])).trans (whole.trans (.of_ports (by simp [State.enterRun, entered])))

theorem State.enterRun_way (way : RunEntry) (s : State) :
    (s.enterRun way).device.way = way ∧ (s.enterRun way).device.check = s.device.check := by
  simp [State.enterRun]

/-- What is said of the end of the passage is kept by a change of no block but the ports, their states being kept. -/
theorem EntersRun.of_end {s t u : State} (ports : ∀ p, (u.port p).state = (t.port p).state)
    (rest : u = { t with ports := u.ports }) (h : EntersRun s t) : EntersRun s u := by
  rw [rest]
  exact ⟨h.state, h.window, h.generation, h.whole, fun p => (ports p).trans (h.ports p), h.lost, h.unsent, h.roots,
    h.lifecycle⟩

theorem State.counted_state (s : State) (p q : Station) : ((s.counted p).port q).state = (s.port q).state := by
  by_cases same : q = p
  · rw [same, State.counted_port]
  · rw [State.counted, State.port_modPort_ne _ _ same]

theorem State.addVerdict_state (p : Station) (v : Verdict) (s : State) (q : Station) :
    ((s.addVerdict p v).port q).state = (s.port q).state := by
  by_cases same : q = p
  · rw [same, State.addVerdict, State.port_modPort]
  · rw [State.addVerdict, State.port_modPort_ne _ _ same]

/-! ### COMMIT -/

theorem exec_commit_takes {p : Station} (payload : List Byte) {s : State} (takes : s.takes p) :
    exec (.commit p false payload) s = .next (((s.counted p).judgeCommit p payload).1.addVerdict p
      ((s.counted p).judgeCommit p payload).2) :=
  congrArg Host.Outcome.next (State.receipted_takes takes)

theorem exec_commit_refused {p : Station} {payload : List Byte} {v : Verdict} {s : State} (takes : s.takes p)
    (refused : (s.counted p).judgeCommit p payload = (s.counted p, v)) :
    exec (.commit p false payload) s = .next (s.answered p v) := by
  rw [exec_commit_takes payload takes, refused, State.counted_addVerdict]

/-- In CONFIGURE an empty COMMIT of RIDE is judged by the consistency checks (R180). -/
theorem State.judgeCommit_checks {p : Station} {s : State} (here : s.device.state = .configure) (ride : p = .ride) :
    s.judgeCommit p [] = s.judgeConsistency := by
  simp [State.judgeCommit, here, ride]

theorem State.judgeCommit_failed {p : Station} {s : State} {n : Nat} (here : s.device.state = .configure) (ride : p = .ride)
    (failed : firstFailed s.device.topology s.config = some n) :
    s.judgeCommit p [] = ({ s with device := { s.device with check := .failed n } }, .inconsistent) := by
  simp [State.judgeCommit_checks here ride, State.judgeConsistency, failed, State.recordCheck]

theorem State.judgeCommit_passed {p : Station} {s : State} (here : s.device.state = .configure) (ride : p = .ride)
    (passed : firstFailed s.device.topology s.config = none) :
    s.judgeCommit p [] = ((s.recordCheck none).enterRun .commit, .taken) := by
  simp [State.judgeCommit_checks here ride, State.judgeConsistency, passed]

/-- Settles O10: the checks one after the other, and RUN by `State.enterRun_enters`. -/
theorem commitIsJudgedInOrder : Obligations.CommitIsJudgedInOrder := by
  intro p payload s takes
  refine ⟨fun away => ?_, fun here full => ?_, fun here other => ?_, fun here ride n failed => ?_, fun here ride passed => ?_⟩
  · exact exec_commit_refused takes (if_pos away)
  · exact exec_commit_refused takes (by simp [State.judgeCommit, here, full])
  · exact exec_commit_refused takes (by simp [State.judgeCommit, here, other])
  · rw [exec_commit_takes [] takes, State.judgeCommit_failed (s := s.counted p) here ride failed]
    exact congrArg _ (State.counted_addVerdict { s with device := { s.device with check := .failed n } } p .inconsistent)
  · rw [exec_commit_takes [] takes, State.judgeCommit_passed (s := s.counted p) here ride passed]
    have enters := State.enterRun_enters .commit ((s.counted p).recordCheck none)
    have reaches := State.enterRun_reaches .commit ((s.counted p).recordCheck none)
    obtain ⟨way, check⟩ := State.enterRun_way .commit ((s.counted p).recordCheck none)
    have config : (((s.counted p).recordCheck none).enterRun .commit).config = s.config := by simp
    have recorded (q : Station) : (((s.counted p).recordCheck none).port q).state = (s.port q).state :=
      State.counted_state s p q
    have passes : ((s.counted p).recordCheck none).device.check = .passed := rfl
    generalize ((s.counted p).recordCheck none).enterRun .commit = t at *
    refine ⟨_, rfl, ?_, ?_, ?_, ?_, ?_⟩
    · exact .of_end (State.addVerdict_state p .taken t) rfl (enters.of_start rfl recorded fun e => rfl)
    · simp [config]
    · simpa using check.trans passes
    · simpa using way
    · have kept : (t.port p).verdicts = ((s.counted p).port p).verdicts := (reaches p).verdicts
      rw [State.addVerdict, State.port_modPort, kept, State.counted_port]

end Sys2Proof.Machine
end

section
/-!
PROOFS. The end of the configure window (R182): the defaults in force of the Self Monitor, and RUN.
-/
namespace Sys2Proof.Machine

open Sys2Proof

/-! ### Every slot reset -/

/-- `t` is `s` with every scan slot set up anew: its filter as after reset, its record withdrawn. -/
structure SlotsReset (s t : State) : Prop where
  filter : ∀ k, t.filter k = Filter.initial s.config.scan[k] s.config.enable
  slots : ∀ k, t.cond (slotCond k) = (s.cond (slotCond k)).withdrawn
  others : ∀ k, (∀ j, k ≠ slotCond j) → t.cond k = s.cond k
  comparator : t.monitor.comparator = s.monitor.comparator
  scanTimer : t.monitor.scanTimer = s.monitor.scanTimer
  config : t.config = s.config

theorem State.foldl_resetSlot (s : State) : SlotsReset s ((List.finRange 8).foldl (fun t k => t.resetSlot k) s) where
  filter k := by
    rw [foldl_pointwise (P := fun t => State.config t = s.config) (read := State.filter) (g := fun t k => State.resetSlot k t)
      (F := fun k _ => Filter.initial s.config.scan[k] s.config.enable) (fun t j h => by simp [h]) (fun _ _ => rfl)
      (fun t h j i => by
        rw [State.resetSlot_filter, h]
        by_cases same : i = j <;> simp [same]) _ rfl k, if_pos (List.mem_finRange k)]
  slots k := by
    rw [foldl_pointwise (P := fun _ => True) (read := fun t i => State.cond t (slotCond i))
      (g := fun t k => State.resetSlot k t) (F := fun _ c => c.withdrawn) (fun _ _ _ => trivial)
      (fun _ c => c.withdrawn_withdrawn) (fun t _ j i => by rw [State.resetSlot_cond]; simp only [slotCond_inj]) _ trivial k,
      if_pos (List.mem_finRange k)]
  others k other := foldl_keep (State.cond · k) (fun t j => (State.resetSlot_cond j k t).trans (if_neg (other j))) _ s
  comparator := foldl_keep (fun t : State => t.monitor.comparator) (fun t j => by simp [State.resetSlot, State.setFilter]) _ s
  scanTimer := foldl_keep (fun t : State => t.monitor.scanTimer) (fun t j => by simp [State.resetSlot, State.setFilter]) _ s
  config := foldl_keep State.config (fun t j => by simp) _ s

/-! ### The defaults -/

theorem slotCond_ne_eight (k : Fin 8) : (8 : Fin 24) ≠ slotCond k := by
  revert k
  decide

/-- What the Self Monitor makes of the defaults that are loaded over every record (R163). -/
theorem State.loadDefaults_monitored {mV : Nat} {s : State} {now : Bool} (takesUp : under s.monitor.comparator 38000 mV = now) :
    let c := topologyDefaults s.device.topology
    let t := s.loadDefaults mV
    (∀ k, k ≠ 8 → (∀ j, k ≠ slotCond j) → t.cond k = s.cond k) ∧
      (∀ k, t.filter k = Filter.initial c.scan[k] c.enable) ∧
      (∀ k, t.cond (slotCond k) = (s.cond (slotCond k)).withdrawn) ∧
      t.monitor.scanTimer = State.scanLeft s.config.timing.scanPeriod c.timing.scanPeriod s.monitor.scanTimer ∧
      t.monitor.comparator = now ∧ ((s.cond 8).asserted = s.monitor.comparator → (t.cond 8).marked =
        ⟨now, if now = true ∧ s.monitor.comparator = false then some 380 else (s.cond 8).detail, now⟩) := by
  intro c t
  let start := State.dropDisabled { s.writeTiming c.timing with config := c }
  obtain ⟨filter, slots, others, comparator, scanTimer, config⟩ := State.foldl_resetSlot start
  have takes := others 8 fun j => slotCond_ne_eight j
  have eq : t = ((List.finRange 8).foldl (fun t k => t.resetSlot k) start).compareLink mV := rfl
  generalize (List.finRange 8).foldl (fun t k => State.resetSlot k t) start = u at *
  have threshold : u.config.threshold = 3 := by rw [config]; rfl
  have running : u.monitor.comparator = s.monitor.comparator := comparator
  obtain ⟨monitor, kept, stays, moves⟩ := State.compareLink_spec (mV := mV) (s := u) (now := now)
    (by rw [running, threshold]; exact takesUp)
  rw [← eq] at monitor kept stays moves
  have eight : u.cond 8 = s.cond 8 := takes
  rw [running, eight] at stays moves
  refine ⟨fun k eight other => (kept k eight).trans (others k other), fun k => ?_, fun k => ?_, ?_, ?_,
    fun agrees => ?_⟩
  · rw [State.filter, monitor]
    exact filter k
  · rw [kept _ (slotCond_ne_eight k).symm]
    exact slots k
  · rw [monitor]
    exact scanTimer
  · rw [monitor]
  · by_cases same : now = s.monitor.comparator
    · rw [stays same, Cond.marked, agrees, same]
      cases s.monitor.comparator <;> rfl
    · rw [moves agrees same, threshold]
      cases now <;> cases held : s.monitor.comparator <;> simp_all [Cond.marked, thresholdDetail, thresholdVolts]

/-! ### RUN -/

/-- RUN touches no record but those of LINK_LOST, and fixes the flag of each (R32, R54). -/
theorem State.enterRun_cond (way : RunEntry) (s : State) {k : Fin 24} (other : ∀ p, k ≠ linkLostCond p) :
    (s.enterRun way).cond k = (s.cond k).marked := by
  have lost (t : State) (p : Station) : (t.loseIfSync p).cond k = t.cond k := by
    unfold State.loseIfSync
    split
    · exact State.cond_setCond_ne _ _ _ (other p)
    · rfl
  rw [State.enterRun, State.cond_markConds, foldl_keep (State.cond · k) lost]
  simp [State.cond]

theorem slotCond_ne_linkLostCond (k : Fin 8) (p : Station) : slotCond k ≠ linkLostCond p := by
  cases p <;> revert k <;> decide

/-- A condition that is set once RUN has been entered is unsent (R52). -/
theorem EntersRun.setCond {s t : State} (h : EntersRun s t) (k : Fin 24) (d : Option Detail) :
    EntersRun s (t.setCond k true d) := by
  have device : (t.setCond k true d).device = t.device := by simp
  have publication : (t.setCond k true d).publication = t.publication := by simp
  have ladder : (t.setCond k true d).ladder = t.ladder := by simp
  have formed : (t.setCond k true d).formedTarget = t.formedTarget := by simp [State.formedTarget]
  have config : (t.setCond k true d).config = t.config := by simp
  have faults : (t.setCond k true d).faults = t.faults := by simp
  have entry := State.entry_congr faults
  refine ⟨by rw [device, h.state], by rw [device, h.window], by rw [publication, h.generation],
    by rw [ladder, formed]; exact h.whole, fun p => ?_, fun p sync => ?_, fun j => ?_, fun e active => ?_,
    fun e => by rw [entry, h.lifecycle]⟩
  · rw [State.port_congr (s := t) (by simp), h.ports]
  · by_cases same : linkLostCond p = k
    · rw [same, State.asserted_setCond]
    · rw [State.cond_setCond_ne _ _ _ same, h.lost p sync]
  · by_cases same : j = k
    · rw [same, State.cond_setCond]
      split
      · exact h.unsent k
      · next off => simp [h.unsent, off]
    · rw [State.cond_setCond_ne _ _ _ same, h.unsent]
  · rw [entry] at active ⊢
    rw [h.roots e active, config, faults]

/-! ### The end of the window -/

theorem exec_configureWindowExpiry {s : State} (window : s.device.configureWindow.isSome = true) (mV : Nat) :
    exec (.configureWindowExpiry mV) s = .next (s.expireConfigure mV) := by
  obtain ⟨w, open_⟩ := Option.isSome_iff_exists.1 window
  simp [exec, execConfigureWindowExpiry, open_]

theorem State.expireConfigure_passed {s : State} (mV : Nat) (passed : firstFailed s.device.topology s.config = none) :
    s.expireConfigure mV = ((s.recordCheck none).enterRun .expiryPassed).setCond 23 true (some 0) := by
  simp [State.expireConfigure, passed]

theorem State.expireConfigure_failed {s : State} (mV : Nat) {n : Nat}
    (failed : firstFailed s.device.topology s.config = some n) : s.expireConfigure mV =
      (((s.recordCheck (some n)).loadDefaults mV).enterRun .expiryDefaults).setCond 23 true (some (BitVec.ofNat 16 n)) := by
  simp [State.expireConfigure, failed]

theorem incomplete_ne (p : Station) : (23 : Fin 24) ≠ linkLostCond p := by
  cases p <;> decide

theorem eight_ne_linkLostCond (p : Station) : (8 : Fin 24) ≠ linkLostCond p := by
  cases p <;> decide

theorem Cond.withdrawn_marked (c : Cond) : c.withdrawn.marked = ⟨false, c.detail, false⟩ := by
  rw [Cond.marked, Cond.withdrawn_asserted, Cond.withdrawn_detail]

theorem incomplete_ne_slotCond (k : Fin 8) : (23 : Fin 24) ≠ slotCond k := by
  revert k
  decide

/-- `t` has entered RUN by `way` from `s`, by way of the records and the Self Monitor of `d`, and CONFIG_INCOMPLETE is set with
this detail (R182). -/
structure EndsWindow (way : RunEntry) (detail : Detail) (s d t : State) : Prop where
  enters : EntersRun s t
  incomplete : t.cond 23 = ⟨true, some detail, true⟩
  conds : ∀ k, k ≠ 23 → (∀ p, k ≠ linkLostCond p) → t.cond k = (d.cond k).marked
  monitor : t.monitor = d.monitor
  config : t.config = d.config
  way : t.device.way = way
  check : t.device.check = d.device.check

/-- From a state that differs from `s` in its records, its check result and what the Self Monitor has made of them. -/
theorem EndsWindow.of_loaded (way : RunEntry) (detail : Detail) {s d : State} (publication : d.publication = s.publication)
    (ports : d.ports = s.ports) (faults : d.faults = s.faults) (off : (d.cond 23).asserted = false) :
    EndsWindow way detail s d ((d.enterRun way).setCond 23 true (some detail)) := by
  obtain ⟨entered, check⟩ := State.enterRun_way way d
  have enters := (State.enterRun_enters way d).of_start (s := s) (by rw [publication])
    (fun p => by rw [State.port_congr ports]) (fun e => by rw [State.entry_congr faults])
  refine ⟨enters.setCond .., ?_, fun k own other => ?_, by simp, by simp, by simpa using entered, by simpa using check⟩
  · simp [State.cond_setCond, State.enterRun_cond way d incomplete_ne, Cond.marked, off]
  · rw [State.cond_setCond_ne _ _ _ own, State.enterRun_cond way d other]

/-- Settles O9: RUN by `EndsWindow.of_loaded`, and the Self Monitor's part under the defaults by `State.loadDefaults_scan` and
`State.loadDefaults_monitored`. -/
theorem configureWindowExpiryEntersRun : Obligations.ConfigureWindowExpiryEntersRun := by
  intro s mV here window off
  refine ⟨_, exec_configureWindowExpiry window mV, ?_⟩
  cases checks : firstFailed s.device.topology s.config with
  | none =>
    have ends := EndsWindow.of_loaded .expiryPassed 0 (s := s) (d := s.recordCheck none) rfl rfl rfl off
    rw [State.expireConfigure_passed mV checks]
    generalize ((s.recordCheck none).enterRun .expiryPassed).setCond 23 true (some 0) = t at *
    exact ⟨ends.enters, by rw [ends.incomplete], by rw [ends.incomplete], by rw [ends.incomplete]; rfl,
      fun _ => ⟨ends.config, ends.check, ends.way, ends.monitor⟩, fun n failed => nomatch failed⟩
  | some n =>
    obtain ⟨scan, latest⟩ := State.loadDefaults_scan mV (s.recordCheck (some n))
    obtain ⟨others, filter, slots, timer, comparator, link⟩ :=
      State.loadDefaults_monitored (mV := mV) (s := s.recordCheck (some n)) rfl
    obtain ⟨device, ports, -, faults, -, -, publication, -⟩ := State.loadDefaults_frame mV (s.recordCheck (some n))
    have loaded := State.loadDefaults_config mV (s.recordCheck (some n))
    rw [State.expireConfigure_failed mV checks]
    generalize (s.recordCheck (some n)).loadDefaults mV = d at *
    have clear : (d.cond 23).asserted = false := by
      rw [others 23 (by decide) incomplete_ne_slotCond]
      exact off
    have ends := EndsWindow.of_loaded .expiryDefaults (BitVec.ofNat 16 n) (s := s) publication ports faults clear
    generalize (d.enterRun .expiryDefaults).setCond 23 true (some (BitVec.ofNat 16 n)) = t at *
    rw [← ends.config] at loaded
    rw [← loaded] at scan latest filter timer
    refine ⟨ends.enters, by rw [ends.incomplete], by rw [ends.incomplete],
      by rw [ends.incomplete]; rfl, by simp, ?_⟩
    rintro _ ⟨⟩
    rw [ends.monitor]
    refine ⟨loaded, ?_, ends.way, scan, latest, fun k => ⟨?_, ?_⟩, timer, comparator, fun agrees => ?_⟩
    · rw [ends.check, device]
      rfl
    · rw [State.filter, ends.monitor]
      exact filter k
    · rw [ends.conds _ (incomplete_ne_slotCond k).symm (slotCond_ne_linkLostCond k), slots, Cond.withdrawn_marked]
      rfl
    · rw [ends.conds 8 (by decide) eight_ne_linkLostCond]
      exact link agrees

end Sys2Proof.Machine
end

section
/-!
PROOFS. Entry to CONFIGURE (R177): Motion moved outside RUN, the ports woken, the Self Monitor started, and an envelope that is
published to nobody.
-/
namespace Sys2Proof.Machine

open Sys2Proof

/-! ### Motion outside RUN -/

/-- `t` is `s` with Motion moved outside RUN: PARKED told, conditions deasserted, and nothing else. -/
structure MovedAtRest (s t : State) : Prop where
  frame : t = { s with
    motion := t.motion
    ladder := { s.ladder with parked := t.ladder.parked }
    faults := { s.faults with parked := t.faults.parked }
    intake := { s.intake with conds := t.intake.conds } }
  detail : ∀ k, (t.cond k).detail = (s.cond k).detail

theorem MovedAtRest.refl (s : State) : MovedAtRest s s := ⟨rfl, fun _ => rfl⟩

theorem State.setCond_false_detail (k j : Fin 24) (s : State) : ((s.setCond k false none).cond j).detail = (s.cond j).detail := by
  rw [State.cond_setCond_false]
  split
  · exact Cond.withdrawn_detail _
  · rfl

theorem State.releaseMismatch_atRest (old m : Motion) (s : State) :
    MovedAtRest s (State.releaseMismatch old { s with motion := m }) := by
  unfold State.releaseMismatch
  split
  · split
    · next a _ _ =>
      obtain ⟨motion, -, frame⟩ := State.setCond_moved m (mismatchCond a) false none s
      exact ⟨by rw [frame], fun k => State.setCond_false_detail (mismatchCond a) k { s with motion := m }⟩
    · exact ⟨rfl, fun _ => rfl⟩
  · exact ⟨rfl, fun _ => rfl⟩

theorem State.moveMotion_atRest (m : Motion) {s : State} (rest : s.running = false) : MovedAtRest s (s.moveMotion m) := by
  have released := State.releaseMismatch_atRest s.motion
    (Motion.settleFrom s.device.topology s.config.timing s.motion m) s
  unfold State.moveMotion
  dsimp only
  generalize State.releaseMismatch _ _ = u at *
  split
  · exact released
  · have idle : ¬u.running = true := by rw [released.frame]; exact Bool.eq_false_iff.1 rest
    rw [State.reportParked, if_neg idle]
    exact ⟨by rw [released.frame], released.detail⟩

theorem State.motionPort_atRest (p : Station) {s : State} (rest : s.running = false) : MovedAtRest s (s.motionPort p) := by
  unfold State.motionPort
  split
  · exact State.moveMotion_atRest _ rest
  · exact .refl s

/-! ### The ports woken -/

theorem State.enterSync_atRest {s : State} {p : Station} (rest : s.running = false) (out : (s.port p).inExchange = false) :
    MovedAtRest (s.setPort p (s.port p).toSync) (s.enterSync p) := by
  simp only [State.enterSync, out]
  exact State.motionPort_atRest p rest

/-- The port that a passage to CONFIGURE leaves at a station (R19, R177). -/
def Port.woken (topo : Topology) (p : Station) (o : Port) : Port :=
  if topo.present p then o.toSync else o

theorem Port.woken_out {topo : Topology} {p : Station} {o : Port} (h : o.inExchange = false) :
    (o.woken topo p).inExchange = false := by
  unfold Port.woken
  split
  · rfl
  · exact h

/-- What the ports' waking keeps of `s`. -/
structure WakesFrom (s t : State) : Prop where
  device : t.device = s.device
  config : t.config = s.config
  out : ∀ p, (t.port p).inExchange = false
  publication : t.publication = s.publication
  pool : t.pool = s.pool
  entries : t.faults.entries = s.faults.entries
  overflow : t.faults.overflow = s.faults.overflow

theorem State.wakePort_port {s : State} (rest : s.running = false) (out : ∀ p, (s.port p).inExchange = false) (p q : Station) :
    (s.wakePort p).port q = if q = p then (s.port q).woken s.device.topology q else s.port q := by
  unfold State.wakePort Port.woken
  by_cases same : q = p
  · subst same
    rw [if_pos rfl]
    split
    · rw [(State.enterSync_atRest rest (out q)).frame]
      exact State.port_setPort ..
    · rfl
  · rw [if_neg same]
    split
    · rw [(State.enterSync_atRest rest (out p)).frame]
      exact State.port_setPort_ne _ _ same
    · rfl

theorem WakesFrom.wakePort {s t : State} (rest : s.running = false) (h : WakesFrom s t) (p : Station) :
    WakesFrom s (t.wakePort p) := by
  have idle : t.running = false := by rw [State.running, h.device]; exact rest
  have out (q : Station) : ((t.wakePort p).port q).inExchange = false := by
    rw [State.wakePort_port idle h.out]
    split
    · exact Port.woken_out (h.out q)
    · exact h.out q
  by_cases present : t.device.topology.present p = true
  · have woken : t.wakePort p = t.enterSync p := if_pos present
    have frame := (State.enterSync_atRest idle (h.out p)).frame
    rw [← woken] at frame
    constructor
    · rw [frame]; exact h.device
    · rw [frame]; exact h.config
    · exact out
    · rw [frame]; exact h.publication
    · rw [frame]; exact h.pool
    · rw [frame]; exact h.entries
    · rw [frame]; exact h.overflow
  · have same : t.wakePort p = t := if_neg present
    rwa [same]

theorem State.foldl_wakePort {s : State} (rest : s.running = false) (out : ∀ p, (s.port p).inExchange = false) :
    WakesFrom s (stations.foldl State.wakePort s) ∧
      ∀ p, (stations.foldl State.wakePort s).port p = (s.port p).woken s.device.topology p := by
  have start : WakesFrom s s := ⟨rfl, rfl, out, rfl, rfl, rfl, rfl⟩
  refine ⟨foldl_holds (WakesFrom s) (fun t p h => h.wakePort rest p) _ _ start, fun p => ?_⟩
  refine (foldl_pointwise (P := WakesFrom s) (read := State.port) (F := fun p o => o.woken s.device.topology p)
    (fun t q h => h.wakePort rest q) (fun q o => ?_) (fun t h q i => ?_) stations start p).trans (if_pos (mem_stations p))
  · unfold Port.woken
    split <;> rfl
  · rw [State.wakePort_port (by rw [State.running, h.device]; exact rest) h.out, h.device]

/-! ### An envelope that nobody is sent -/

theorem perStation_ext {α : Type} {a b : PerStation α} (h : ∀ p, a.get p = b.get p) : a = b := by
  obtain ⟨_, _, _, _⟩ := a
  obtain ⟨_, _, _, _⟩ := b
  exact PerStation.mk.injEq .. ▸ ⟨h .ride, h .front, h .rear, h .pack⟩

/-- A publication that is addressed to nobody is complete at once (R132, R120). -/
theorem State.publishWhole_unheard (l : Limits) (cause : Option (Fin 48)) {s : State} (nobody : ∀ p, s.addressed p = false) :
    let t := s.publishWhole l cause
    t.publication.members = ⟨false, false, false, false⟩ ∧ t.publication.complete = true ∧
      t.ladder.adopted = t.ladder.published ∧ t.lines = linesOf s.device.state l ∧ (∀ p, t.port p = s.port p) ∧
      ∀ p, (t.adoption p).owing = false ∧ (t.adoption p).window = .idle ∧ (t.adoption p).timer = none ∧
        (t.adoption p).unresponsive = (s.adoption p).unresponsive := by
  obtain ⟨published, -, members, complete, ports, adoptions, -, -, -, -, adopted, inForce, lines⟩ :=
    State.publish_spec l cause s
  have completes := complete.2 nobody
  rw [if_pos completes] at adopted
  rw [adopted] at inForce
  rw [inForce] at lines
  refine ⟨?_, completes, adopted.trans published.symm, lines.trans ?_, fun p => (ports p).trans ?_, fun p => ?_⟩
  · refine perStation_ext fun p => (members p).trans ((nobody p).trans ?_)
    cases p <;> rfl
  · exact congrArg (linesOf s.device.state) l.stricter_self
  · rw [nobody]
    rfl
  · have record : (s.publishWhole l cause).adoption p = _ := adoptions p
    rw [record, nobody]
    exact ⟨rfl, rfl, rfl, rfl⟩

/-! ### The Self Monitor started -/

/-- The comparator is taken afresh and a scan begins (R152, R160). -/
theorem State.startMonitor_monitor (mV : Nat) (s : State) :
    (s.startMonitor mV).monitor.comparator = decide (mV < thresholdMv s.config.threshold) ∧
      (s.startMonitor mV).monitor.scan = scanItems s.config ∧
      (s.startMonitor mV).monitor.scanTimer = some s.config.timing.scanPeriod := by
  obtain ⟨monitor, -⟩ := State.compareLink_spec (mV := mV)
    (s := { s with monitor := { s.monitor with comparator := false } }) rfl
  refine ⟨?_, ?_, ?_⟩
  · exact congrArg Monitor.comparator monitor
  · simp [State.startMonitor, State.beginScan]
  · simp [State.startMonitor, State.beginScan]

/-! ### Entry to CONFIGURE -/

/-- The device once CONFIGURE is entered (R177). -/
def Device.configured (d : Device) : Device :=
  { d with state := .configure, configureWindow := some configureWindowMs, check := .none, way := .notYet }

theorem linesOf_configure (topo : Topology) : linesOf .configure (Limits.configure topo) = ⟨true, true, false, false, 6⟩ := by
  cases topo <;> rfl

/-- R177: from OFFLINE, the ports woken, the Self Monitor started, and the configure envelope published. -/
theorem State.enterConfigure_enters (mV : Nat) {s : State} (asleep : ∀ p, (s.port p).state = .offline) :
    EntersConfigure s s.config s.device.topology mV (s.enterConfigure mV) ∧
      (s.enterConfigure mV).device = s.device.configured := by
  let configured : State := { s with device := s.device.configured }
  have silent (p : Station) : (s.port p).inExchange = false := by rw [Port.inExchange, asleep]
  obtain ⟨wakes, ports⟩ := State.foldl_wakePort (s := configured) rfl silent
  have eq : s.enterConfigure mV = ((stations.foldl State.wakePort configured).startMonitor mV).publishWhole
    (Limits.configure s.device.topology) none := rfl
  generalize stations.foldl State.wakePort configured = u at *
  obtain ⟨comparator, scan, scanTimer⟩ := State.startMonitor_monitor mV u
  have frame := State.startMonitor_frame mV u
  generalize u.startMonitor mV = v at *
  obtain ⟨device, config, same, pool, faults, -, -, publication, -⟩ := frame
  have port (p : Station) : v.port p = u.port p := State.port_congr same p
  have nobody (p : Station) : v.addressed p = false := by
    rw [State.addressed, port, wakes.out]
    exact Bool.and_false _
  obtain ⟨published, counter, target, relax, hold⟩ := State.publishWhole_published (Limits.configure s.device.topology) none v
  obtain ⟨members, complete, adopted, lines, placed, -⟩ := State.publishWhole_unheard (Limits.configure s.device.topology) none
    nobody
  have frame := State.publishWhole_frame (Limits.configure s.device.topology) none v
  rw [← eq] at *
  generalize s.enterConfigure mV = t at *
  obtain ⟨device', config', -, pool', faults', monitor, -⟩ := frame
  have entered : t.device = s.device.configured := by rw [device', device, wakes.device]
  have counted : t.publication.counter = State.nextGeneration s.publication.counter := by
    rw [counter, publication, wakes.publication]
  have portOf (p : Station) : t.port p = (s.port p).woken s.device.topology p := by rw [placed, port, ports]; rfl
  refine ⟨⟨?_, ?_, ?_, ?_, ?_, ?_, fun p present => ?_, fun p absent => ?_, counted, ⟨members, complete⟩, ⟨?_, ?_, ?_⟩,
    ⟨target, adopted, relax, hold⟩, ?_, ⟨?_, ?_⟩, ?_, ⟨?_, ?_, ?_⟩⟩, entered⟩
  · rw [entered]; rfl
  · rw [entered]; rfl
  · rw [entered]; rfl
  · rw [config', config, wakes.config]
  · rw [entered]; rfl
  · rw [entered]; rfl
  · rw [portOf, Port.woken, if_pos present]; rfl
  · rw [portOf, Port.woken, if_neg (by rw [absent]; decide)]
  · rw [published]; rfl
  · rw [published]; rfl
  · rw [published, counter]; rfl
  · rw [lines, device, wakes.device]
    exact linesOf_configure s.device.topology
  · rw [monitor, scan, wakes.config]
  · rw [monitor, scanTimer, wakes.config]
  · rw [monitor, comparator, wakes.config]
  · rw [faults', faults, wakes.entries]
  · rw [faults', faults, wakes.overflow]
  · rw [pool', pool, wakes.pool]

/-- Where the passage starts rests on the clock, the ports, the generation, the entries, the overflow map and the pool. -/
theorem EntersConfigure.of_start {s r t : State} {c : Tables} {topo : Topology} {mV : Nat}
    (h : EntersConfigure r c topo mV t) (clock : r.device.clock = s.device.clock) (ports : ∀ p, r.port p = s.port p)
    (publication : r.publication = s.publication) (faults : r.faults = s.faults) (pool : r.pool = s.pool) :
    EntersConfigure s c topo mV t :=
  { h with
    clock := h.clock.trans clock
    wakes := fun p present => by rw [h.wakes p present, ports]
    sleeps := fun p absent => by rw [h.sleeps p absent, ports]
    generation := by rw [h.generation, publication]
    entries := by rw [← faults, ← pool]; exact h.entries }

/-- The state in which RESET is left, before the KEY level is acted on (R175). -/
def State.latched (t : Topology) (key : Bool) (s : State) : State :=
  { s with
    device := { s.device with
      resetN := true, settled := true, topology := t, keyPin := key, keyLevel := key, state := .standby }
    config := topologyDefaults t
    ladder := { Ladder.reset t with parked := s.ladder.parked }
    monitor := Monitor.reset (topologyDefaults t) }

theorem exec_resetEnd_high {s : State} (here : s.device.state = .reset) (topo1 topo0 : Bool) (mV : Nat) :
    exec (.resetEnd topo1 topo0 true mV) s =
      .next ((s.latched (Topology.ofStraps topo1 topo0) true).enterConfigure mV) :=
  congrArg Host.Outcome.next (if_pos here)

/-- The state in which the debounced level takes the pin's (R176). -/
def State.debounced (s : State) : State :=
  { s with device := { s.device with debounce := none, keyLevel := s.device.keyPin } }

theorem exec_keyDebounceExpiry {s : State} (runs : s.device.debounce.isSome = true) (mV : Nat) :
    exec (.keyDebounceExpiry mV) s = .next (if s.device.keyPin then s.debounced.keyHigh mV else s.debounced.keyLow) := by
  obtain ⟨left, running⟩ := Option.isSome_iff_exists.1 runs
  simp [exec, execKeyDebounceExpiry, running, State.debounced]

/-- Settles O6: each way to CONFIGURE by `State.enterConfigure_enters`. -/
theorem keyHighEntersConfigure : Obligations.KeyHighEntersConfigure := by
  intro s mV asleep
  constructor
  · intro topo1 topo0 here
    obtain ⟨enters, device⟩ :=
      State.enterConfigure_enters mV (s := s.latched (Topology.ofStraps topo1 topo0) true) asleep
    exact ⟨_, exec_resetEnd_high here topo1 topo0 mV, enters.of_start rfl (fun _ => rfl) rfl rfl rfl, by rw [device]; rfl⟩
  · intro here runs high
    obtain ⟨enters, device⟩ := State.enterConfigure_enters mV (s := s.debounced) asleep
    have wakes : s.debounced.keyHigh mV = s.debounced.enterConfigure mV := by
      simp [State.keyHigh, State.debounced, here]
    refine ⟨_, exec_keyDebounceExpiry runs mV, ?_⟩
    rw [if_pos high, wakes, device]
    exact ⟨enters.of_start rfl (fun _ => rfl) rfl rfl rfl, high, rfl⟩

end Sys2Proof.Machine
end

section
/-!
PROOFS. Assemblies that end (R47, R57) and ports that go OFFLINE (R19): what both leave of the long slots, the buffers and the
entries, a port or several at once.
-/
namespace Sys2Proof.Machine

open Sys2Proof

/-! ### Assemblies that end -/

/-- A long slot whose assembly, if it holds one, has ended (R47, R48). -/
def LongSlot.ended (x : LongSlot) : LongSlot :=
  match x.assembly with
  | none => x
  | some a => ⟨none, if a.buffer.isSome then .truncated else .dropped⟩

theorem LongSlot.ended_of_none {x : LongSlot} (h : x.assembly = none) : x.ended = x := by
  simp [LongSlot.ended, h]

theorem LongSlot.ended_of_some {x : LongSlot} {a : Assembly} (h : x.assembly = some a) :
    x.ended = ⟨none, if a.buffer.isSome then .truncated else .dropped⟩ := by
  simp [LongSlot.ended, h]

theorem LongSlot.ended_assembly (x : LongSlot) : x.ended.assembly = none := by
  cases h : x.assembly with
  | none => rw [LongSlot.ended_of_none h, h]
  | some a => rw [LongSlot.ended_of_some h]

/-- An entry whose snapshot has been truncated (R47). -/
def Entry.bereft (x : Entry) : Entry := { x with snapshot := none, snapshotLost := true }

/-- The assemblies of the ports in `done` have ended: their slots are FREE, their buffers are FREE, and the entries that named
these have lost their snapshots; every other slot, buffer and entry is as before (R43, R47). -/
structure AssembliesEnded (done : Station → Prop) (s t : State) : Prop where
  ended : ∀ p, done p → t.slot p = (s.slot p).ended
  running : ∀ p, ¬done p → t.slot p = s.slot p
  freed : ∀ b p, (s.buffer b).writer = some p → done p → t.buffer b = Buffer.free
  spared : ∀ b, (∀ p, (s.buffer b).writer = some p → ¬done p) → t.buffer b = s.buffer b
  lost : ∀ e b p, (s.entry e).snapshot = some b → (s.buffer b).writer = some p → done p → t.entry e = (s.entry e).bereft
  held : ∀ e, (∀ b p, (s.entry e).snapshot = some b → (s.buffer b).writer = some p → ¬done p) → t.entry e = s.entry e

namespace AssembliesEnded

variable {done done' : Station → Prop} {s t u : State}

/-- An operation that leaves slots, buffers and entries ends no assembly. -/
theorem of_eq (hs : t.intake.slots = s.intake.slots) (hp : t.pool = s.pool) (he : t.faults.entries = s.faults.entries) :
    AssembliesEnded (fun _ => False) s t where
  ended _ h := h.elim
  running p _ := by rw [State.slot, hs, State.slot]
  freed _ _ _ h := h.elim
  spared b _ := State.buffer_congr hp b
  lost _ _ _ _ _ h := h.elim
  held e _ := by rw [State.entry, he, State.entry]

theorem trans (h : AssembliesEnded done s t) (g : AssembliesEnded done' t u) :
    AssembliesEnded (fun p => done p ∨ done' p) s u where
  ended p either := by
    by_cases first : done p
    · by_cases again : done' p
      · rw [g.ended p again, h.ended p first, LongSlot.ended_of_none (LongSlot.ended_assembly _)]
      · rw [g.running p again, h.ended p first]
    · rw [g.ended p (either.resolve_left first), h.running p first]
  running p neither := by
    obtain ⟨first, later⟩ := not_or.1 neither
    rw [g.running p later, h.running p first]
  freed b p writer either := by
    by_cases first : done p
    · have free := h.freed b p writer first
      rw [g.spared b (by simp [free, Buffer.free]), free]
    · refine g.freed b p ?_ (either.resolve_left first)
      rwa [h.spared b (by rintro q hq; cases writer.symm.trans hq; exact first)]
  spared b neither := by
    have same := h.spared b fun p writer => (not_or.1 (neither p writer)).1
    rw [g.spared b (by rw [same]; exact fun p writer => (not_or.1 (neither p writer)).2), same]
  lost e b p named writer either := by
    by_cases first : done p
    · have bereft := h.lost e b p named writer first
      rw [g.held e (by simp [bereft, Entry.bereft]), bereft]
    · have spared := h.spared b (by rintro q hq; cases writer.symm.trans hq; exact first)
      have held := h.held e (by rintro c q hc hq; cases named.symm.trans hc; cases writer.symm.trans hq; exact first)
      rw [g.lost e b p (by rw [held, named]) (by rw [spared, writer]) (either.resolve_left first), held]
  held e neither := by
    have same := h.held e fun b p named writer => (not_or.1 (neither b p named writer)).1
    rw [g.held e ?_, same]
    intro b p named writer
    rw [same] at named
    by_cases first : ∃ q, (s.buffer b).writer = some q ∧ done q
    · obtain ⟨q, hq, hd⟩ := first
      exact absurd (.inl hd) (neither b q named hq)
    · have spared := h.spared b fun q hq hd => first ⟨q, hq, hd⟩
      rw [spared] at writer
      exact (not_or.1 (neither b p named writer)).2

/-- The ports whose assemblies have ended, said another way. -/
theorem of_iff (h : AssembliesEnded done s t) (same : ∀ p, done p ↔ done' p) : AssembliesEnded done' s t := by
  rwa [← funext fun p => propext (same p)]

end AssembliesEnded

/-- The entry that names a buffer loses it, and no other entry does (R47). -/
theorem State.entry_dropOwner {s : State} (named : SnapshotsNamed s) (b : Fin 8) (e : Fin 48) :
    (s.dropOwner b).entry e = if (s.entry e).snapshot = some b then (s.entry e).bereft else s.entry e := by
  simp only [(named.1 e b)]
  unfold State.dropOwner
  split
  · next owner => simp [owner, State.entry]
  · next i owner =>
    rw [State.loseSnapshot, State.entry_setEntry_eq, owner]
    by_cases same : e = i
    · simp [same, Entry.bereft]
    · simp [same, Ne.symm same]
  · next owner => simp [owner]

/-- Truncating a port's assembly ends it and no other (R47, R48). -/
theorem State.truncate_ended {s : State} (fit : SnapshotsFit s) (named : SnapshotsNamed s) (p : Station) :
    AssembliesEnded (fun q => q = p) s (s.truncate p) := by
  cases open' : (s.slot p).assembly with
  | none =>
    have unwritten := fit.not_writer (p := p) (by simp [open'])
    rw [State.truncate_free open']
    refine ⟨?_, fun _ _ => rfl, ?_, fun _ _ => rfl, ?_, fun _ _ => rfl⟩
    · rintro q rfl
      exact (LongSlot.ended_of_none open').symm
    · rintro b q writer rfl
      exact absurd writer (unwritten b)
    · rintro e b q - writer rfl
      exact absurd writer (unwritten b)
  | some a =>
    cases buffer : a.buffer with
    | none =>
      have unwritten := fit.not_writer (p := p) (by simp [open', buffer])
      rw [State.truncate_unnamed open' buffer]
      refine ⟨?_, fun q other => State.slot_setSlot_ne _ _ other, ?_, fun _ _ => rfl, ?_, fun _ _ => rfl⟩
      · rintro q rfl
        rw [State.slot_setSlot, LongSlot.ended_of_some open', buffer]
        rfl
      · rintro b q writer rfl
        exact absurd writer (unwritten b)
      · rintro e b q - writer rfl
        exact absurd writer (unwritten b)
    | some b =>
      obtain ⟨writes, only⟩ := fit.writer open' buffer
      obtain ⟨slot, free, others⟩ := State.truncate_buffers open' buffer
      have entry (e : Fin 48) : (s.truncate p).entry e = (s.dropOwner b).entry e :=
        State.entry_congr (State.truncate_owner open' buffer).2 e
      refine ⟨?_, fun q other => ?_, ?_, fun c idle => ?_, ?_, fun e idle => ?_⟩
      · rintro q rfl
        rw [slot, LongSlot.ended_of_some open', buffer]
        rfl
      · have freed := State.freeBuffer_freed b (s.dropOwner b)
        rw [State.truncate_named open' buffer, State.endAssembly, State.slot_setSlot_ne _ _ other, freed.slots q ?_]
        · simp [State.slot]
        · rintro c rfl writer
          rw [State.buffer_congr (State.dropOwner_pool c s), writes] at writer
          exact other (Option.some.inj writer).symm
      · rintro c q writer rfl
        rw [only c writer, free]
        rfl
      · exact others c fun same => idle p (same ▸ writes) rfl
      · rintro e c q names writer rfl
        rw [entry, State.entry_dropOwner named, if_pos (by rw [names, only c writer])]
      · rw [entry, State.entry_dropOwner named, if_neg fun names => idle b p names writes rfl]

/-! ### A passage that ends assemblies -/

/-- `t` has come from `s`, outside RUN, by ports that go OFFLINE and assemblies that end: the ports in `done` have had theirs
ended. -/
structure Parting (done : Station → Prop) (s t : State) : Prop where
  device : t.device = s.device
  config : t.config = s.config
  monitor : t.monitor = s.monitor
  counter : t.publication.counter = s.publication.counter
  detail : ∀ k, (t.cond k).detail = (s.cond k).detail
  idle : t.faults.applying = none
  fit : SnapshotsFit t
  owned : BuffersOwned t
  ends : AssembliesEnded done s t

namespace Parting

variable {done done' : Station → Prop} {s t u : State}

theorem refl {s : State} (idle : s.faults.applying = none) (fit : SnapshotsFit s) (owned : BuffersOwned s) :
    Parting (fun _ => False) s s :=
  ⟨rfl, rfl, rfl, rfl, fun _ => rfl, idle, fit, owned, .of_eq rfl rfl rfl⟩

theorem trans (h : Parting done s t) (g : Parting done' t u) : Parting (fun p => done p ∨ done' p) s u :=
  ⟨g.device.trans h.device, g.config.trans h.config, g.monitor.trans h.monitor, g.counter.trans h.counter,
    fun k => (g.detail k).trans (h.detail k), g.idle, g.fit, g.owned, h.ends.trans g.ends⟩

/-- One more step, as the slots, the buffers and the entries stand. -/
theorem truncate (h : Parting done s t) (p : Station) : Parting (fun q => done q ∨ q = p) s (t.truncate p) := by
  have named := ((buffersOwned_iff t).1 h.owned).1
  exact h.trans ⟨by simp, by simp, by simp, by simp, fun k => by simp [State.cond], State.truncate_applying p h.idle,
    h.fit.truncate p, (PoolMoves.truncate p t).ownedKept h.owned, State.truncate_ended h.fit named p⟩

/-- A step that ends no assembly. -/
theorem step (h : Parting done s t) (device : u.device = t.device) (config : u.config = t.config)
    (monitor : u.monitor = t.monitor) (counter : u.publication.counter = t.publication.counter)
    (detail : ∀ k, (u.cond k).detail = (t.cond k).detail) (slots : u.intake.slots = t.intake.slots)
    (queues : u.intake.queues = t.intake.queues) (pool : u.pool = t.pool) (entries : u.faults.entries = t.faults.entries)
    (applying : u.faults.applying = t.faults.applying) : Parting done s u := by
  have kept : PoolKept t u := .of_frame pool slots queues applying entries
  have ends := h.ends.trans (.of_eq slots pool entries)
  exact ⟨device.trans h.device, config.trans h.config, monitor.trans h.monitor, counter.trans h.counter,
    fun k => (detail k).trans (h.detail k), applying.trans h.idle, kept.fit h.fit, kept.ownedKept h.owned,
    ends.of_iff fun p => by simp⟩

/-- Motion is told of a port outside RUN (R164). -/
theorem motionPort (h : Parting done s t) (rest : t.running = false) (p : Station) : Parting done s (t.motionPort p) := by
  obtain ⟨frame, detail⟩ := State.motionPort_atRest p rest
  generalize t.motionPort p = u at *
  exact h.step (by rw [frame]) (by rw [frame]) (by rw [frame]) (by rw [frame]) detail (by rw [frame]) (by rw [frame])
    (by rw [frame]) (by rw [frame]) (by rw [frame])

/-- A port goes OFFLINE (R19). -/
theorem portOff (h : Parting done s t) (rest : t.running = false) (p : Station) :
    ∃ more, Parting more s (t.portOff p) := by
  have moved : Parting done s (t.setPort p (t.port p).toOffline) := h.step rfl rfl rfl rfl (fun _ => rfl) rfl rfl rfl rfl rfl
  unfold State.portOff State.enterOffline
  dsimp only
  split
  · exact ⟨_, h⟩
  · split
    · have cut := moved.truncate p
      have left : Parting _ s ((t.setPort p (t.port p).toOffline).leaveExchange p) := cut.step (by simp [State.leaveExchange])
        (by simp [State.leaveExchange]) (by simp [State.leaveExchange]) (by simp [State.leaveExchange])
        (fun _ => by simp [State.leaveExchange, State.cond]) (by simp [State.leaveExchange]) (by simp [State.leaveExchange])
        (by simp [State.leaveExchange]) (by simp [State.leaveExchange]) (by simp [State.leaveExchange])
      exact ⟨_, left.motionPort (by rw [State.running, left.device, ← h.device]; exact rest) p⟩
    · exact ⟨_, moved.motionPort rest p⟩

end Parting

/-! ### Every port, and every assembly -/

/-- Ports that go OFFLINE one after another, outside RUN. -/
theorem Parting.portsOff (l : List Station) {done : Station → Prop} {s t : State} (h : Parting done s t)
    (rest : s.running = false) : ∃ more, Parting more s (l.foldl State.portOff t) := by
  induction l generalizing done t with
  | nil => exact ⟨_, h⟩
  | cons p l ih =>
    obtain ⟨more, moved⟩ := h.portOff (by rw [State.running, h.device]; exact rest) p
    exact ih moved

/-- Assemblies that end one after another. -/
theorem Parting.endSlots (l : List Station) {done : Station → Prop} {s t : State} (h : Parting done s t) :
    Parting (fun p => done p ∨ p ∈ l) s (l.foldl State.endSlot t) := by
  induction l generalizing done t with
  | nil => simpa using h
  | cons p l ih =>
    have rest := ih (h.truncate p)
    exact { rest with ends := rest.ends.of_iff fun q => by rw [List.mem_cons, or_assoc] }

/-- At key-off every assembly has ended once Intake is done with the slots (R19, R57). -/
theorem State.partAll {s : State} (rest : s.running = false) (idle : s.faults.applying = none) (fit : SnapshotsFit s)
    (owned : BuffersOwned s) :
    Parting (fun _ => True) s (stations.foldl State.endSlot (stations.foldl State.portOff s)) := by
  obtain ⟨done, off⟩ := (Parting.refl idle fit owned).portsOff stations rest
  have parted := off.endSlots stations
  exact { parted with ends := parted.ends.of_iff fun p => by simp [mem_stations] }

/-- The port that OFFLINE leaves (R19). -/
def Port.parted (o : Port) : Port :=
  if o.state = .offline then o else o.toOffline

theorem Port.parted_parted (o : Port) : o.parted.parted = o.parted := by
  unfold Port.parted
  split
  · rfl
  · exact if_pos rfl

theorem State.portOff_port {s : State} (rest : s.running = false) (p q : Station) :
    (s.portOff p).port q = if q = p then (s.port q).parted else s.port q := by
  have told (u : State) (idle : u.device = s.device) : (u.motionPort p).port q = u.port q := by
    rw [(State.motionPort_atRest p (s := u) (by rw [State.running, idle]; exact rest)).frame]
    rfl
  have moved (o : Port) : (s.setPort p o).port q = if q = p then o else s.port q := by
    split
    · next same => rw [same, State.port_setPort]
    · next other => exact State.port_setPort_ne _ _ other
  unfold State.portOff State.enterOffline Port.parted
  dsimp only
  by_cases off : (s.port p).state = .offline
  · rw [if_pos off]
    by_cases same : q = p <;> simp [same, off]
  · rw [if_neg off, told _ (by split <;> simp [State.leaveExchange])]
    have left (u : State) : (u.leaveExchange p).port q = u.port q := State.port_congr (by simp [State.leaveExchange]) q
    have same : (if (s.port p).inExchange then (s.setPort p (s.port p).toOffline).leaveExchange p
        else s.setPort p (s.port p).toOffline).port q = (s.setPort p (s.port p).toOffline).port q := by
      split
      · exact left _
      · rfl
    rw [same, moved]
    by_cases here : q = p
    · subst here
      simp [off]
    · simp [here]

/-- Every port at key-off (R19). -/
theorem State.foldl_portOff_port {s : State} (rest : s.running = false) (p : Station) :
    (stations.foldl State.portOff s).port p = (s.port p).parted := by
  refine (foldl_pointwise (P := fun t : State => t.device = s.device) (read := State.port) (F := fun _ o => o.parted)
    (fun t q h => (by simpa using h)) (fun _ => Port.parted_parted) (fun t h q i => ?_) stations rfl p).trans
    (if_pos (mem_stations p))
  exact State.portOff_port (by rw [State.running, h]; exact rest) q i

end Sys2Proof.Machine
end

section
/-!
PROOFS. Key-off (R184): what the purges of Intake (R57) and of the Fault Table (R80) leave once no assembly runs, and what the
passage to STANDBY leaves of every block.
-/
namespace Sys2Proof.Machine

open Sys2Proof

/-! ### Buffers freed while no assembly runs -/

/-- No long slot holds an assembly. -/
def State.unassembled (s : State) : Prop := ∀ p, (s.slot p).assembly = none

theorem State.freeBuffer_unassembled {s : State} (h : s.unassembled) (b : Fin 8) :
    s.freeBuffer b = s.setBuffer b Buffer.free := by
  unfold State.freeBuffer
  split
  · next p _ => simp [State.detach, h p]
  · rfl

theorem State.unassembled_congr {s t : State} (slots : t.intake.slots = s.intake.slots) (h : s.unassembled) : t.unassembled :=
  fun p => by rw [State.slot, slots]; exact h p

/-- A buffer after the short queues have been emptied (R43, R57). -/
def Buffer.unbound (x : Buffer) : Buffer :=
  match x.owner with
  | .pending _ => Buffer.free
  | .free | .entry _ => x

theorem Buffer.unbound_unbound (x : Buffer) : x.unbound.unbound = x.unbound := by
  cases owner : x.owner <;> simp [Buffer.unbound, owner, Buffer.free]

theorem Buffer.unbound_of_settled {x : Buffer} (h : x.owner.reports = 0) : x.unbound = x := by
  cases owner : x.owner with
  | pending p => rw [owner] at h; cases h
  | free | entry => simp [Buffer.unbound, owner]

theorem State.freeIfPending_unassembled {s : State} (h : s.unassembled) (b : Fin 8) :
    s.freeIfPending b = { s with pool := (s.freeIfPending b).pool } ∧
      ∀ c, (s.freeIfPending b).buffer c = if c = b then (s.buffer c).unbound else s.buffer c := by
  unfold State.freeIfPending
  split
  · next p owner =>
    rw [State.freeBuffer_unassembled h]
    refine ⟨rfl, fun c => ?_⟩
    rw [State.buffer_setBuffer_eq]
    by_cases same : c = b
    · simp [same, Buffer.unbound, owner]
    · simp [same]
  · next owner =>
    refine ⟨rfl, fun c => ?_⟩
    by_cases same : c = b
    · simp [same, Buffer.unbound, owner]
    · simp [same]
  · next e owner =>
    refine ⟨rfl, fun c => ?_⟩
    by_cases same : c = b
    · simp [same, Buffer.unbound, owner]
    · simp [same]

/-- Every PENDING buffer becomes FREE, and nothing else changes (R43, R57). -/
theorem State.foldl_freeIfPending {s : State} (h : s.unassembled) :
    (List.finRange 8).foldl State.freeIfPending s =
        { s with pool := ((List.finRange 8).foldl State.freeIfPending s).pool } ∧
      ∀ b, ((List.finRange 8).foldl State.freeIfPending s).buffer b = (s.buffer b).unbound := by
  have kept (t : State) (b : Fin 8) (ht : t = { s with pool := t.pool }) :
      t.freeIfPending b = { s with pool := (t.freeIfPending b).pool } := by
    rw [(State.freeIfPending_unassembled (State.unassembled_congr (by rw [ht]) h) b).1, ht]
  refine ⟨foldl_holds (fun t : State => t = { s with pool := t.pool }) kept _ s rfl, fun b => ?_⟩
  exact (foldl_pointwise (read := State.buffer) (F := fun _ x => x.unbound) kept (fun _ => Buffer.unbound_unbound)
    (fun t ht c i => (State.freeIfPending_unassembled (State.unassembled_congr (by rw [ht]) h) c).2 i) _ rfl b).trans
    (if_pos (List.mem_finRange b))

/-! ### The Fault Table's purge -/

/-- An entry after key-off (R80). -/
def Entry.purged (x : Entry) : Entry :=
  if x.state = .latched then { x with present := SourceSet.empty, root := none, timer := .none } else Entry.free

theorem Entry.purged_purged (x : Entry) : x.purged.purged = x.purged := by
  unfold Entry.purged
  split <;> rfl

theorem State.purgeEntry_entry (e i : Fin 48) (s : State) :
    (s.purgeEntry e).entry i = if i = e then (s.entry i).purged else s.entry i := by
  unfold State.purgeEntry Entry.purged
  by_cases latched : (s.entry e).state = .latched
  · rw [if_pos latched, State.entry_setEntry_eq]
    by_cases same : i = e <;> simp [same, latched]
  · rw [if_neg latched, State.entry_freeEntry]
    by_cases same : i = e <;> simp [same, latched]

/-- A purged entry takes its snapshot with it unless it is LATCHED (R59, R80). -/
theorem State.purgeEntry_buffer (e : Fin 48) (b : Fin 8) (s : State) :
    ((s.entry e).state ≠ .latched → (s.entry e).snapshot = some b → (s.purgeEntry e).buffer b = Buffer.free) ∧
      ((s.entry e).state = .latched ∨ (s.entry e).snapshot ≠ some b → (s.purgeEntry e).buffer b = s.buffer b) := by
  have freed := State.freeSnapshot_freed (s.entry e).snapshot s
  unfold State.purgeEntry
  split
  · next latched => exact ⟨fun other => absurd latched other, fun _ => rfl⟩
  · next other => exact ⟨fun _ => freed.free b, fun either => freed.spared b (either.resolve_left other)⟩

theorem State.purgeEntry_unassembled {s : State} (h : s.unassembled) (e : Fin 48) :
    (s.purgeEntry e).intake = s.intake := by
  unfold State.purgeEntry
  split
  · rfl
  · unfold State.freeEntry State.freeSnapshot
    split
    · rw [State.freeBuffer_unassembled h]
      rfl
    · rfl

theorem State.foldl_purgeEntry_intake {s : State} (h : s.unassembled) :
    ((List.finRange 48).foldl (fun t e => State.purgeEntry e t) s).intake = s.intake :=
  foldl_holds (fun t : State => t.intake = s.intake)
    (fun t e ht => (State.purgeEntry_unassembled (State.unassembled_congr (by rw [ht]) h) e).trans ht) _ s rfl

theorem State.foldl_purgeEntry_entry (s : State) (e : Fin 48) :
    ((List.finRange 48).foldl (fun t e => State.purgeEntry e t) s).entry e = (s.entry e).purged :=
  (foldl_pointwise (P := fun _ : State => True) (read := State.entry) (g := fun t e => State.purgeEntry e t)
    (F := fun _ x => x.purged) (fun _ _ _ => trivial) (fun _ => Entry.purged_purged)
    (fun t _ e i => State.purgeEntry_entry e i t) _ trivial e).trans (if_pos (List.mem_finRange e))

theorem Entry.purged_snapshot {x : Entry} {b : Fin 8} (named : x.purged.snapshot = some b) :
    x.state = .latched ∧ x.snapshot = some b := by
  unfold Entry.purged at named
  split at named
  · next latched => exact ⟨latched, named⟩
  · cases named

/-- A buffer that no entry but a LATCHED one names is as before. -/
theorem State.foldl_purgeEntry_spared {s : State} {b : Fin 8}
    (spared : ∀ e, (s.entry e).state = .latched ∨ (s.entry e).snapshot ≠ some b) :
    ((List.finRange 48).foldl (fun t e => State.purgeEntry e t) s).buffer b = s.buffer b := by
  refine (foldl_holds
    (fun t : State => t.buffer b = s.buffer b ∧ ∀ e, (t.entry e).state = .latched ∨ (t.entry e).snapshot ≠ some b)
    (fun t e ⟨same, others⟩ => ⟨?_, fun i => ?_⟩) _ s ⟨rfl, spared⟩).1
  · rw [(State.purgeEntry_buffer e b t).2 (others e), same]
  · rw [State.purgeEntry_entry]
    split
    · by_cases named : (t.entry i).purged.snapshot = some b
      · left
        rw [Entry.purged, if_pos (Entry.purged_snapshot named).1]
        exact (Entry.purged_snapshot named).1
      · exact .inr named
    · exact others i

/-- The snapshot of an entry that is not LATCHED is freed with it. -/
theorem State.foldl_purgeEntry_freed {s : State} {e : Fin 48} {b : Fin 8} (other : (s.entry e).state ≠ .latched)
    (named : (s.entry e).snapshot = some b) :
    ((List.finRange 48).foldl (fun t e => State.purgeEntry e t) s).buffer b = Buffer.free := by
  have gone := State.foldl_purgeEntry_entry s e
  rw [Entry.purged, if_neg other] at gone
  have kept (t : State) (i : Fin 48) (h : (t.entry e).state ≠ .latched ∧
      ((t.entry e).snapshot = some b ∨ t.buffer b = Buffer.free)) : ((t.purgeEntry i).entry e).state ≠ .latched ∧
      (((t.purgeEntry i).entry e).snapshot = some b ∨ (t.purgeEntry i).buffer b = Buffer.free) := by
    obtain ⟨still, either⟩ := h
    obtain ⟨freed, spared⟩ := State.purgeEntry_buffer i b t
    rw [State.purgeEntry_entry]
    constructor
    · split
      · rw [Entry.purged, if_neg still]
        decide
      · exact still
    · by_cases latched : (t.entry i).state = .latched
      · rw [spared (.inl latched), if_neg fun same : e = i => still (same ▸ latched)]
        exact either
      · by_cases names : (t.entry i).snapshot = some b
        · exact .inr (freed latched names)
        · rw [spared (.inr names)]
          refine either.imp_left fun own => ?_
          rwa [if_neg fun same : e = i => names (same ▸ own)]
  obtain ⟨-, names | free⟩ := foldl_holds (fun t : State => (t.entry e).state ≠ .latched ∧
    ((t.entry e).snapshot = some b ∨ t.buffer b = Buffer.free)) kept (List.finRange 48) s ⟨other, .inl named⟩
  · rw [gone] at names
    cases names
  · exact free

/-! ### The blocks swept -/

/-- What stands of the pool and the entries of `s`, whose assemblies all end, after both purges (R43, R47, R57, R80). -/
structure PoolSwept (s t : State) : Prop where
  gone : ∀ e, (s.entry e).state ≠ .latched → t.entry e = Entry.free
  kept : ∀ e, (s.entry e).state = .latched → (∀ b, (s.entry e).snapshot = some b → (s.buffer b).writer = none) →
    t.entry e = (s.entry e).purged ∧ ∀ b, (s.entry e).snapshot = some b → t.buffer b = s.buffer b
  stripped : ∀ e b p, (s.entry e).state = .latched → (s.entry e).snapshot = some b → (s.buffer b).writer = some p →
    t.entry e = (s.entry e).bereft.purged
  free : ∀ b, (s.buffer b).owner = .free → t.buffer b = s.buffer b
  freed : ∀ b, (s.buffer b).owner ≠ .free →
    (∀ e, (s.buffer b).owner = .entry e → (s.entry e).state = .latched → (s.buffer b).writer ≠ none) →
    t.buffer b = Buffer.free

/-- An entry is LATCHED as before, whether it has lost its snapshot or not. -/
theorem AssembliesEnded.entry_state {done : Station → Prop} {s t : State} (h : AssembliesEnded done s t) (e : Fin 48) :
    (t.entry e).state = (s.entry e).state := by
  by_cases cut : ∃ b p, (s.entry e).snapshot = some b ∧ (s.buffer b).writer = some p ∧ done p
  · obtain ⟨b, p, named, writer, ended⟩ := cut
    rw [h.lost e b p named writer ended]
    rfl
  · rw [h.held e fun b p named writer ended => cut ⟨b, p, named, writer, ended⟩]

/-- Both purges, from the state `u` in which every assembly has ended. -/
theorem PoolSwept.of_ended {s u t : State} (fit : SnapshotsFit s) (named : SnapshotsNamed s) (still : SnapshotsNamed u)
    (h : AssembliesEnded (fun _ => True) s u) (entry : ∀ e, t.entry e = (u.entry e).purged)
    (spared : ∀ b, (∀ e, (u.entry e).state = .latched ∨ (u.entry e).snapshot ≠ some b) →
      t.buffer b = (u.buffer b).unbound)
    (freed : ∀ b e, (u.entry e).state ≠ .latched → (u.entry e).snapshot = some b → t.buffer b = Buffer.free) :
    PoolSwept s t := by
  have unwritten (b : Fin 8) (idle : (s.buffer b).writer = none) : u.buffer b = s.buffer b :=
    h.spared b (by simp [idle])
  have unnamed (b : Fin 8) (free : ∀ e, (u.buffer b).owner ≠ .entry e) : t.buffer b = (u.buffer b).unbound :=
    spared b fun e => .inr fun names => free e ((still.1 e b).1 names)
  have released (b : Fin 8) (free : u.buffer b = Buffer.free) : t.buffer b = Buffer.free := by
    rw [unnamed b (by simp [free, Buffer.free]), free]
    rfl
  refine ⟨fun e other => ?_, fun e latched idle => ?_, fun e b p latched names writer => ?_, fun b free => ?_,
    fun b used lost => ?_⟩
  · rw [entry, Entry.purged, if_neg (by rw [h.entry_state]; exact other)]
  · have held := h.held e fun b p names writer => by rw [idle b names] at writer; cases writer
    refine ⟨by rw [entry, held], fun b names => ?_⟩
    have same := unwritten b (idle b names)
    have owner : (u.buffer b).owner = .entry e := by rw [same]; exact (named.1 e b).1 names
    rw [spared b fun i => ?_, Buffer.unbound_of_settled (by rw [owner]; rfl), same]
    by_cases own : (u.entry i).snapshot = some b
    · rw [(still.1 i b)] at own
      cases owner.symm.trans own
      exact .inl ((h.entry_state e).trans latched)
    · exact .inr own
  · rw [entry, h.lost e b p names writer trivial]
  · have same := unwritten b (fit.2.1 b free).2
    rw [unnamed b (by simp [same, free]), Buffer.unbound_of_settled (by rw [same, free]; rfl), same]
  · cases writer : (s.buffer b).writer with
    | some p => exact released b (h.freed b p writer trivial)
    | none =>
      have same := unwritten b writer
      cases owner : (s.buffer b).owner with
      | free => exact absurd owner used
      | pending q =>
        rw [unnamed b (by simp [same, owner])]
        simp [Buffer.unbound, same, owner]
      | entry e =>
        have names := (named.1 e b).2 owner
        have held := h.held e fun c p own write => by
          cases names.symm.trans own
          rw [writer] at write
          cases write
        exact freed b e (by rw [held]; exact fun latched => lost e owner latched writer) (by rw [held, names])

/-- What the ports' parting and both purges leave of a state outside RUN (R19, R57, R80). -/
structure Swept (s t : State) : Prop where
  device : t.device = s.device
  config : t.config = s.config
  monitor : t.monitor = s.monitor
  counter : t.publication.counter = s.publication.counter
  ports : ∀ p, t.port p = (s.port p).parted
  queues : ∀ q, t.queue q = []
  slots : ∀ p, t.slot p = (s.slot p).ended
  conds : ∀ k, t.cond k = (s.cond k).clear
  flow : t.intake.current = none ∧ t.intake.allowance = 0 ∧ t.intake.rotation = .ride
  pool : PoolSwept s t
  table : t.faults.cellCount = 0 ∧ t.faults.noticeDelay = none ∧ t.faults.absoluteDelay = none ∧ t.faults.highWater = false

/-- Intake wiped but for the long slots and the details of the conditions (R57). -/
def Intake.wiped (i : Intake) : Intake :=
  { i with
    queues := ⟨[], [], [], [], []⟩, conds := mapTable Cond.clear i.conds, current := none, allowance := 0, rotation := .ride }

/-- Intake's purge, by the state in which every assembly has ended (R57). -/
theorem State.purgeIntake_leaves {s u : State} (ended : stations.foldl State.endSlot s = u) (h : u.unassembled) :
    s.purgeIntake = { u with pool := s.purgeIntake.pool, intake := u.intake.wiped } ∧
      ∀ b, s.purgeIntake.buffer b = (u.buffer b).unbound := by
  obtain ⟨rest, buffers⟩ := State.foldl_freeIfPending h
  have eq : s.purgeIntake = { (List.finRange 8).foldl State.freeIfPending u with
      intake := ((List.finRange 8).foldl State.freeIfPending u).intake.wiped } := by rw [← ended]; rfl
  generalize (List.finRange 8).foldl State.freeIfPending u = v at *
  rw [eq]
  exact ⟨by rw [rest], buffers⟩

/-- The Fault Table's purge while no assembly runs: the entries and their snapshots, and the rest of the table but PARKED and the
report in application (R80). -/
theorem State.purgeTable_leaves {s : State} (h : s.unassembled) :
    s.purgeTable.intake = s.intake ∧ (∀ e, s.purgeTable.entry e = (s.entry e).purged) ∧
      (∀ b, (∀ e, (s.entry e).state = .latched ∨ (s.entry e).snapshot ≠ some b) → s.purgeTable.buffer b = s.buffer b) ∧
      (∀ b e, (s.entry e).state ≠ .latched → (s.entry e).snapshot = some b → s.purgeTable.buffer b = Buffer.free) ∧
      s.purgeTable.faults.overflow = Vector.replicate 64 false ∧ s.purgeTable.faults.noticeDelay = none ∧
      s.purgeTable.faults.absoluteDelay = none ∧ s.purgeTable.faults.highWater = false := by
  have intake := State.foldl_purgeEntry_intake h
  have entries := State.foldl_purgeEntry_entry s
  have spared (b : Fin 8) := State.foldl_purgeEntry_spared (s := s) (b := b)
  have freed (b : Fin 8) (e : Fin 48) := State.foldl_purgeEntry_freed (s := s) (e := e) (b := b)
  unfold State.purgeTable
  generalize (List.finRange 48).foldl (fun t e => State.purgeEntry e t) s = u at *
  exact ⟨intake, entries, spared, freed, rfl, rfl, rfl, rfl⟩

theorem FaultTable.cellCount_empty {t : FaultTable} (h : t.overflow = Vector.replicate 64 false) : t.cellCount = 0 := by
  simp [FaultTable.cellCount_eq, h]

theorem State.swept {s : State} (rest : s.running = false) (idle : s.faults.applying = none) (fit : SnapshotsFit s)
    (owned : BuffersOwned s) : Swept s (stations.foldl State.portOff s).purgeIntake.purgeTable := by
  have parting := State.partAll rest idle fit owned
  have ports := State.foldl_portOff_port rest
  generalize stations.foldl State.portOff s = off at *
  have samePorts : (stations.foldl State.endSlot off).ports = off.ports := by simp
  have done : (stations.foldl State.endSlot off).unassembled := fun p => by
    rw [parting.ends.ended p trivial, LongSlot.ended_assembly]
  obtain ⟨intake, buffers⟩ := State.purgeIntake_leaves rfl done
  generalize stations.foldl State.endSlot off = u at *
  generalize off.purgeIntake = v at *
  obtain ⟨same, entries, spared, freed, overflow, delay, absolute, high⟩ :=
    State.purgeTable_leaves (s := v) (State.unassembled_congr (by rw [intake]; rfl) done)
  have frame := State.purgeTable_frame v
  generalize v.purgeTable = t at *
  obtain ⟨device, config, ports', -, -, publication, monitor, -⟩ := frame
  have entry (e : Fin 48) : v.entry e = u.entry e := by rw [intake]; rfl
  simp only [entry] at entries spared freed
  refine ⟨?_, ?_, ?_, ?_, fun p => ?_, fun q => ?_, fun p => ?_, fun k => ?_, ?_, ?_, ⟨?_, delay, absolute, high⟩⟩
  · rw [device, intake, parting.device]
  · rw [config, intake, parting.config]
  · rw [monitor, intake, parting.monitor]
  · rw [publication, intake, parting.counter]
  · rw [State.port_congr (s := off) (by rw [ports', intake, samePorts]), ports]
  · rw [State.queue, same, intake]
    cases q <;> rfl
  · rw [State.slot, same, intake]
    exact parting.ends.ended p trivial
  · rw [State.cond, same, intake]
    refine (getElem_mapTable Cond.clear u.intake.conds k).trans ?_
    exact congrArg (Cond.mk false · false) (parting.detail k)
  · rw [same, intake]
    exact ⟨rfl, rfl, rfl⟩
  · have named := ((buffersOwned_iff s).1 owned).1
    have still := ((buffersOwned_iff u).1 parting.owned).1
    exact .of_ended fit named still parting.ends entries (fun b h => (spared b h).trans (buffers b)) freed
  · exact FaultTable.cellCount_empty overflow

end Sys2Proof.Machine
end

section
/-!
PROOFS. Key-off in CONFIGURE or RUN (R184): the report in application applied first, and the passage to STANDBY.
-/
namespace Sys2Proof.Machine

open Sys2Proof

/-! ### The passage, from the state that has taken STANDBY -/

/-- The device once key-off has taken it to STANDBY (R176, R184). -/
def Device.keyedOff (d : Device) : Device :=
  { d with state := .standby, keyLevel := false, debounce := none, configureWindow := none }

/-- The state from which key-off purges the blocks. -/
def State.standing (s : State) : State :=
  { s with device := s.device.keyedOff }

/-- What key-off makes of the state that stands in STANDBY (R184). -/
def State.purged (s : State) : State :=
  (((stations.foldl State.portOff s.finishReport).purgeIntake.purgeTable.stopMonitor.stopMotion).publishWhole
    (Limits.closed s.device.topology) none).endEpisodes

theorem State.keyOff_debounced {s : State} (low : s.device.keyPin = false) : s.debounced.keyOff = s.standing.purged := by
  have standing : ({ s.debounced with device := { s.debounced.device with state := .standby, configureWindow := none } } : State) =
      s.standing := by simp [State.debounced, State.standing, Device.keyedOff, low]
  rw [State.keyOff, standing]
  rfl

theorem exec_keyOff {s : State} (mV : Nat) (here : s.device.state = .configure ∨ s.device.state = .run)
    (runs : s.device.debounce.isSome = true) (low : s.device.keyPin = false) :
    exec (.keyDebounceExpiry mV) s = .next s.standing.purged := by
  have level : s.debounced.keyLow = s.debounced.keyOff := by
    rcases here with state | state <;> simp [State.keyLow, State.debounced, state]
  rw [exec_keyDebounceExpiry runs, low, if_neg (by decide), level, State.keyOff_debounced low]

/-- PARKED agrees after key-off (R169, R173). -/
theorem State.purged_parked {s : State} (low : s.device.keyPin = false) (parked : ParkedAgrees s) :
    ParkedAgrees s.standing.purged := by
  rw [← State.keyOff_debounced low]
  exact s.debounced.keyOff_links.parked parked

/-! ### The report in application -/

theorem State.detach_standing (b : Fin 8) (p : Station) (s : State) : s.standing.detach b p = (s.detach b p).standing := by
  unfold State.detach
  rw [show s.standing.slot p = s.slot p from rfl]
  split
  · split <;> rfl
  · rfl

theorem State.freeBuffer_standing (b : Fin 8) (s : State) : s.standing.freeBuffer b = (s.freeBuffer b).standing := by
  unfold State.freeBuffer
  rw [show s.standing.buffer b = s.buffer b from rfl]
  split
  · rw [State.detach_standing]
    rfl
  · rfl

theorem State.freeEntry_standing (e : Fin 48) (s : State) : s.standing.freeEntry e = (s.freeEntry e).standing := by
  unfold State.freeEntry State.freeSnapshot
  rw [show s.standing.entry e = s.entry e from rfl]
  split
  · rw [State.freeBuffer_standing]
    rfl
  · rfl

theorem State.dealBuffer_standing (buffer : Option (Fin 8)) (landing : Option (Fin 48)) (s : State) :
    s.standing.dealBuffer buffer landing = (s.dealBuffer buffer landing).standing := by
  unfold State.dealBuffer
  split
  · rfl
  · split
    · exact State.freeBuffer_standing ..
    · next e =>
      rw [show s.standing.entry e = s.entry e from rfl]
      split
      · rfl
      · exact State.freeBuffer_standing ..

theorem State.land_standing (r : QReport) (s : State) :
    s.standing.land r = ((s.land r).1.standing, (s.land r).2) := by
  unfold State.land
  split
  · unfold State.landPresent
    dsimp only
    rw [show s.standing.faults = s.faults from rfl, show s.standing.device.clock = s.device.clock from rfl]
    split
    · next e _ =>
      rw [show s.standing.entry e = s.entry e from rfl]
      split <;> rfl
    · split
      · rfl
      · split
        · rw [State.freeEntry_standing]
          rfl
        · rfl
  · unfold State.landAbsent
    rw [show s.standing.faults = s.faults from rfl]
    split <;> rfl

/-- A report is applied without a look at the device but for its clock (R60, R85). -/
theorem State.applyReport_standing (r : QReport) (s : State) : s.standing.applyReport r = (s.applyReport r).standing := by
  have landed := State.land_standing r { s with faults := { s.faults with applying := none } }
  unfold State.applyReport
  dsimp only
  rw [← State.dealBuffer_standing]
  exact congrArg (fun x => State.dealBuffer r.buffer x.2 x.1) landed

theorem State.finishReport_of_applying {r : QReport} {s : State} (h : s.faults.applying = some r) :
    s.finishReport = s.applyReport r := by
  simp [State.finishReport, h]

theorem State.finishReport_of_idle {s : State} (h : s.faults.applying = none) : s.finishReport = s := by
  simp [State.finishReport, h]

/-- Key-off applies the report in application as the Fault Table would have (R184; log 14). -/
theorem State.purged_applying {r : QReport} {s : State} (h : s.faults.applying = some r) :
    (s.applyReport r).faults.applying = none ∧ s.standing.purged = (s.applyReport r).standing.purged := by
  have applied : (s.applyReport r).faults.applying = none := by
    rw [← State.finishReport_of_applying h]
    exact s.finishReport_applying
  have finished : s.standing.finishReport = (s.applyReport r).standing.finishReport := by
    rw [State.finishReport_of_applying (s := s.standing) h, State.applyReport_standing,
      State.finishReport_of_idle (s := (s.applyReport r).standing) applied]
  refine ⟨applied, ?_⟩
  rw [State.purged, State.purged, finished]
  simp [State.standing]

/-! ### The end of the passage -/

/-- No sample is kept, and an ASSERTED filter is CLEAR (R163). -/
theorem State.stopMonitor_reads (s : State) : (∀ c : Fin 7, s.stopMonitor.monitor.latest[c] = none) ∧
    ∀ k, s.stopMonitor.filter k = (s.filter k).keyOff :=
  ⟨fun c => by simp [State.stopMonitor], fun k => getElem_mapTable Filter.keyOff s.monitor.filters k⟩

theorem Entry.purged_of_latched {x : Entry} (h : x.state = .latched) :
    x.purged = { x with present := SourceSet.empty, root := none, timer := .none } :=
  if_pos h

/-- `t` is `s` with the Self Monitor and Motion stopped outside RUN (R163, R173). -/
def Stopped (s t : State) : Prop :=
  t = { s.stopMonitor with
    motion := Motion.reset
    ladder := { s.ladder with parked := t.ladder.parked }
    faults := { s.faults with parked := t.faults.parked } }

theorem State.stopMotion_stopped {s : State} (rest : s.running = false) : Stopped s s.stopMonitor.stopMotion := by
  have idle : ¬({ s.stopMonitor with motion := Motion.reset } : State).running = true := Bool.eq_false_iff.1 rest
  unfold Stopped State.stopMotion
  dsimp only
  split
  · rw [State.reportParked, if_neg idle]
    rfl
  · rfl

theorem State.addressed_standby {s : State} (h : s.device.state = .standby) (p : Station) : s.addressed p = false := by
  simp [State.addressed, h]

/-- What a publication in STANDBY and the end of the episodes leave (R120, R125, R132, R147). -/
structure EndsClosed (l : Limits) (s t : State) : Prop where
  frame : t.device = s.device ∧ t.config = s.config ∧ t.intake = s.intake ∧ t.pool = s.pool ∧ t.faults = s.faults ∧
    t.monitor = s.monitor ∧ t.motion = s.motion
  ports : ∀ p, t.port p = s.port p
  lines : t.lines = ⟨true, true, true, true, 7⟩
  counter : t.publication.counter = State.nextGeneration s.publication.counter
  nobody : t.publication.members = ⟨false, false, false, false⟩ ∧ t.publication.complete = true
  adoptions : ∀ p, (t.adoption p).owing = false ∧ (t.adoption p).window = .idle ∧ (t.adoption p).timer = none ∧
    (t.adoption p).unresponsive = false
  limits : t.ladder.published.limits = l
  whole : t.ladder.target = t.ladder.published ∧ t.ladder.adopted = t.ladder.published ∧ t.ladder.relax = .idle ∧
    t.ladder.hold = none

theorem State.publishWhole_endEpisodes (l : Limits) {s : State} (h : s.device.state = .standby) :
    EndsClosed l s (s.publishWhole l none).endEpisodes := by
  obtain ⟨published, counter, target, relax, hold⟩ := State.publishWhole_published l none s
  obtain ⟨members, complete, adopted, lines, ports, adoptions⟩ := State.publishWhole_unheard l none (State.addressed_standby h)
  obtain ⟨device, config, intake, pool, faults, monitor, motion, -⟩ := State.publishWhole_frame l none s
  generalize s.publishWhole l none = u at *
  have records (p : Station) : u.endEpisodes.adoption p = { u.adoption p with unresponsive := false } := by
    cases p <;> rfl
  refine ⟨⟨device, config, intake, pool, faults, monitor, motion⟩, ports, ?_, counter, ⟨members, complete⟩, fun p => ?_,
    ?_, ⟨target, adopted, relax, hold⟩⟩
  · refine lines.trans ?_
    rw [h]
    rfl
  · obtain ⟨owing, window, timer, -⟩ := adoptions p
    rw [records]
    exact ⟨owing, window, timer, rfl⟩
  · exact congrArg Envelope.limits published

/-- What key-off leaves of `s`, block by block, the envelope published being of the six fields `l` (R184). -/
structure KeyedOff (l : Limits) (s t : State) : Prop where
  device : t.device = s.device.keyedOff
  config : t.config = s.config
  lines : t.lines = ⟨true, true, true, true, 7⟩
  motion : t.motion = Motion.reset
  ports : ∀ p, t.port p = (s.port p).parted
  queues : ∀ q, t.queue q = []
  slots : ∀ p, t.slot p = (s.slot p).ended
  conds : ∀ k, t.cond k = (s.cond k).clear
  flow : t.intake.current = none ∧ t.intake.allowance = 0 ∧ t.intake.rotation = .ride
  pool : PoolSwept s t
  table : t.faults.cellCount = 0 ∧ t.faults.noticeDelay = none ∧ t.faults.absoluteDelay = none ∧ t.faults.highWater = false
  counter : t.publication.counter = State.nextGeneration s.publication.counter
  nobody : t.publication.members = ⟨false, false, false, false⟩ ∧ t.publication.complete = true
  adoptions : ∀ p, (t.adoption p).owing = false ∧ (t.adoption p).window = .idle ∧ (t.adoption p).timer = none ∧
    (t.adoption p).unresponsive = false
  limits : t.ladder.published.limits = l
  whole : t.ladder.target = t.ladder.published ∧ t.ladder.adopted = t.ladder.published ∧ t.ladder.relax = .idle ∧
    t.ladder.hold = none
  parked : t.ladder.parked = false ∧ t.faults.parked = false
  monitor : t.monitor = s.stopMonitor.monitor

/-- The pool and the entries as the passage leaves them are those that both purges have left. -/
theorem PoolSwept.standing {s v t : State} (h : PoolSwept s.standing v) (entry : ∀ e, t.entry e = v.entry e)
    (buffer : ∀ b, t.buffer b = v.buffer b) : PoolSwept s t where
  gone e other := (entry e).trans (h.gone e other)
  kept e latched idle := ⟨(entry e).trans (h.kept e latched idle).1, fun b named =>
    (buffer b).trans ((h.kept e latched idle).2 b named)⟩
  stripped e b p latched named writer := (entry e).trans (h.stripped e b p latched named writer)
  free b owner := (buffer b).trans (h.free b owner)
  freed b used lost := (buffer b).trans (h.freed b used lost)

/-- The whole passage, by its parts: the blocks swept, the Self Monitor and Motion stopped, and the closed envelope published
(R184). -/
theorem KeyedOff.of_swept {l : Limits} {s v u t : State} (swept : Swept s.standing v) (stopped : Stopped v u)
    (closed : EndsClosed l u t) (agrees : ParkedAgrees t) : KeyedOff l s t := by
  obtain ⟨device, config, intake, pool, faults, monitor, motion⟩ := closed.frame
  have same : u.intake = v.intake ∧ u.pool = v.pool ∧ u.ports = v.ports ∧ u.publication = v.publication := by
    rw [stopped]
    exact ⟨rfl, rfl, rfl, rfl⟩
  obtain ⟨intake', pool', ports', publication'⟩ := same
  have still : t.motion = Motion.reset := by rw [motion, stopped]
  have flow : t.intake = v.intake := intake.trans intake'
  refine ⟨?_, ?_, closed.lines, still, fun p => ?_, fun q => ?_, fun p => ?_, fun k => ?_, ?_, ?_, ?_, ?_, closed.nobody,
    closed.adoptions, closed.limits, closed.whole, ?_, ?_⟩
  · rw [device, stopped]
    exact swept.device
  · rw [config, stopped]
    exact swept.config
  · rw [closed.ports, State.port_congr ports']
    exact swept.ports p
  · rw [State.queue, flow]
    exact swept.queues q
  · rw [State.slot, flow]
    exact swept.slots p
  · rw [State.cond, flow]
    exact swept.conds k
  · rw [flow]
    exact swept.flow
  · refine swept.pool.standing (fun e => ?_) (State.buffer_congr (pool.trans pool'))
    rw [State.entry, faults, stopped]
    rfl
  · rw [faults, stopped]
    exact swept.table
  · rw [closed.counter, publication', swept.counter]
    rfl
  · obtain ⟨ladder, table⟩ := agrees
    rw [ladder, table, still]
    exact ⟨rfl, rfl⟩
  · rw [monitor, stopped, State.stopMonitor, swept.monitor]
    rfl

/-- Key-off of a state with no report in application (R184). -/
theorem State.purged_keyedOff {s : State} (idle : s.faults.applying = none) (fit : SnapshotsFit s) (owned : BuffersOwned s)
    (agrees : ParkedAgrees s.standing.purged) : KeyedOff (Limits.closed s.device.topology) s s.standing.purged := by
  have swept := State.swept (s := s.standing) rfl idle fit owned
  have eq : s.standing.purged = (((stations.foldl State.portOff s.standing).purgeIntake.purgeTable.stopMonitor.stopMotion
    ).publishWhole (Limits.closed s.device.topology) none).endEpisodes := by
    rw [State.purged, State.finishReport_of_idle (s := s.standing) idle]
    rfl
  generalize (stations.foldl State.portOff s.standing).purgeIntake.purgeTable = v at *
  have standby : v.device.state = .standby := by
    rw [swept.device]
    rfl
  have stopped := State.stopMotion_stopped (s := v) (by rw [State.running, standby]; rfl)
  have closed := State.publishWhole_endEpisodes (Limits.closed s.device.topology) (s := v.stopMonitor.stopMotion)
    (by rw [stopped]; exact standby)
  rw [← eq] at closed
  exact .of_swept swept stopped closed agrees

/-- Settles O8: a report in application by `State.purged_applying`, and every block by `State.purged_keyedOff`. -/
theorem keyOffPurgesEveryBlock : Obligations.KeyOffPurgesEveryBlock := by
  intro s mV here runs low parked fit owned
  constructor
  · intro r applying
    obtain ⟨applied, same⟩ := State.purged_applying applying
    have device : (s.applyReport r).device = s.device := by simp
    refine ⟨applied, ?_⟩
    rw [exec_keyOff mV here runs low, exec_keyOff mV (by rwa [device]) (by rwa [device]) (by rwa [device]), same]
  · intro idle
    have keyed := State.purged_keyedOff idle fit owned (State.purged_parked low parked)
    refine ⟨_, exec_keyOff mV here runs low, ?_⟩
    generalize s.standing.purged = t at *
    obtain ⟨current, allowance, rotation⟩ := keyed.flow
    obtain ⟨cells, delay, absolute, high⟩ := keyed.table
    obtain ⟨members, complete⟩ := keyed.nobody
    obtain ⟨target, adopted, relax, hold⟩ := keyed.whole
    obtain ⟨ladder, table⟩ := keyed.parked
    refine ⟨keyed.device, keyed.config, keyed.lines, keyed.motion, fun p => ?_, fun p awake => ?_, keyed.queues, fun p free => ?_,
      fun p a open' => ?_, keyed.conds, current, allowance, rotation, keyed.pool.gone, fun e latched idle => ?_,
      fun e b p latched named writer => ?_, keyed.pool.free, keyed.pool.freed, cells, delay, absolute, high, table,
      keyed.counter, members, complete, keyed.adoptions, keyed.limits, target, adopted, relax, hold, ladder, ?_⟩
    · rw [keyed.ports, Port.parted]
      split
      · assumption
      · rfl
    · rw [keyed.ports, Port.parted, if_neg awake]
      rfl
    · rw [keyed.slots, LongSlot.ended_of_none free]
    · rw [keyed.slots, LongSlot.ended_of_some open']
    · have kept := keyed.pool.kept e latched idle
      rwa [Entry.purged_of_latched latched] at kept
    · exact (keyed.pool.stripped e b p latched named writer).trans (Entry.purged_of_latched (x := (s.entry e).bereft) latched)
    · obtain ⟨latest, filter⟩ := State.stopMonitor_reads s
      refine ⟨fun c => ?_, ?_, ?_, ?_, fun k => ?_⟩
      · rw [keyed.monitor]
        exact latest c
      · rw [keyed.monitor]
        rfl
      · rw [keyed.monitor]
        rfl
      · rw [keyed.monitor]
        rfl
      · rw [State.filter, keyed.monitor]
        exact filter k

end Sys2Proof.Machine
end

section
/-!
PROOFS. A step of a state whose queue holds a command: the other case of `step`, beside the millisecond of the empty queue.
-/
namespace Sys2Proof.Machine

open Sys2Proof

/-- Settles O1: of the two cases of `step`, a queue with a command at its front is in the second (log 1). -/
theorem stepRunsTheFrontCommand : Obligations.StepRunsTheFrontCommand := by
  intro c rest s front
  rw [step, front]

end Sys2Proof.Machine
end

section
/-!
PROOFS. Buffers that become FREE one after another (`Releases`): the snapshot of an entry, and those of all RETIRED entries.
-/
namespace Sys2Proof.Machine

open Sys2Proof

/-! ### Buffers that become FREE one after another -/

/-- The buffers for which `freed` holds have become FREE, as `BuffersFreed` says, and a long slot whose assembly does not write
into one of them is as before, whatever buffers name its port as their writer (R43, R48). -/
structure Releases (freed : Fin 8 → Prop) (s t : State) : Prop extends BuffersFreed freed s t where
  kept : ∀ p, (∀ b a, freed b → (s.slot p).assembly = some a → a.buffer = some b → (s.buffer b).writer ≠ some p) →
    t.slot p = s.slot p

/-- Detaching a buffer that the port's assembly does not name changes nothing (R43). -/
theorem State.detach_unnamed {b : Fin 8} {p : Station} {s : State}
    (unnamed : ∀ a, (s.slot p).assembly = some a → a.buffer ≠ some b) : s.detach b p = s := by
  unfold State.detach
  split
  · next a running => exact if_neg (unnamed a running)
  · rfl

namespace Releases

variable {freed more : Fin 8 → Prop} {s t u : State}

theorem refl (unfreed : ∀ b, ¬freed b) (s : State) : Releases freed s s where
  free b held := absurd held (unfreed b)
  spared _ _ := rfl
  detached b _ _ held := absurd held (unfreed b)
  slots _ _ := rfl
  intake := rfl
  kept _ _ := rfl

theorem congr (h : Releases freed s t) (same : ∀ b, more b ↔ freed b) : Releases more s t :=
  (funext fun b => propext (same b) : more = freed) ▸ h

/-- A condition on the buffers and the long slots only. -/
theorem of_eq {s' t' : State} (h : Releases freed s t) (pool : s'.pool = s.pool := by simp)
    (intake : s'.intake = s.intake := by simp) (pool' : t'.pool = t.pool := by simp)
    (intake' : t'.intake = t.intake := by simp) : Releases freed s' t' := by
  obtain ⟨⟨free, spared, detached, slots, rest⟩, kept⟩ := h
  refine ⟨⟨?_, ?_, ?_, ?_, ?_⟩, ?_⟩
  all_goals
    simp only [State.buffer, State.slot, pool, intake, pool', intake']
    assumption

theorem freeBuffer (b : Fin 8) (s : State) : Releases (fun c => b = c) s (s.freeBuffer b) := by
  obtain ⟨free, spared, detached, slots, intake⟩ := State.freeBuffer_freed b s
  refine ⟨⟨fun c h => free c h.symm, fun c h => spared c (Ne.symm h), fun c p a h => detached c p a h.symm,
    fun p h => slots p fun c same => h c same.symm, intake⟩, fun p unwritten => ?_⟩
  by_cases writes : (s.buffer b).writer = some p
  · have unnamed := State.detach_unnamed fun a running named => unwritten b a rfl running named writes
    unfold State.freeBuffer
    simp only [writes, unnamed]
    rfl
  · exact slots p fun c same => same ▸ writes

/-- Buffers become FREE, and then more do: an assembly that has lost its buffer is not detached from another. -/
theorem trans (h : Releases freed s t) (g : Releases more t u) : Releases (fun b => freed b ∨ more b) s u := by
  have writer (b : Fin 8) (p : Station) (writes : (t.buffer b).writer = some p) : (s.buffer b).writer = some p := by
    by_cases held : freed b
    · rw [h.free b held] at writes
      cases writes
    · rwa [h.spared b held] at writes
  refine ⟨⟨fun b either => ?_, fun b neither => ?_, fun b p a either writes running named => ?_, fun p unwritten => ?_, ?_⟩,
    fun p unwritten => ?_⟩
  · by_cases again : more b
    · exact g.free b again
    · rw [g.spared b again, h.free b (either.resolve_right again)]
  · rw [not_or] at neither
    rw [g.spared b neither.2, h.spared b neither.1]
  · by_cases held : freed b
    · have gone := h.detached b p a held writes running named
      rw [g.kept p fun c a' _ running' named' => ?_, gone]
      rw [gone] at running'
      cases running'
      cases named'
    · have same : t.slot p = s.slot p := h.kept p fun c a' held' running' named' => by
        cases running.symm.trans running'
        cases named.symm.trans named'
        exact absurd held' held
      rw [g.detached b p a (either.resolve_left held) (by rw [h.spared b held, writes]) (by rw [same, running]) named, same]
  · rw [g.slots p fun b again writes => unwritten b (.inr again) (writer b p writes),
      h.slots p fun b held => unwritten b (.inl held)]
  · rw [g.intake, h.intake]
  · have same : t.slot p = s.slot p := h.kept p fun b a held => unwritten b a (.inl held)
    rw [g.kept p fun b a again running named writes => ?_, same]
    exact unwritten b a (.inr again) (same ▸ running) named (writer b p writes)

/-- An entry becomes FREE and its snapshot with it (R59). -/
theorem freeEntry (e : Fin 48) (s : State) : Releases (fun b => (s.entry e).snapshot = some b) s (s.freeEntry e) := by
  have snapshot : Releases (fun b => (s.entry e).snapshot = some b) s (s.freeSnapshot (s.entry e).snapshot) := by
    cases held : (s.entry e).snapshot with
    | none => exact refl (by simp) s
    | some b => exact (freeBuffer b s).congr (by simp)
  exact snapshot.of_eq rfl rfl rfl rfl

end Releases

/-! ### Every RETIRED entry becomes FREE -/

theorem State.freeIfRetired_entry (e i : Fin 48) (s : State) : (s.freeIfRetired e).entry i =
    if i = e then (if (s.entry i).state = .retired then Entry.free else s.entry i) else s.entry i := by
  unfold State.freeIfRetired
  split
  · next retired =>
    rw [State.entry_freeEntry]
    by_cases same : i = e <;> simp [same, retired]
  · next other => by_cases same : i = e <;> simp [same, other]

theorem State.freeIfRetired_releases (e : Fin 48) (s : State) :
    Releases (fun b => (s.entry e).state = .retired ∧ (s.entry e).snapshot = some b) s (s.freeIfRetired e) := by
  unfold State.freeIfRetired
  split
  · next retired => exact (Releases.freeEntry e s).congr (by simp [retired])
  · next other => exact .refl (by simp [other]) s

/-- Every RETIRED entry becomes FREE, and every other is kept (R70). -/
theorem State.freeRetired_entry (s : State) (i : Fin 48) :
    s.freeRetired.entry i = if (s.entry i).state = .retired then Entry.free else s.entry i :=
  (foldl_pointwise (P := fun _ : State => True) (read := State.entry)
    (F := fun _ x => if x.state = .retired then Entry.free else x) (fun _ _ _ => trivial)
    (fun _ x => by by_cases retired : x.state = .retired <;> simp [retired, Entry.free])
    (fun t _ e i => State.freeIfRetired_entry e i t) _ trivial i).trans (if_pos (List.mem_finRange i))

theorem State.foldl_freeIfRetired_releases (l : List (Fin 48)) (s : State) :
    Releases (fun b => ∃ i ∈ l, (s.entry i).state = .retired ∧ (s.entry i).snapshot = some b) s
      (l.foldl (fun t e => t.freeIfRetired e) s) := by
  induction l generalizing s with
  | nil => exact .refl (by simp) s
  | cons e l ih =>
    refine ((State.freeIfRetired_releases e s).trans (ih (s.freeIfRetired e))).congr fun b => ?_
    have later (i : Fin 48) : ((s.freeIfRetired e).entry i).state = .retired ∧
        ((s.freeIfRetired e).entry i).snapshot = some b ↔
        i ≠ e ∧ (s.entry i).state = .retired ∧ (s.entry i).snapshot = some b := by
      rw [State.freeIfRetired_entry]
      by_cases same : i = e
      · subst same
        by_cases retired : (s.entry i).state = .retired <;> simp [retired, Entry.free]
      · simp [same]
    simp only [later, List.mem_cons, exists_eq_or_imp]
    grind

/-- The snapshots of the RETIRED entries become FREE with them (R59, R70). -/
theorem State.freeRetired_releases (s : State) :
    Releases (fun b => ∃ i, (s.entry i).state = .retired ∧ (s.entry i).snapshot = some b) s s.freeRetired :=
  (State.foldl_freeIfRetired_releases (List.finRange 48) s).congr (by simp)

theorem State.freeRetired_notices (s : State) : s.freeRetired.faults.notices = s.faults.notices :=
  foldl_holds (fun t : State => t.faults.notices = s.faults.notices) (fun t e same => by
    unfold State.freeIfRetired
    split
    · exact (State.freeEntry_notices e t).trans same
    · exact same) _ s rfl

end Sys2Proof.Machine
end

section
/-!
PROOFS. DISCARD, of one entry and of all RETIRED ones: what either form takes, the checks of R70 in order, and what is freed.
-/
namespace Sys2Proof.Machine

open Sys2Proof

/-! ### An event of the Fault Table that a frame of a turn brings about -/

/-- A frame that fails a check is answered, and changes nothing else. -/
theorem State.receipted_refused {p : Station} {v : Verdict} {judge : State → State × Verdict} {s : State} (takes : s.takes p)
    (refused : judge (s.counted p) = (s.counted p, v)) : s.takeFrame p false (State.receipted p judge) = s.answered p v := by
  rw [State.receipted_takes takes, refused, State.counted_addVerdict]

/-- A frame that makes an event of the table of the state `u` is answered TAKEN, and what follows the event follows. -/
theorem State.receipted_follows {p : Station} {judge : State → State × Verdict} {s u : State} (takes : s.takes p)
    (judged : judge (s.counted p) = (u.settle s.faults, .taken)) (ports : u.ports = (s.counted p).ports)
    (follows : Follows (s.counted p) u (u.settle s.faults)) :
    ((s.takeFrame p false (State.receipted p judge)).port p).verdicts = (s.port p).verdicts ++ [.taken] ∧
      Follows s u (s.takeFrame p false (State.receipted p judge)) := by
  have verdicts : ((u.settle s.faults).port p).verdicts = (s.port p).verdicts := by
    rw [State.settle_verdicts, State.port_congr ports, State.counted_port]
  rw [State.receipted_takes takes, judged]
  exact ⟨by rw [State.port_addVerdict_verdicts, verdicts],
    { follows with settles := fun running => ((follows.settles running).addVerdict p .taken).of_counted }⟩

/-- A FREE entry has no root once the roots are settled, and is as at reset (R82). -/
theorem TableSettles.entry_free {s t : State} (h : TableSettles s t) {e : Fin 48}
    (freed : (t.entry e).unrooted = Entry.free.unrooted) : t.entry e = Entry.free := by
  have free : (t.entry e).state = .free := congrArg Entry.state freed
  refine Entry.eq_of_unrooted freed ?_
  rw [h.roots, if_neg (by simp [Entry.active, free])]
  rfl

/-! ### What a DISCARD takes -/

/-- DISCARD of one entry: its index (R70). -/
theorem parseDiscardEntry_eq_some (payload : List Byte) (e : Fin 48) :
    parseDiscardEntry payload = some e ↔ ∃ b : Byte, payload = [0, b] ∧ b.toNat = e.val := by
  constructor
  · intro h
    unfold parseDiscardEntry at h
    split at h
    · next code b =>
      split at h
      · next zero => exact ⟨b, by rw [BitVec.eq_of_toNat_eq (y := 0) zero], fin?_eq_some.1 h⟩
      · contradiction
    · contradiction
  · rintro ⟨b, rfl, he⟩
    simp [parseDiscardEntry, fin?_eq_some.2 he]

theorem parseDiscardEntry_none {payload : List Byte} (index : ¬∃ i : Byte, i.toNat < 48 ∧ payload = [0, i]) :
    parseDiscardEntry payload = none := by
  refine Option.eq_none_iff_forall_ne_some.2 fun e he => ?_
  obtain ⟨b, same, value⟩ := (parseDiscardEntry_eq_some payload e).1 he
  exact index ⟨b, value ▸ e.isLt, same⟩

theorem discardAllForm_iff (payload : List Byte) : discardAllForm payload = true ↔ payload = [1] := by
  unfold discardAllForm
  split
  · next code =>
    rw [decide_eq_true_iff, List.cons.injEq, ← BitVec.toNat_inj]
    simp
  · next other => exact ⟨nofun, fun same => absurd same (other 1)⟩

/-! ### The checks of R70 -/

theorem State.judgeDiscard_idle {p : Station} {s : State} (payload : List Byte) (idle : s.running = false) :
    s.judgeDiscardEntry p payload = (s, .wrongState) ∧ s.judgeDiscardAll p payload = (s, .wrongState) := by
  simp [State.judgeDiscardEntry, State.judgeDiscardAll, idle]

theorem State.judgeDiscard_malformed {p : Station} {payload : List Byte} {s : State} (running : s.running = true)
    (index : ¬∃ i : Byte, i.toNat < 48 ∧ payload = [0, i]) (all : payload ≠ [1]) :
    s.judgeDiscardEntry p payload = (s, .malformed) ∧ s.judgeDiscardAll p payload = (s, .malformed) := by
  have other := Bool.eq_false_iff.2 (mt (discardAllForm_iff payload).1 all)
  simp [State.judgeDiscardEntry, State.judgeDiscardAll, running, parseDiscardEntry_none index, other]

/-- A DISCARD of entry `e`: the checks in order, and the entry freed. -/
theorem State.judgeDiscardEntry_entry {p : Station} {payload : List Byte} {e : Fin 48} {s : State}
    (running : s.running = true) (good : parseDiscardEntry payload = some e) :
    s.judgeDiscardEntry p payload =
      if p ≠ .ride then (s, .notPermitted)
      else if (s.entry e).state ≠ .retired then (s, .notFound)
      else ((s.freeEntry e).settle s.faults, .taken) := by
  simp [State.judgeDiscardEntry, running, good]

/-- A DISCARD of all RETIRED entries: the check that is left, and the entries freed. -/
theorem State.judgeDiscardAll_all {p : Station} {payload : List Byte} {s : State} (running : s.running = true)
    (good : discardAllForm payload = true) : s.judgeDiscardAll p payload =
      if p ≠ .ride then (s, .notPermitted) else (s.freeRetired.settle s.faults, .taken) := by
  simp [State.judgeDiscardAll, running, good]

/-! ### The answers -/

theorem exec_discardEntry_refused {p : Station} {payload : List Byte} {v : Verdict} {s : State} (takes : s.takes p)
    (refused : (s.counted p).judgeDiscardEntry p payload = (s.counted p, v)) :
    exec (.discardEntry p false payload) s = .next (s.answered p v) :=
  congrArg Host.Outcome.next (State.receipted_refused takes refused)

theorem exec_discardAll_refused {p : Station} {payload : List Byte} {v : Verdict} {s : State} (takes : s.takes p)
    (refused : (s.counted p).judgeDiscardAll p payload = (s.counted p, v)) :
    exec (.discardAllRetired p false payload) s = .next (s.answered p v) :=
  congrArg Host.Outcome.next (State.receipted_refused takes refused)

/-- A DISCARD of a RETIRED entry that passes the checks frees it (R70), which is a notice change (R78). -/
theorem exec_discardEntry_taken {p : Station} {payload : List Byte} {e : Fin 48} {s : State} (takes : s.takes p)
    (running : s.running = true) (retired : (s.entry e).state = .retired)
    (passes : (s.counted p).judgeDiscardEntry p payload = (((s.counted p).freeEntry e).settle s.faults, .taken)) :
    ∃ t, exec (.discardEntry p false payload) s = .next t ∧ (t.port p).verdicts = (s.port p).verdicts ++ [.taken] ∧
      t.entry e = Entry.free ∧ (∀ i, i ≠ e → (t.entry i).unrooted = (s.entry i).unrooted) ∧
      BuffersFreed (fun b => (s.entry e).snapshot = some b) s t ∧
      t.faults.noticeDelay = some 20 ∧ t.faults.absoluteDelay = some (s.faults.absoluteDelay.getD 100) ∧
      TableSettles s t ∧ t.faults.overflow = s.faults.overflow ∧ t.config = s.config ∧ t.motion = s.motion := by
  obtain ⟨verdicts, follows⟩ := State.receipted_follows takes passes (by simp)
    (State.settle_follows (State.freeEntry_notices e (s.counted p)))
  refine ⟨_, rfl, ?_⟩
  generalize s.takeFrame p false _ = t at *
  have settles := follows.settles running
  have here : (t.entry e).unrooted = Entry.free.unrooted := by
    rw [follows.entries, State.entry_freeEntry, if_pos rfl]
  have others (i : Fin 48) (hi : i ≠ e) : (t.entry i).unrooted = (s.entry i).unrooted := by
    rw [follows.entries, State.entry_freeEntry_ne _ hi]
    rfl
  have free : t.entry e = Entry.free := settles.entry_free here
  have active (i : Fin 48) : (t.entry i).active = (s.entry i).active := by
    by_cases same : i = e
    · rw [same, free]
      simp [Entry.active, Entry.free, retired]
    · exact Entry.active_of_unrooted (others i same)
  obtain ⟨delay, absolute⟩ := settles.starts active (.inl ⟨e, by rw [free, retired]; decide⟩)
  have released := (Releases.freeEntry e (s.counted p)).of_eq (s' := s) rfl rfl follows.pool follows.intake
  exact ⟨verdicts, free, others, released.toBuffersFreed, delay, absolute, settles, follows.overflow.trans (by simp),
    follows.config, follows.motion⟩

/-- A DISCARD of all RETIRED entries that passes the checks frees them (R70). -/
theorem exec_discardAll_taken {p : Station} {payload : List Byte} {s : State} (takes : s.takes p) (running : s.running = true)
    (passes : (s.counted p).judgeDiscardAll p payload = ((s.counted p).freeRetired.settle s.faults, .taken)) :
    ∃ t, exec (.discardAllRetired p false payload) s = .next t ∧ (t.port p).verdicts = (s.port p).verdicts ++ [.taken] ∧
      (∀ i, (s.entry i).state = .retired → t.entry i = Entry.free) ∧
      BuffersFreed (fun b => ∃ i, (s.entry i).state = .retired ∧ (s.entry i).snapshot = some b) s t ∧
      (∀ i, (s.entry i).state ≠ .retired → (t.entry i).unrooted = (s.entry i).unrooted) ∧ TableSettles s t ∧
      t.faults.overflow = s.faults.overflow ∧ t.config = s.config ∧ t.motion = s.motion := by
  obtain ⟨verdicts, follows⟩ := State.receipted_follows takes passes (by simp)
    (State.settle_follows (State.freeRetired_notices (s.counted p)))
  refine ⟨_, rfl, ?_⟩
  generalize s.takeFrame p false _ = t at *
  have settles := follows.settles running
  have entry (i : Fin 48) : (t.entry i).unrooted =
      Entry.unrooted (if (s.entry i).state = .retired then Entry.free else s.entry i) := by
    rw [follows.entries, State.freeRetired_entry]
    rfl
  have released := (s.counted p).freeRetired_releases.of_eq (s' := s) rfl rfl follows.pool follows.intake
  refine ⟨verdicts, fun i retired => settles.entry_free ?_, released.toBuffersFreed, fun i other => ?_, settles,
    follows.overflow.trans (by simp), follows.config, follows.motion⟩
  · rw [entry, if_pos retired]
  · rw [entry, if_neg other]

/-- Settles O34: checks 1 and 2 by what either form takes, checks 3 and 4 by `State.judgeDiscardEntry_entry` and
`State.judgeDiscardAll_all`. -/
theorem discardFreesRetiredEntries : Obligations.DiscardFreesRetiredEntries := by
  intro p payload s takes
  refine ⟨fun idle => ?_, fun running index all => ?_, ?_, ?_⟩
  · obtain ⟨one, every⟩ := State.judgeDiscard_idle (p := p) (s := s.counted p) payload idle
    exact ⟨exec_discardEntry_refused takes one, exec_discardAll_refused takes every⟩
  · obtain ⟨one, every⟩ := State.judgeDiscard_malformed (p := p) (s := s.counted p) running index all
    exact ⟨exec_discardEntry_refused takes one, exec_discardAll_refused takes every⟩
  · rintro e running rfl
    have good := (parseDiscardEntry_eq_some _ e).2 ⟨_, rfl, toNat_ofNat_fin (by decide) e⟩
    have judged := State.judgeDiscardEntry_entry (p := p) (s := s.counted p) running good
    refine ⟨fun away => ?_, fun here other => ?_, fun here retired => ?_⟩
    · exact exec_discardEntry_refused takes (judged.trans (if_pos away))
    · exact exec_discardEntry_refused takes (judged.trans (by simp [here, other]))
    · exact exec_discardEntry_taken takes running retired (judged.trans (by simp [here, retired]))
  · intro running form
    have judged := State.judgeDiscardAll_all (p := p) (s := s.counted p) running ((discardAllForm_iff payload).2 form)
    exact ⟨fun away => exec_discardAll_refused takes (judged.trans (if_pos away)),
      fun here => exec_discardAll_taken takes running (judged.trans (by simp [here]))⟩

end Sys2Proof.Machine
end

section
/-!
PROOFS. CLEAR_OVERFLOW: the checks of R69 in order, the overflow map emptied, and the target that the Ladder forms without it.
-/
namespace Sys2Proof.Machine

open Sys2Proof

/-! ### The target that the Ladder forms -/

/-- The target formed afresh holds the overflow demand as the map stands (R116, R117). -/
theorem State.reform_target_overflow (s : State) : s.reform.ladder.target.overflow = s.faults.anyCell := by
  unfold State.reform
  dsimp only
  split
  · obtain ⟨target, -⟩ := State.setRelax_spec true (State.publish
      (s.ladder.published.limits.stricter s.formedTarget).escalate (causeOf s.faults)
      { s with ladder := { s.ladder with target := s.formEnvelope 0 s.formedTarget (causeOf s.faults) } })
    obtain ⟨-, -, -, -, -, -, kept, -⟩ := State.publish_spec (s.ladder.published.limits.stricter s.formedTarget).escalate
      (causeOf s.faults)
      { s with ladder := { s.ladder with target := s.formEnvelope 0 s.formedTarget (causeOf s.faults) } }
    exact congrArg Envelope.overflow (target.trans kept)
  · exact congrArg Envelope.overflow (State.setRelax_spec _ _).1

/-- An event that fills or empties the overflow map has the Ladder form its target afresh (R68, R117). -/
theorem State.settle_target_overflow {old : FaultTable} {u : State} (running : u.running = true)
    (turned : u.faults.anyCell ≠ old.anyCell) : (u.settle old).ladder.target.overflow = u.faults.anyCell := by
  have cells : (u.settleRoots.notify old).faults.anyCell = u.faults.anyCell := by simp [FaultTable.anyCell]
  have told : demandChange old (u.settleRoots.notify old).faults = true := by
    simp [demandChange, cells, turned.symm]
  have settled : u.settle old = (u.settleRoots.notify old).reform := (if_pos running).trans (if_pos told)
  rw [settled, State.reform_target_overflow, cells]

/-- The Ladder, told of a change of the overflow demand, has formed its target, whether it tightens or waits (R117, R119). -/
theorem TableSettles.target {s t : State} (h : TableSettles s t) (turned : t.faults.anyCell ≠ s.faults.anyCell) :
    t.ladder.target.limits = t.formedTarget := by
  cases stricter : t.formedTarget.someStricter s.ladder.published.limits with
  | true => exact (h.tightened (.inr turned) stricter).target
  | false => exact (h.waited (.inr turned) stricter).target

/-! ### The map emptied -/

theorem State.clearCells_cell (s : State) (c : Fin 64) : s.clearCells.faults.overflow[c] = false := by
  simp [State.clearCells]

theorem FaultTable.anyCell_clear {t : FaultTable} (clear : ∀ c : Fin 64, t.overflow[c] = false) : t.anyCell = false :=
  Bool.eq_false_iff.2 fun any => by
    obtain ⟨c, set⟩ := t.anyCell_iff.1 any
    rw [clear] at set
    cases set

/-! ### The checks of R69 -/

theorem State.judgeClearOverflow_malformed {p : Station} {payload : List Byte} {s : State} (running : s.running = true)
    (filled : payload ≠ []) : s.judgeClearOverflow p payload = (s, .malformed) := by
  simp [State.judgeClearOverflow, running, filled]

/-- A CLEAR_OVERFLOW with an empty payload in RUN: the checks that are left, and the map emptied. -/
theorem State.judgeClearOverflow_empty {p : Station} {s : State} (running : s.running = true) :
    s.judgeClearOverflow p [] =
      if p ≠ .ride then (s, .notPermitted)
      else if s.faults.parked = false then (s, .notParked)
      else (s.clearCells.settle s.faults, .taken) := by
  simp [State.judgeClearOverflow, running]

/-! ### The answers -/

theorem exec_clearOverflow_refused {p : Station} {payload : List Byte} {v : Verdict} {s : State} (takes : s.takes p)
    (refused : (s.counted p).judgeClearOverflow p payload = (s.counted p, v)) :
    exec (.clearOverflow p false payload) s = .next (s.answered p v) :=
  congrArg Host.Outcome.next (State.receipted_refused takes refused)

/-- A CLEAR_OVERFLOW that passes the checks empties the map (R69); if a cell was set, the cell count and the overflow demand
change. -/
theorem exec_clearOverflow_taken {p : Station} {s : State} (takes : s.takes p) (running : s.running = true)
    (passes : (s.counted p).judgeClearOverflow p [] = ((s.counted p).clearCells.settle s.faults, .taken)) :
    ∃ t, exec (.clearOverflow p false []) s = .next t ∧ (t.port p).verdicts = (s.port p).verdicts ++ [.taken] ∧
      (∀ c : Fin 64, t.faults.overflow[c] = false) ∧ (∀ i, (t.entry i).unrooted = (s.entry i).unrooted) ∧
      ((∃ c : Fin 64, s.faults.overflow[c] = true) →
        t.faults.noticeDelay = some 20 ∧ t.faults.absoluteDelay = some (s.faults.absoluteDelay.getD 100) ∧
        t.ladder.target.limits = t.formedTarget ∧ t.ladder.target.overflow = false) ∧
      TableSettles s t ∧ t.pool = s.pool ∧ t.intake = s.intake ∧ t.config = s.config ∧ t.motion = s.motion ∧
      t.device = s.device := by
  obtain ⟨verdicts, follows⟩ := State.receipted_follows takes passes rfl (State.settle_follows rfl)
  have ladder : (s.takeFrame p false (State.receipted p (State.judgeClearOverflow p []))).ladder =
      ((s.counted p).clearCells.settle s.faults).ladder := by
    rw [State.receipted_takes takes, passes]
    rfl
  refine ⟨_, rfl, ?_⟩
  generalize s.takeFrame p false _ = t at *
  have settles := follows.settles running
  have cells (c : Fin 64) : t.faults.overflow[c] = false := by
    simp only [follows.overflow]
    exact State.clearCells_cell _ c
  have entries (i : Fin 48) : (t.entry i).unrooted = (s.entry i).unrooted := follows.entries i
  refine ⟨verdicts, cells, entries, fun ⟨c, set⟩ => ?_, settles, follows.pool, follows.intake, follows.config, follows.motion,
    follows.device⟩
  have fewer : t.faults.cellCount < s.faults.cellCount :=
    FaultTable.cellCount_lt (fun i set => by rw [cells] at set; cases set) (cells c) set
  obtain ⟨delay, absolute⟩ := settles.starts (fun i => Entry.active_of_unrooted (entries i)) (.inr fewer.ne)
  have any : s.faults.anyCell = true := s.faults.anyCell_iff.2 ⟨c, set⟩
  have empty : t.faults.anyCell = false := FaultTable.anyCell_clear cells
  have emptied : (s.counted p).clearCells.faults.anyCell = false := FaultTable.anyCell_clear (State.clearCells_cell _)
  refine ⟨delay, absolute, settles.target (by rw [any, empty]; decide), ?_⟩
  rw [ladder, State.settle_target_overflow (by exact running) (by rw [any, emptied]; decide), emptied]

/-- Settles O35: checks 1 and 2 by the device state and the payload, checks 3 and 4 by `State.judgeClearOverflow_empty`. -/
theorem clearOverflowEmptiesTheMap : Obligations.ClearOverflowEmptiesTheMap := by
  intro p payload s takes
  have judged (running : s.running = true) := State.judgeClearOverflow_empty (p := p) (s := s.counted p) running
  refine ⟨fun idle => ?_, fun running filled => ?_, fun running away => ?_, fun running here moves => ?_,
    fun running here parked => ?_⟩
  · exact exec_clearOverflow_refused takes (by simp [State.judgeClearOverflow, idle])
  · exact exec_clearOverflow_refused takes (State.judgeClearOverflow_malformed running filled)
  · exact exec_clearOverflow_refused takes ((judged running).trans (if_pos away))
  · exact exec_clearOverflow_refused takes ((judged running).trans (by simp [here, moves]))
  · exact exec_clearOverflow_taken takes running ((judged running).trans (by simp [here, parked]))

end Sys2Proof.Machine
end
